-- ==== Sys2Proof/Word.lean ====
section
/-!
DEFINITION. Words, bytes and the plain names the whole model uses: lanes, sets of lanes, and how numbers are
spelt as bytes (00_scope R13, R14).
-/

namespace Sys2Proof

/-- A 32-bit register or image word (00_scope R13: bit 0 is the least significant). -/
abbrev Word := BitVec 32

/-- One byte, the smallest addressable unit of every memory of the module. -/
abbrev Byte := BitVec 8

/-- The three identical compute lanes (00_scope R7). -/
inductive Lane where
  | x | y | z
  deriving DecidableEq, Repr

/-- The index of a lane in registers and addresses: X 0, Y 1, Z 2. -/
def Lane.idx : Lane → Nat
  | .x => 0
  | .y => 1
  | .z => 2

/-- All lanes in the order X, Y, Z. -/
def Lane.all : List Lane := [.x, .y, .z]

/-- One thing per lane. -/
structure PerLane (α : Type) where
  x : α
  y : α
  z : α
  deriving DecidableEq, Repr

/-- The entry of one lane. -/
def PerLane.get {α : Type} (p : PerLane α) : Lane → α
  | .x => p.x
  | .y => p.y
  | .z => p.z

/-- The same entries, but for one lane. -/
def PerLane.set {α : Type} (p : PerLane α) (l : Lane) (v : α) : PerLane α :=
  match l with
  | .x => { p with x := v }
  | .y => { p with y := v }
  | .z => { p with z := v }

/-- The same thing for every lane. -/
def PerLane.all {α : Type} (v : α) : PerLane α := ⟨v, v, v⟩

/-- A set of lanes. -/
abbrev LaneSet := PerLane Bool

/-- The lanes of a set, in the order X, Y, Z. -/
def LaneSet.list (s : LaneSet) : List Lane := Lane.all.filter s.get

/-- How many lanes a set holds. -/
def LaneSet.size (s : LaneSet) : Nat := s.list.length

/-- Bit `i` of a number, as 0 or 1. -/
def bitAt (n i : Nat) : Nat := n / 2 ^ i % 2

/-- The field [hi:lo] of a number. -/
def bits (n hi lo : Nat) : Nat := n / 2 ^ lo % 2 ^ (hi + 1 - lo)

/-- A Bool as a bit. -/
def b2n (b : Bool) : Nat := if b then 1 else 0

/-- A number with bit `i` set or cleared. -/
def setB (n i : Nat) (b : Bool) : Nat := n - bitAt n i * 2 ^ i + b2n b * 2 ^ i

/-- `n` bytes of a number, least significant first (00_scope R14: registers and BARs are little-endian). -/
def leBytes : Nat → Nat → List Byte
  | 0, _ => []
  | n + 1, v => BitVec.ofNat 8 v :: leBytes n (v / 256)

/-- The number that bytes spell, least significant first. -/
def ofLe : List Byte → Nat
  | [] => 0
  | b :: bs => b.toNat + 256 * ofLe bs

/-- `n` bytes of a number, most significant first (network byte order). -/
def beBytes (n v : Nat) : List Byte := (leBytes n v).reverse

/-- The number that bytes spell, most significant first. -/
def ofBe (l : List Byte) : Nat := ofLe l.reverse

/-- Saturating count: one more, at most `cap`. -/
def satInc (cap n : Nat) : Nat := if n < cap then n + 1 else n

/-- A number read as a two's complement number of `w` bits. -/
def toSigned (w n : Nat) : Int := (BitVec.ofNat w n).toInt

/-- An integer as a two's complement number of `w` bits. -/
def ofSigned (w : Nat) (i : Int) : Nat := (BitVec.ofInt w i).toNat

end Sys2Proof
end

