-- ==== Sys2Proof/Syntax.lean ====
section
/-!
DEFINITION. The commands of the module: the frames and names they carry, and one constructor of `Instr` per row of the
opcode table. An operand is what the row's rules say the outside brings: what a line, a bus or a link shows, what a
register write carries, what a lane's software hands over, or the outcome of a physical check.
-/

namespace Sys2Proof

/-- A Luosh frame (05 R206, Tables 5.1 to 5.4): destination and source address, EtherType, the fields of the Luosh header with its
reserved bits from byte 0 on, what stands between the header and the FCS (the payload, then pad bytes), and the FCS. -/
structure Frame where
  dst     : Nat
  src     : Nat
  etype   : Nat
  ver     : Nat
  kind    : Nat
  ov      : Bool
  repeat_ : Bool
  dir     : Bool
  node    : Nat
  slot    : Nat
  cycle   : Nat
  plen    : Nat
  hchk    : Nat
  hop     : Nat
  resv    : Nat
  body    : List Byte
  fcs     : Nat
  deriving DecidableEq, Repr

/-- A cascade link frame (10 Table 10.3); `resv` holds its reserved bits, those of byte 1 before byte 13. -/
structure CxFrame where
  ver   : Nat
  kind  : Nat
  src   : Nat
  dst   : Nat
  frag  : Nat
  frags : Nat
  num   : Nat
  dlen  : Nat
  wlen  : Nat
  state : Nat
  resv  : Nat
  data  : List Byte
  crc   : Nat
  deriving DecidableEq, Repr

/-- The oscillators and PLLs of 12 Table 12.2. -/
inductive Pll where
  | tcxo | lane (l : Lane) | icn | keeper | time | port
  deriving DecidableEq, Repr

/-- The width of an access by a core: one to eight bytes (01 R46). -/
inductive AccWidth where
  | b1 | b2 | b4 | b8
  deriving DecidableEq, Repr

/-- The bytes of an access. -/
def AccWidth.bytes : AccWidth → Nat
  | .b1 => 1
  | .b2 => 2
  | .b4 => 4
  | .b8 => 8

/-- The five memories of a lane whose words have check bits (04 R158): lane SRAM, image memory, program store, instance memory,
force table. -/
inductive EccMem where
  | sram | image | prog | inst | force
  deriving DecidableEq, Repr

/-- What has befallen a 64-bit word that a command reads: the stored bits that have changed (data in 63 to 0, check bits above), and
the bits in which the array's address differs from the requested one in this read (04 R159). -/
structure Upset where
  mem   : EccMem
  word  : Nat
  flips : BitVec 72
  addr  : Nat
  deriving DecidableEq, Repr

/-- What the comparator reports for a pattern of an injection run (04 R152): the two-wire codes of groups G0 to G4, two bits each,
and the locations of Table 4.11 at which a parity error is reported. -/
structure InjReport where
  codes  : BitVec 10
  parity : BitVec 54
  deriving DecidableEq, Repr

/-- What a voter copy answers to a word set of Prism's start-up test (04 R172): the released word, if any, and the lane excluded. -/
structure VoteAnswer where
  released : Option (BitVec 64)
  excluded : Option Lane
  deriving DecidableEq, Repr

/-- The commands: one constructor per row of the opcode table. -/
inductive Instr where
  /-- Input freeze (02 R58); `corr`, `unc`: lanes whose input broadcast had a corrected or an uncorrectable word (01 R28, R29). -/
  | inputFreeze (corr unc : LaneSet)
  /-- A grid point passes while a scan is open (02 R76). -/
  | freezePointPassedOver
  /-- The Deadbolt's challenge interrupt to the lanes (07 R303). -/
  | dbChallengeIrq
  /-- A lane's Tumbler pass (03 R88); what has befallen words of its image memory, and of its other memories (R111). -/
  | tumblerPass (l : Lane) (image others : List Upset)
  /-- A lane's Tumbler pass ends (02 R61). -/
  | tumblerPassEnd (l : Lane)
  /-- A lane's core pass ends (02 R61): what its software has written, by lane-local address, and what has befallen words of lane SRAM
  that its cores have read (04 R160). -/
  | coreDone (l : Lane) (writes : List (Nat × Word)) (upsets : List Upset)
  /-- The core budget of a lane is exceeded (02 R62). -/
  | coreBudgetExceeded (l : Lane)
  /-- The vote point of a scan (02 R63). -/
  | votePoint
  /-- A lane enters DOZE (02 R68). -/
  | laneDoze (l : Lane)
  /-- The commit (02 R66). -/
  | commit
  /-- The 1 ms keep-alive tick between commits (08 R341). -/
  | keepaliveTick1ms
  /-- The third commit after a bank was taken out (08 R348). -/
  | bankOosOverrun (k : Fin 6)
  /-- CSTOP_MAX has passed in a controlled stop (11 R427). -/
  | cstopMaxExpiry
  /-- The cores of a lane differ (04 R146). -/
  | coreMiscompare (l : Lane) (diff : BitVec 168)
  /-- An invalid two-rail code (04 R148). -/
  | comparatorRailFault (l : Lane) (groups : BitVec 5)
  /-- A delay register parity error (04 R149). -/
  | delayRegParityError (l : Lane) (loc : Fin 54)
  /-- An injection run starts (04 R155). -/
  | injectionRun (l : Lane)
  /-- An injection run ends (04 R152): the reports of patterns that are not those of a sound comparator. -/
  | injectionRunEnd (l : Lane) (odd : List (Fin 64 × InjReport))
  /-- INJ_AGE has reached 2,048 (04 R157). -/
  | injectionTestLate (l : Lane)
  /-- INJ_AGE has reached 8,192 (04 R157). -/
  | injectionTestOverdue (l : Lane)
  /-- A scrub sweep ends (04 R161); what has befallen words of the lane's SRAM, image memory and program store, and of its instance
  memory and force table. -/
  | scrubSweep (l : Lane) (sram image prog tables : List Upset)
  /-- A scrub sweep is late (04 R162). -/
  | scrubLate (l : Lane)
  /-- Prism's self-check fails (04 R171). -/
  | prismSelfCheckFault
  /-- Prism's start-up test (04 R172): the answers that are not those of a sound voter, by word set and copy. -/
  | prismStartupTest (odd : List (Fin 196 × Bool × VoteAnswer))
  /-- One second of the degraded allowance (04 R176). -/
  | degAllowTick
  /-- The degraded allowance is used up (04 R179). -/
  | degAllowExpired
  /-- The allowance remainder goes to the journal (04 R178). -/
  | degRemainJournal
  /-- A hot repair step has timed out (04 R180). -/
  | repairStepTimeout
  /-- The reload of a repair target ends (04 R182). -/
  | reloadDone
  /-- The self-test of a repair target ends (04 R180). -/
  | repairSelftestDone (pass : Bool)
  /-- A copy window opens between two lanes (04 R184). -/
  | copyWindowOpen (source target : Lane)
  /-- The state copy is complete (04 R185); 2 µs of the window are left (R186). -/
  | copyComplete (room : Bool)
  /-- An access through the JTAG port to a lane's debug port, or to the Keeper (04 R192, R193). -/
  | debugPortAccess (l : Option Lane)
  /-- A Luosh port's link comes up (05 R205). -/
  | linkUp (p : Fin 4)
  /-- A LINK frame arrives (05 R205), `sub` ns after the clock; the own turn-around time if it is answered. -/
  | linkFrameRx (p : Fin 4) (f : Frame) (sub : Fin 4) (turn : Nat)
  /-- A link's 16 samples are taken (05 R205). -/
  | linkMeasured (p : Fin 4)
  /-- A frame to be forwarded starts to arrive on `p` for `q` (05 R201), `sub` ns after the clock; the hop delay that it gets (05 R202). -/
  | frameForward (p q : Fin 4) (f : Frame) (sub : Fin 4) (hopNs : Int)
  /-- A cycle-start frame starts to arrive (05 R222), `sub` ns after the clock. -/
  | csFrameRx (p : Fin 4) (f : Frame) (sub : Fin 4)
  /-- A STARTUP frame starts to arrive (05 R238), `sub` ns after the clock. -/
  | startupFrameRx (p : Fin 4) (f : Frame) (sub : Fin 4)
  /-- A DATA frame starts to arrive (05 R227), `sub` ns after the clock; errors of its input broadcast (01 R28). -/
  | dataFrameRx (p : Fin 4) (f : Frame) (sub : Fin 4) (corr unc : LaneSet)
  /-- A CLAIM frame starts to arrive (05 R245), `sub` ns after the clock. -/
  | claimFrameRx (p : Fin 4) (f : Frame) (sub : Fin 4)
  /-- A spare slot has been idle for RELEASE cycles (05 R247). -/
  | spareRelease (spare : Fin 512)
  /-- Eight cycles after a departure (05 R229). -/
  | rejoinHoldoffEnd
  /-- A cycle without a valid CS frame (05 R234). -/
  | csFrameMissing
  /-- A Luosh line is lost (05 R231). -/
  | lineLost (lineB : Bool)
  /-- The listen timeout (05 R235). -/
  | listenTimeout
  /-- The node sends a STARTUP frame (05 R237). -/
  | startupFrameTx
  /-- The master sends the start of a cycle (05 R220). -/
  | csFrameTx (cycle : Nat)
  /-- A coldstart node's succession timeout (05 R239). -/
  | successionTimeout
  /-- The handover cycle (05 R241). -/
  | handoverCycle
  /-- A slot of a cycle to send on a port (05 R219, R249). -/
  | dataSlotTx (slot : Fin 4096) (p : Fin 4) (cycle : Nat)
  /-- T_EXP has passed without confirmation (06 R270). -/
  | pslTimeout (c : Fin 256)
  /-- T_EXP has passed in state ERROR (06 R274). -/
  | pslErrorRestart (c : Fin 256)
  /-- A PSL datagram on UDP port 51721 (06 R260). -/
  | pslEthDatagramRx (ip : Nat) (payload : List Byte)
  /-- RST_N falls (01 R42). -/
  | rstNAssert
  /-- RST_N is released (13 R461); the straps CASC_POS, HINGE_EN and ENC_TYPE. -/
  | rstNRelease (pos : Fin 4) (hinge : Bool) (htl : Fin 16)
  /-- The Deadbolt's self-test ends (13 R470). -/
  | dbSelftestEnd (pass : Bool)
  /-- A fault within the Deadbolt (07 R287). -/
  | dbInternalFault (fcode : Fin 16)
  /-- The armed block's CRC is computed again (07 R287). -/
  | paramCrcRecheck
  /-- A check strobe reaches the Deadbolt (07 R297). -/
  | dbCheckPoint
  /-- The next strobe is overdue (07 R301). -/
  | dbStrobeTimeout
  /-- A lane writes its response (07 R299). -/
  | dbResp (l : Lane) (v : Word)
  /-- A safety input terminal changes (07 R306). -/
  | siTerminalChange (si : Fin 16) (level : Bool)
  /-- A safety input has held its level for T_FILT (07 R306). -/
  | siFilterExpiry (si : Fin 16)
  /-- A pair has been in TRANS for T_DISC (07 R307). -/
  | pairDiscrepancyTimeout (p : Fin 8)
  /-- A test pulse starts on a TPO (07 R304). -/
  | testPulse (j : Fin 4)
  /-- A test pulse ends (07 R305). -/
  | pulseWindowEnd (j : Fin 4)
  /-- 100 µs after the pulse window (07 R305). -/
  | crossConnectionCheck (j : Fin 4)
  /-- The Deadbolt's speed computation (07 R316). -/
  | speedComputation
  /-- Standstill of an axis (07 R318). -/
  | standstill (a : Fin 4)
  /-- T_STOP_MAX of a stopping axis (07 R312). -/
  | tStopMaxExpiry (a : Fin 4)
  /-- T_HOLD of a holding axis (07 R310). -/
  | tHoldExpiry (a : Fin 4)
  /-- T_PRE of a released axis (07 R319). -/
  | tPreElapsed (a : Fin 4)
  /-- The off test of an output side (07 R293). -/
  | sideOffTest (side : Fin 12) (follows : Bool)
  /-- An output side does not follow (07 R293). -/
  | sideStuckFault (side : Fin 12) (on : Bool)
  /-- A brake current sample while released (07 R320). -/
  | brakeCurrentFault (b : Fin 2) (mA : Nat)
  /-- A brake current sample above 3.5 A (07 R320). -/
  | brakeOvercurrent (b : Fin 2) (mA : Nat)
  /-- A brake current sample while applied (07 R320). -/
  | brakeAppliedCurrent (b : Fin 2) (mA : Nat)
  /-- The engage phase of a brake test ends (07 Table 7.6). -/
  | brakeTestEngageEnd (b : Fin 2)
  /-- The load phase of a brake test ends (07 R323). -/
  | brakeTestPass (b : Fin 2)
  /-- A brake test is due (07 R324). -/
  | btIntervalExpiry (b : Fin 2)
  /-- BT_GRACE has passed (07 R324). -/
  | btGraceExpiry (b : Fin 2)
  /-- The brake side allowance is used up (07 R325). -/
  | brkAllowExpiry (b : Fin 2)
  /-- An encoder fault in the Deadbolt (07 R315). -/
  | dbEncoderFault (e : Fin 4)
  /-- An encoder fault in the Deadbolt ends (07 R315). -/
  | dbEncoderFaultClear (e : Fin 4)
  /-- A pump source stops or leaves its range (07 R290). -/
  | vgdLoss (pumpS pumpD : Bool)
  /-- SV24 leaves its range (19 R630). -/
  | sv24Loss
  /-- SV24 is in its range again (19 R630). -/
  | sv24Return
  /-- HASP_IN reads held (10 R390). -/
  | haspInHeld
  /-- HASP_IN reads free (10 R390). -/
  | haspInFree
  /-- A test burst is due (10 R394). -/
  | haspTestBurst
  /-- A test burst arrives (10 R394). -/
  | haspBurstRx
  /-- The Hasp line is lost (10 R394). -/
  | haspLineLoss
  /-- No verdict for 8 freezes (10 R400). -/
  | refereeLost
  /-- HOLD_OFF has passed (10 R399). -/
  | takebackSet
  /-- The master yields (10 R403). -/
  | masterYield
  /-- A cascade link comes up (10 R406). -/
  | cascadeLinkUp (dn : Bool) (farPos : Fin 4) (delayNs : Nat)
  /-- A SYNC frame starts to arrive (10 R407, R408), `sub` ns after the clock; the hold that it gets where it is forwarded. -/
  | cascadeSyncRx (dn : Bool) (f : CxFrame) (sub : Fin 4) (holdNs : Nat)
  /-- A cascade DATA frame arrives (10 R410). -/
  | cascadeDataRx (dn : Bool) (f : CxFrame)
  /-- CX_WAIT has passed (10 R411). -/
  | cxWaitExpiry
  /-- The synchronism is lost (10 R408). -/
  | cascadeUnsync
  /-- A cascade MBOX frame arrives from one position for another (10 R410). -/
  | cascadeMboxRx (dn : Bool) (src dst : Fin 4) (f : CxFrame)
  /-- A DIO comparator changes (08 R336). -/
  | dioTerminalChange (n : Fin 48) (level : Bool)
  /-- A DIO level has held for its filter time (08 R336). -/
  | dioFilterExpiry (n : Fin 48)
  /-- An output overloads (08 R338). -/
  | dioOverload (n : Fin 48) (thermal : Bool)
  /-- 100 ms after an overload (08 R338). -/
  | dioRetry (n : Fin 48)
  /-- An output reads back wrong (08 R339). -/
  | dioReadbackFault (n : Fin 48)
  /-- An output has no load (08 R339). -/
  | dioOpenLoad (n : Fin 48)
  /-- A bank's field supply is present (08 R333). -/
  | fieldSupplyPresent (k : Fin 6) (v : Nat)
  /-- A bank's field supply is lost (08 R333). -/
  | fieldSupplyLost (k : Fin 6) (v : Nat)
  /-- A bank's keep-alive is late (08 R342). -/
  | keepaliveTrip (k : Fin 6)
  /-- A reflex cell fires (08 R351). -/
  | reflexFire (cell : Fin 64)
  /-- A reflex pulse ends (08 R351). -/
  | reflexPulseEnd (cell : Fin 64)
  /-- An analog conversion ends (08 R353). -/
  | aiConversion (c : Fin 8) (code mV : Nat) (limit : Bool)
  /-- An encoder edge (08 R359, 01 R43). -/
  | encEdge (e : Fin 4) (up : Bool)
  /-- An encoder Z pulse (08 R360). -/
  | encZPulse (e : Fin 4)
  /-- An encoder fault (08 R361). -/
  | encFault (e : Fin 4) (cause : Fin 3)
  /-- An encoder fault ends (08 R361). -/
  | encFaultClear (e : Fin 4)
  /-- ENC_V switches on (19 R635). -/
  | encVSwitchOn (e : Fin 4) (htl : Bool)
  /-- ENC_TYPE changes (19 R635). -/
  | encTypeChange (e : Fin 4) (htl : Bool)
  /-- An edge at source 16 × `reg` + `n`, that of field `n` of CAP_SEL register `reg` (09 R379, R380). -/
  | captureEdge (reg : Fin 5) (n : Fin 16) (rising : Bool)
  /-- A reader advances CAP_RD_IDX (09 R382). -/
  | capRdIdxWrite (reader : Fin 4) (v : Nat)
  /-- A write of TB_SNAP.GO (09 R367). -/
  | tbSnap
  /-- The Keeper writes TB2_ADJ (09 R371). -/
  | tb2Adj (v : Word)
  /-- The time PLL locks (09 R368). -/
  | timePllLock
  /-- A PLL or the TCXO loses lock (12 R446). -/
  | pllLockLoss (p : Pll)
  /-- PTP Sync, which arrives now, with its Follow_Up (09 R371): the time at which the master sent it, in ns of TAI. -/
  | ptpSyncRx (domain t1 : Nat)
  /-- PTP Announce (09 R371). -/
  | ptpAnnounceRx (domain utcOffset : Nat)
  /-- Ten Sync intervals without Sync (09 R371). -/
  | ptpHoldover
  /-- Once per second of TB[1] (09 R377). -/
  | storedPairWrite
  /-- The Keeper compares its view of a unit with the voted words (11 R433). -/
  | managementViewCompare (cls : Nat) (idx : Nat) (view : Word)
  /-- The Keeper reads mode SAFE (11 R423). -/
  | keeperSafeSeen
  /-- SUPW_N falls (12 R442). -/
  | supwNFall
  /-- The supply window runs out (12 R443): time low, level now. -/
  | supplyWindowExpiry (lowMs : Nat) (low : Bool)
  /-- The logic supply falls below 14.0 V (12 R440). -/
  | logicSupplyCollapse
  /-- The always-on supply falls below 1.8 V (12 R458). -/
  | aonSupplyLoss
  /-- The Keeper writes PARK_GO (12 R452). -/
  | parkGo
  /-- 100 ms after PARK_ARM (12 R452). -/
  | parkArmTimeout
  /-- WAKE_N held low for 100 µs (12 R454). -/
  | wakeNFall
  /-- The tick count reaches AON_ALARM (12 R454). -/
  | rtcAlarm
  /-- Energy on a Luosh port for 100 µs (12 R454). -/
  | luoshWakeEnergy
  /-- No WAKE frame within 50 ms (12 R454). -/
  | spuriousWakeTimeout
  /-- A wake is complete (12 R455); the lanes whose PLL is in lock. -/
  | wakeComplete (locked : LaneSet)
  /-- The Keeper restores after a wake (13 R480). -/
  | wakeRestore
  /-- A junction temperature sample in 0.1 °C (12 R460). -/
  | tjSample (t : Int)
  /-- A lane's boot ROM has checked the lane runtime (13 R467). -/
  | laneRuntimeCheckDone (l : Lane)
  /-- The Keeper's boot ROM has checked the banks (13 R466). -/
  | keeperFirmwareCheckDone
  /-- The Keeper replays the journal (17 R575). -/
  | journalReplay
  /-- The Keeper rebuilds the recorder index (17 R587). -/
  | recorderIndexRebuild
  /-- The automatic RUN request (13 R478). -/
  | autostartRunRequest
  /-- A lane has finished a program load (03 R134). -/
  | programLoadDone (l : Lane)
  /-- A lane writes TUM_CTRL.LOAD_EN = 1 (03 R133). -/
  | loadEn (l : Lane)
  /-- A lane writes PS_WIN (03 R140). -/
  | psWinWrite (l : Lane) (off : Nat) (v : Word)
  /-- The Keeper's watchdog expires (14 R516). -/
  | keeperWatchdogExpiry
  /-- A Keeper firmware exception (14 R516). -/
  | keeperException
  /-- The Keeper's restart completes (14 R516). -/
  | keeperRestartDone
  /-- A write of RING = 1 (14 R492). -/
  | mbDoorbellRing (p : Fin 4)
  /-- A datagram on UDP port 51720 (14 R488); `src` names address and port. -/
  | maintDatagramRx (src : Nat) (bytes : List Byte)
  /-- The Keeper posts its next request into the ring (14 R495). -/
  | keeperRequestPost
  /-- The Keeper reads the next voted verdict (01 R37). -/
  | verdictRead
  /-- 2 s after the ring without a verdict (14 R494). -/
  | requestPendingTimeout (p : Fin 4)
  /-- 60 s without a command of a transfer (14 R503). -/
  | xferTimeout (kind : Nat)
  /-- 600 s after the nonce was issued (14 R513). -/
  | tokenNonceExpiry
  /-- 600 s after the token was accepted (14 R513). -/
  | serviceTokenExpiry
  /-- The SERVICE duration expires (14 R514). -/
  | serviceExpiry
  /-- The Keeper writes the next queue frame to the journal (17 R571). -/
  | journalRecordWrite
  /-- The current half holds 12 MiB (17 R577). -/
  | compactionStart
  /-- CKPT_END is written (17 R577). -/
  | compactionDone
  /-- The yearly refresh (17 R578). -/
  | yearlyRefresh
  /-- The Keeper writes a TIME record (17 R585). -/
  | timeRecord
  /-- The Keeper renews the recorder snapshot (17 R589). -/
  | recorderSnapshotRenew
  /-- A host memory write (15 R523); a byte not enabled is none. -/
  | pcieInboundWrite (bar2 : Bool) (off : Nat) (data : List (Option Byte)) (tag : Fin 256)
  /-- A host memory read (15 R524). -/
  | pcieInboundRead (bar2 : Bool) (off len : Nat) (fullBe : Bool)
  /-- A request the bridge does not support (15 R520). -/
  | pcieUnsupportedRequest
  /-- A reset of the PCIe side (15 R519). -/
  | pcieReset
  /-- An outbound read without completion in 50 ms (15 R527). -/
  | outboundReadTimeout (ch : Fin 16)
  /-- A read of PEL_POP (15 R534). -/
  | pelPop
  /-- A vector is unmasked (15 R537). -/
  | msixUnmask (v : Fin 32)
  /-- A write of CH_GO.START (16 R544). -/
  | chGoStart (e : Fin 4) (n : Fin 16)
  /-- A timer channel fires (16 R545). -/
  | dmaTimerTrigger (e : Fin 4) (n : Fin 16)
  /-- A write of LVL_ADD (16 R547). -/
  | lvlAdd (e : Fin 4) (n : Fin 16) (v : Nat)
  /-- A free engine grants a channel (16 R548). -/
  | dmaGrant (e : Fin 4)
  /-- The read-back of a descriptor's last write returns (16 R552), equal or not. -/
  | descriptorComplete (e : Fin 4) (ok : Bool)
  /-- A read, write or host error stops the running channel (16 R554) in the burst after so many more (16 R549). -/
  | dmaError (e : Fin 4) (code : Fin 12) (bursts : Nat)
  /-- A write of PAUSE = 1 (16 R555); so many more bursts of the descriptor end before it takes effect. -/
  | chPause (e : Fin 4) (n : Fin 16) (bursts : Nat)
  /-- The writes in flight are complete (16 R555). -/
  | chPauseDrained (e : Fin 4) (n : Fin 16)
  /-- A write of PAUSE = 0 (16 R555). -/
  | chResume (e : Fin 4) (n : Fin 16)
  /-- A write of EN = 0 (16 R556); so many more bursts of the descriptor end before it takes effect. -/
  | chAbort (e : Fin 4) (n : Fin 16) (bursts : Nat)
  /-- A write of CVU_CTRL.INIT (16 R558). -/
  | cvuInit (e : Fin 4) (u : Fin 4)
  /-- A write of DATA_B (16 R558). -/
  | dataB (e : Fin 4) (u : Fin 4) (v : Byte)
  /-- A write of DATA_W (16 R558). -/
  | dataW (e : Fin 4) (u : Fin 4) (v : Word)
  /-- A read of VALUE_LO or RESULT_LO (16 R558). -/
  | cvuLowWordRead (e : Fin 4) (u : Fin 4) (result : Bool)
  /-- HB_CS_N falls (18 R593): HB_OE_N low, HB_WE_N low, address, data. -/
  | hingeAccess (oe we : Bool) (a : Byte) (d : BitVec 16)
  /-- A read of a split value's highest register (18 R597). -/
  | hingeSplitHighRead (a : Byte)
  /-- A read of FCS_HI (18 R598). -/
  | fcsHiRead
  /-- A write of 0x0055 to STRIKE (18 R601). -/
  | hingeStrikeArm
  /-- 100 µs without 0x00AA (18 R601). -/
  | hingeStrikeTimeout
  /-- A write of TUN_DATA (18 R603). -/
  | tunDataWrite (d : BitVec 16)
  /-- A read of TUN_DATA (18 R603). -/
  | tunDataRead
  /-- The refresh after a commit (18 R599). -/
  | hingeRefresh
  /-- The response of pair 3 arrives (18 R602). -/
  | hingeResponse
  /-- Strike with CMD_CODE 0x0001 (18 R601). -/
  | hingeStop
  /-- Strike with CMD_CODE 0x0002 (18 R601). -/
  | hingeRun
  /-- Strike with CMD_CODE 0x0003 (18 R601). -/
  | hingeFaultAck
  /-- Strike with CMD_CODE 0x0010 (18 R602). -/
  | hingeForcePoint
  /-- Strike with CMD_CODE 0x0011 (18 R602). -/
  | hingeForceWord
  /-- Strike with CMD_CODE 0x0012 (18 R602). -/
  | hingeForceClear
  /-- Strike with CMD_CODE 0x0013 (18 R602). -/
  | hingeForceClearAll
  /-- Strike with CMD_CODE 0x0014 (18 R602). -/
  | hingeForceAck
  /-- Strike with CMD_CODE 0x0020 (18 R602). -/
  | hingeTimeSet
  /-- Strike with CMD_CODE 0x007F (18 R603). -/
  | hingeTunnelSend
  /-- Strike with any other code (18 R602). -/
  | hingeUnknownCode
  /-- Mailbox command of pair `p` (14 Table 14.8, R505). -/
  | nop (p : Fin 4)
  /-- Mailbox command of pair `p` (14 Table 14.8, R502). -/
  | reqStatus (p : Fin 4)
  /-- Mailbox command of pair `p` (14 Table 14.8, R489). -/
  | relay (p : Fin 4)
  /-- Mailbox command of pair `p` (14 Table 14.8, R503). -/
  | xferBegin (p : Fin 4)
  /-- Mailbox command of pair `p` (14 Table 14.8, R503). -/
  | xferData (p : Fin 4)
  /-- Mailbox command of pair `p` (14 Table 14.8, R503). -/
  | xferEnd (p : Fin 4)
  /-- Mailbox command of pair `p` (14 Table 14.8, R503). -/
  | xferAbort (p : Fin 4)
  /-- Mailbox command of pair `p` (14 Table 14.8, R509). -/
  | ident (p : Fin 4)
  /-- Mailbox command of pair `p` (14 Table 14.8, R505). -/
  | statusGet (p : Fin 4)
  /-- Mailbox command of the pair `q.1`; `q.2` is the Keeper's own view of the unit (14 Table 14.8, R433). -/
  | unitGet (q : Fin 4 × Word)
  /-- Mailbox command of pair `p` (14 Table 14.8, R476). -/
  | modeSetStop (p : Fin 4)
  /-- Mailbox command of pair `p` (14 Table 14.8, R476). -/
  | modeSetRun (p : Fin 4)
  /-- Mailbox command of pair `p` (14 Table 14.8, R514). -/
  | modeSetService (p : Fin 4)
  /-- Mailbox command of pair `p` (14 Table 14.8, R195). -/
  | modeSetLeaveService (p : Fin 4)
  /-- Mailbox command of pair `p` (14 Table 14.8, R429). -/
  | faultAck (p : Fin 4)
  /-- Mailbox command of pair `p` (14 Table 14.8, R451). -/
  | park (p : Fin 4)
  /-- Mailbox command of pair `p` (14 Table 14.8, R516). -/
  | keeperRestart (p : Fin 4)
  /-- Mailbox command of pair `p` (14 Table 14.8, R134). -/
  | progLoad (p : Fin 4)
  /-- Mailbox command of pair `p` (14 Table 14.8, R505). -/
  | progInfo (p : Fin 4)
  /-- Mailbox command of pair `p` (14 Table 14.8, R128). -/
  | forceSet (p : Fin 4)
  /-- Mailbox command of pair `p` (14 Table 14.8, R129). -/
  | forceClear (p : Fin 4)
  /-- Mailbox command of pair `p` (14 Table 14.8, R506). -/
  | forceList (p : Fin 4)
  /-- Mailbox command of pair `p` (14 Table 14.8, R138). -/
  | forceAck (p : Fin 4)
  /-- Mailbox command of pair `p` (14 Table 14.8, R505). -/
  | cfgSetScan (p : Fin 4)
  /-- Mailbox command of pair `p` (14 Table 14.8, R505). -/
  | cfgSetFieldIo (p : Fin 4)
  /-- Mailbox command of pair `p` (14 Table 14.8, R414). -/
  | cfgSetPair (p : Fin 4)
  /-- Mailbox command of pair `p` (14 Table 14.8, R414). -/
  | cfgSetCascade (p : Fin 4)
  /-- Mailbox command of pair `p` (14 Table 14.8, R505). -/
  | cfgSetTime (p : Fin 4)
  /-- Mailbox command of pair `p` (14 Table 14.8, R491). -/
  | cfgSetModule (p : Fin 4)
  /-- Mailbox command of pair `p` (14 Table 14.8, R505). -/
  | cfgSetMaintIpv4 (p : Fin 4)
  /-- Mailbox command of pair `p` (14 Table 14.8, R505). -/
  | cfgGet (p : Fin 4)
  /-- Mailbox command of pair `p` (14 Table 14.8, R216). -/
  | luSched (p : Fin 4)
  /-- Mailbox command of pair `p` (14 Table 14.8, R242). -/
  | luHandover (p : Fin 4)
  /-- Mailbox command of pair `p` (14 Table 14.8, R505). -/
  | luStat (p : Fin 4)
  /-- Mailbox command of pair `p` (14 Table 14.8, R510). -/
  | safeCfg (p : Fin 4)
  /-- Mailbox command of pair `p` (14 Table 14.8, R275). -/
  | pslAck (p : Fin 4)
  /-- Mailbox command of pair `p` (14 Table 14.8, R505). -/
  | safeInfo (p : Fin 4)
  /-- Mailbox command of pair `p` (14 Table 14.8, R591). -/
  | jrnlInfo (p : Fin 4)
  /-- Mailbox command of pair `p` (14 Table 14.8, R506). -/
  | jrnlRead (p : Fin 4)
  /-- Mailbox command of pair `p` (14 Table 14.8, R591). -/
  | recInfo (p : Fin 4)
  /-- Mailbox command of pair `p` (14 Table 14.8, R588). -/
  | recRead (p : Fin 4)
  /-- Mailbox command of pair `p` (14 Table 14.8, R580). -/
  | jrnlExport (p : Fin 4)
  /-- Mailbox command of pair `p` (14 Table 14.8, R581). -/
  | jrnlImport (p : Fin 4)
  /-- Mailbox command of pair `p` (14 Table 14.8, R505). -/
  | timeGet (p : Fin 4)
  /-- Mailbox command of pair `p` (14 Table 14.8, R508). -/
  | timeSet (p : Fin 4)
  /-- Mailbox command of pair `p` (14 Table 14.8, R508). -/
  | timeAdj (p : Fin 4)
  /-- Mailbox command of pair `p` (14 Table 14.8, R371). -/
  | timeSrc (p : Fin 4)
  /-- Mailbox command of pair `p` (14 Table 14.8, R454). -/
  | alarmSet (p : Fin 4)
  /-- Mailbox command of pair `p` (14 Table 14.8, R180). -/
  | quiesce (p : Fin 4)
  /-- Mailbox command of pair `p` (14 Table 14.8, R182). -/
  | reload (p : Fin 4)
  /-- Mailbox command of pair `p` (14 Table 14.8, R180). -/
  | selftest (p : Fin 4)
  /-- Mailbox command of pair `p` (14 Table 14.8, R183). -/
  | copy (p : Fin 4)
  /-- Mailbox command of pair `p` (14 Table 14.8, R511). -/
  | fwWrite (p : Fin 4)
  /-- Mailbox command of pair `p` (14 Table 14.8, R511). -/
  | fwActivate (p : Fin 4)
  /-- Mailbox command of pair `p` (14 Table 14.8, R505). -/
  | fwInfo (p : Fin 4)
  /-- Mailbox command of pair `p` (14 Table 14.8, R512). -/
  | otpSvn (p : Fin 4)
  /-- Mailbox command of pair `p` (14 Table 14.8, R512). -/
  | otpRevoke (p : Fin 4)
  /-- Mailbox command of pair `p` (14 Table 14.8, R515). -/
  | attest (p : Fin 4)
  /-- Mailbox command of pair `p` (14 Table 14.8, R515). -/
  | certGet (p : Fin 4)
  /-- Mailbox command of pair `p` (14 Table 14.8, R513). -/
  | tokenNonce (p : Fin 4)
  /-- Mailbox command of pair `p` (14 Table 14.8, R513). -/
  | tokenLoad (p : Fin 4)
  /-- A read of a register with RC fields by a lane or the Keeper (00 R18). -/
  | rcFieldRead (reader : Fin 4) (a : Nat × AccWidth)
  /-- A register write without a row of its own (00 R15), by a lane or the Keeper (01 R46). -/
  | registerWrite (writer : Fin 4) (addr : Nat) (v : BitVec 64) (w : AccWidth)
  /-- A Luosh port loses its link (05 R201). -/
  | portLinkDown (p : Fin 4)
  /-- A cascade link goes down (10 R408). -/
  | cascadeLinkDown (dn : Bool)
  /-- The PCIe link reaches L0 (15 R519): speed and width codes, Bus Master Enable. -/
  | pcieLinkUp (speed : Fin 4) (width : Fin 3) (bme : Bool)
  /-- The maintenance Ethernet link is up with an address held (13 R481). -/
  | maintEthLinkUp (ip : Nat)
  /-- An ARP request (14 R488). -/
  | arpRequestRx (ip : Nat)
  /-- An ICMP echo request (14 R488). -/
  | icmpEchoRx (ip : Nat) (data : List Byte)
  /-- PTP Delay_Resp (09 R371): the time at which the master received the last Delay_Req, in ns of TAI. -/
  | ptpDelayRespRx (domain t4 : Nat)
  /-- A WAKE frame arrives (12 R454). -/
  | wakeFrameRx (p : Fin 4) (f : Frame)
  /-- VBAT crosses 2.5 V (12 R458). -/
  | vbatLowChange (low : Bool)
  /-- An output has its load again (08 R339). -/
  | dioOpenLoadClear (n : Fin 48)
  deriving DecidableEq, Repr

end Sys2Proof
end

