-- ==== Sys2Proof/Decode.lean ====
section
/-!
DEFINITION. The command that a word spells. The opcode table gives no row any bits, so no word spells a command: the
module takes its commands from its lines, buses and register ports, and the rules say what each brings.
-/

namespace Sys2Proof

/-- The command that a word of `nbits` bits spells by the bits of the opcode table: none, for no row has bits. -/
def decodeTableWord (_nbits _w : Nat) : Option Instr := none

end Sys2Proof
end

