-- ==== Sys2Proof/Config.lean ====
section
/-!
DEFINITION. What the specification leaves open and the model leaves free: constants without a body, of which nothing can
be proved but their type. A statement about them holds for every value.
-/

namespace Sys2Proof.Config

/-- The step of the Deadbolt's challenge register (07 R298 gives no taps): the next challenge less 1, so that no challenge
is 0. -/
opaque challengeStep : Nat → Fin 4294967295

/-- Whether a moving mean of the analog filter is rounded up (08 R354 gives no rounding): total and count. -/
opaque aiMeanUp : Nat → Nat → Bool

/-- What a reserved filter code of AI_CFG averages over (08 Table 8.14). -/
opaque aiReservedFilt : Nat → Fin 4

/-- What a reflex cell with the reserved source kind reads (08 Table 8.15): free counter and cell. -/
opaque reservedSource : Nat → Nat → Bool

/-- The rate that the PTP servo sets (09 R371), in ppb, less 200,000: free counter and offset. -/
opaque servoRate : Nat → Int → Fin 400001

/-- SHA-512 (FIPS 180-4): its 64 bytes. -/
opaque sha512 : List Byte → Vector Byte 64

/-- Step 7 of 13 Table 13.2: public key, r, s and the digest that is signed (FIPS 186-5). -/
opaque ecdsaVerify : List Byte → List Byte → List Byte → List Byte → Bool

/-- The signature of an attestation report by the module's own key (14 R515): r and s, 66 bytes each. -/
opaque attestSign : Nat → List Byte → Vector Byte 132

/-- The certificates of 14 R515 by index. -/
opaque certificate : Nat → List Byte

/-- A random nonce (14 R513), by the free counter. -/
opaque nonce : Nat → Vector Byte 16

/-- The one-time-programmable memory as manufactured (13 R463): public-key digests of the key slots, revoke bits,
SVN_MIN by image kind. -/
opaque otpKey : Fin 4 → Vector Byte 64
opaque otpRevoked : Fin 16
opaque otpSvnMin : Nat → Fin (2 ^ 32)

/-- Identity of the module: order code, hardware revision, serial number and MAC address (14 Table 14.13). -/
opaque orderCode : Bool
opaque hwRev : Fin 256
opaque serial : Fin (2 ^ 64)
opaque mac : Fin (2 ^ 48)

/-- The addresses that the host has given BAR0 and BAR2 (15 Table 15.6 names them and gives no value), BAR2 by true. -/
opaque barBase : Bool → Fin (2 ^ 64)

/-- Max_Payload_Size that the host has set (15 R518): 256 B where true, else 128 B. -/
opaque maxPayload256 : Bool

/-- A value that the specification leaves undefined, by the free counter and what asks for it. -/
opaque freeWord : Nat → Nat → Word

/-- The columns of the check matrix of the lane memories (04 R159 gives their properties): data bits 0 to 63, then address bits. -/
opaque eccColumn : Nat → Nat

end Sys2Proof.Config
end

