-- ==== Sys2Proof/Machine/Tab.lean ====
section
/-!
DEFINITION. Sparse data in one canonical form: a list of key and value pairs with strictly rising keys and no entry
that equals what an absent key reads as. Memory (a list of `Host.Cell`), the register file and every table of the
state are held so.
-/

namespace Sys2Proof.Machine

/-- A sparse table from numbers to values. -/
abbrev Tab (α : Type) := List (Nat × α)

/-- The value at a key; `d` where the table lists none. -/
def Tab.get {α : Type} (d : α) : Tab α → Nat → α
  | [], _ => d
  | (k, v) :: t, i => if k = i then v else Tab.get d t i

/-- The table without a key. -/
def Tab.erase {α : Type} : Tab α → Nat → Tab α
  | [], _ => []
  | (k, v) :: t, i => if k = i then Tab.erase t i else (k, v) :: Tab.erase t i

/-- The table with a key listed, keys kept rising. -/
def Tab.insert {α : Type} : Tab α → Nat → α → Tab α
  | [], i, w => [(i, w)]
  | (k, v) :: t, i, w =>
    if i < k then (i, w) :: (k, v) :: t
    else if i = k then (i, w) :: t
    else (k, v) :: Tab.insert t i w

/-- The table with a value at a key; a value equal to the default `d` is not listed. -/
def Tab.put {α : Type} [DecidableEq α] (d : α) (t : Tab α) (i : Nat) (w : α) : Tab α :=
  if w = d then t.erase i else t.insert i w

/-- Every listed key is above `b` and they rise strictly. -/
def Tab.sortedFrom {α : Type} : Option Nat → Tab α → Bool
  | _, [] => true
  | b, (k, _) :: t => (match b with | none => true | some j => decide (j < k)) && Tab.sortedFrom (some k) t

/-- The canonical form: keys strictly rising, no entry equal to the default. -/
def Tab.wf {α : Type} [DecidableEq α] (d : α) (t : Tab α) : Bool :=
  Tab.sortedFrom none t && t.all (fun e => decide (e.2 ≠ d))

/-- The listed entries with keys from `lo` up to, not including, `hi`. -/
def Tab.range {α : Type} (t : Tab α) (lo hi : Nat) : Tab α := t.filter (fun e => decide (lo ≤ e.1) && decide (e.1 < hi))

/-- The table without the keys from `lo` up to, not including, `hi`. -/
def Tab.clear {α : Type} (t : Tab α) (lo hi : Nat) : Tab α := t.filter (fun e => !(decide (lo ≤ e.1) && decide (e.1 < hi)))

end Sys2Proof.Machine
end

