-- ==== Sys2Proof/Machine/Regs.lean ====
section
/-!
DEFINITION. The register fields of every chapter's register tables: one row per field, with its place, bits, access
code, reset value and the values a write may set.
-/

namespace Sys2Proof.Machine

/-- The access codes of 00_scope Table 0.3. -/
inductive Access where
  | ro | rw | w1c | wo | rc | rws
  deriving DecidableEq, Repr

/-- Where a register block stands: one per lane (and the Keeper's DMA engine and check-value units), one for the
module, the Keeper's system control with BAR0, or the Hinge window. -/
inductive Block where
  | lane | common | keeper | hinge
  deriving DecidableEq, Repr

/-- One register field: its number in the register file, block, address, stride and count of an indexed register,
bits, access code, reset value and the range of values that a write may set. -/
structure Row where
  id     : Nat
  block  : Block
  base   : Nat
  stride : Nat
  count  : Nat
  hi     : Nat
  lo     : Nat
  acc    : Access
  reset  : Nat
  min    : Nat
  max    : Nat
  deriving DecidableEq, Repr

/-- The width of a field in bits. -/
def Row.width (r : Row) : Nat := r.hi + 1 - r.lo

namespace R

/-- SCAN_CTRL.SKIP_MAX (02, Table 2.8). -/
def SCAN_CTRL_SKIP_MAX : Row := ⟨0, .lane, 0x20040000, 4, 1, 19, 16, .rws, 0x3, 1, 15⟩

/-- SCAN_CTRL.K_SEL (02, Table 2.8). -/
def SCAN_CTRL_K_SEL : Row := ⟨1, .lane, 0x20040000, 4, 1, 9, 8, .rws, 0x0, 0, 3⟩

/-- SCAN_CTRL.SRC (02, Table 2.8). -/
def SCAN_CTRL_SRC : Row := ⟨2, .lane, 0x20040000, 4, 1, 0, 0, .rws, 0x1, 0, 1⟩

/-- SCAN_PERIOD.PERIOD_US (02, Table 2.9). -/
def SCAN_PERIOD_PERIOD_US : Row := ⟨3, .lane, 0x20040004, 4, 1, 16, 0, .rws, 0x3E8, 125, 100000⟩

/-- COMMIT_OFS.OFS_US (02, Table 2.9). -/
def COMMIT_OFS_OFS_US : Row := ⟨4, .lane, 0x20040008, 4, 1, 16, 0, .rws, 0x320, 0, 131071⟩

/-- CT_BUDGET.BUDGET_US (02, Table 2.9). -/
def CT_BUDGET_BUDGET_US : Row := ⟨5, .lane, 0x2004000C, 4, 1, 16, 0, .rws, 0x64, 1, 100000⟩

/-- SCAN_STAT.PHASE (02, Table 2.10). -/
def SCAN_STAT_PHASE : Row := ⟨6, .lane, 0x20040010, 4, 1, 31, 28, .ro, 0x0, 0, 15⟩

/-- SCAN_STAT.SKIP_CONSEC (02, Table 2.10). -/
def SCAN_STAT_SKIP_CONSEC : Row := ⟨7, .lane, 0x20040010, 4, 1, 27, 24, .ro, 0x0, 0, 15⟩

/-- SCAN_STAT.STRETCHED (02, Table 2.10). -/
def SCAN_STAT_STRETCHED : Row := ⟨8, .lane, 0x20040010, 4, 1, 23, 23, .ro, 0x0, 0, 1⟩

/-- SCAN_STAT.BUDGET_EXC (02, Table 2.10). -/
def SCAN_STAT_BUDGET_EXC : Row := ⟨9, .lane, 0x20040010, 4, 1, 22, 22, .ro, 0x0, 0, 1⟩

/-- SCAN_STAT.DONE_Z (02, Table 2.10). -/
def SCAN_STAT_DONE_Z : Row := ⟨10, .lane, 0x20040010, 4, 1, 18, 18, .ro, 0x0, 0, 1⟩

/-- SCAN_STAT.DONE_Y (02, Table 2.10). -/
def SCAN_STAT_DONE_Y : Row := ⟨11, .lane, 0x20040010, 4, 1, 17, 17, .ro, 0x0, 0, 1⟩

/-- SCAN_STAT.DONE_X (02, Table 2.10). -/
def SCAN_STAT_DONE_X : Row := ⟨12, .lane, 0x20040010, 4, 1, 16, 16, .ro, 0x0, 0, 1⟩

/-- SCAN_COUNT.SCAN (02, Table 2.11). -/
def SCAN_COUNT_SCAN : Row := ⟨13, .lane, 0x20040014, 4, 1, 31, 0, .ro, 0x0, 0, 4294967295⟩

/-- CYCLE_COUNT.CYCLE (02, Table 2.11). -/
def CYCLE_COUNT_CYCLE : Row := ⟨14, .lane, 0x20040018, 4, 1, 31, 0, .ro, 0x0, 0, 4294967295⟩

/-- SKIP_TOTAL.SKIPS (02, Table 2.11). -/
def SKIP_TOTAL_SKIPS : Row := ⟨15, .lane, 0x2004001C, 4, 1, 15, 0, .rc, 0x0, 0, 65535⟩

/-- T_FREEZE.TB1 (02, Table 2.11). -/
def T_FREEZE_TB1 : Row := ⟨16, .lane, 0x20040020, 4, 1, 31, 0, .ro, 0x0, 0, 4294967295⟩

/-- LOGIC_NS.NS (02, Table 2.11). -/
def LOGIC_NS_NS : Row := ⟨17, .lane, 0x20040024, 4, 1, 31, 0, .ro, 0x0, 0, 4294967295⟩

/-- TUMBLER_NS.NS (02, Table 2.11). -/
def TUMBLER_NS_NS : Row := ⟨18, .lane, 0x20040028, 4, 1, 31, 0, .ro, 0x0, 0, 4294967295⟩

/-- CORE_NS.NS (02, Table 2.11). -/
def CORE_NS_NS : Row := ⟨19, .lane, 0x2004002C, 4, 1, 31, 0, .ro, 0x0, 0, 4294967295⟩

/-- CORE_MAX_NS.NS (02, Table 2.11). -/
def CORE_MAX_NS_NS : Row := ⟨20, .lane, 0x20040030, 4, 1, 31, 0, .rc, 0x0, 0, 4294967295⟩

/-- SLACK_MIN_NS.NS (02, Table 2.11). -/
def SLACK_MIN_NS_NS : Row := ⟨21, .lane, 0x20040034, 4, 1, 31, 0, .rc, 0xFFFFFFFF, 0, 4294967295⟩

/-- BUDGET_EXC_CNT.COUNT (02, Table 2.11). -/
def BUDGET_EXC_CNT_COUNT : Row := ⟨22, .lane, 0x20040038, 4, 1, 15, 0, .rc, 0x0, 0, 65535⟩

/-- DONE_CTRL.CORE_DONE (02, Table 2.12). -/
def DONE_CTRL_CORE_DONE : Row := ⟨23, .lane, 0x20040040, 4, 1, 0, 0, .wo, 0x0, 0, 1⟩

/-- STN_SUM.SUBST (02, Table 2.12). -/
def STN_SUM_SUBST : Row := ⟨24, .lane, 0x20040044, 4, 1, 26, 16, .ro, 0x0, 0, 2047⟩

/-- STN_SUM.HELD (02, Table 2.12). -/
def STN_SUM_HELD : Row := ⟨25, .lane, 0x20040044, 4, 1, 10, 0, .ro, 0x0, 0, 2047⟩

/-- SUBST_BASE.BASE (02, Table 2.12). -/
def SUBST_BASE_BASE : Row := ⟨26, .lane, 0x20040048, 4, 1, 22, 17, .rws, 0x3F, 0, 63⟩

/-- STN_CFG[n].HOLD (02, Table 2.13). -/
def STN_CFG_HOLD : Row := ⟨27, .lane, 0x20041000, 4, 1024, 2, 0, .rws, 0x2, 0, 7⟩

/-- STN_STAT[n].MISS_CNT (02, Table 2.13). -/
def STN_STAT_MISS_CNT : Row := ⟨28, .lane, 0x20042000, 4, 1024, 31, 16, .rc, 0x0, 0, 65535⟩

/-- STN_STAT[n].AGE (02, Table 2.13). -/
def STN_STAT_AGE : Row := ⟨29, .lane, 0x20042000, 4, 1024, 7, 4, .ro, 0x0, 0, 15⟩

/-- STN_STAT[n].AGED (02, Table 2.13). -/
def STN_STAT_AGED : Row := ⟨30, .lane, 0x20042000, 4, 1024, 1, 1, .ro, 0x0, 0, 1⟩

/-- STN_STAT[n].VALID (02, Table 2.13). -/
def STN_STAT_VALID : Row := ⟨31, .lane, 0x20042000, 4, 1024, 0, 0, .ro, 0x0, 0, 1⟩

/-- TUM_CTRL.LOAD_EN (03, Table 3.10a). -/
def TUM_CTRL_LOAD_EN : Row := ⟨32, .lane, 0x20030000, 4, 1, 0, 0, .rws, 0x0, 0, 1⟩

/-- TUM_STAT.STATE (03, Table 3.10a). -/
def TUM_STAT_STATE : Row := ⟨33, .lane, 0x20030004, 4, 1, 31, 28, .ro, 0x0, 0, 15⟩

/-- TUM_STAT.PROG_VALID (03, Table 3.10a). -/
def TUM_STAT_PROG_VALID : Row := ⟨34, .lane, 0x20030004, 4, 1, 7, 7, .ro, 0x0, 0, 1⟩

/-- TUM_STAT.FACK_PEND (03, Table 3.10a). -/
def TUM_STAT_FACK_PEND : Row := ⟨35, .lane, 0x20030004, 4, 1, 6, 6, .ro, 0x0, 0, 1⟩

/-- TUM_STAT.ECC_UNC (03, Table 3.10a). -/
def TUM_STAT_ECC_UNC : Row := ⟨36, .lane, 0x20030004, 4, 1, 3, 3, .w1c, 0x0, 0, 1⟩

/-- TUM_STAT.ECC_CORR (03, Table 3.10a). -/
def TUM_STAT_ECC_CORR : Row := ⟨37, .lane, 0x20030004, 4, 1, 2, 2, .w1c, 0x0, 0, 1⟩

/-- TUM_STAT.IDX_VIOL (03, Table 3.10a). -/
def TUM_STAT_IDX_VIOL : Row := ⟨38, .lane, 0x20030004, 4, 1, 1, 1, .w1c, 0x0, 0, 1⟩

/-- TUM_STAT.DIV0 (03, Table 3.10a). -/
def TUM_STAT_DIV0 : Row := ⟨39, .lane, 0x20030004, 4, 1, 0, 0, .w1c, 0x0, 0, 1⟩

/-- TUM_BUNDLES.COUNT (03, Table 3.10b). -/
def TUM_BUNDLES_COUNT : Row := ⟨40, .lane, 0x20030008, 4, 1, 16, 0, .ro, 0x0, 0, 131071⟩

/-- TUM_CLOCKS.CLOCKS (03, Table 3.10b). -/
def TUM_CLOCKS_CLOCKS : Row := ⟨41, .lane, 0x2003000C, 4, 1, 16, 0, .ro, 0x0, 0, 131071⟩

/-- PROG_ID_LO.ID (03, Table 3.10b). -/
def PROG_ID_LO_ID : Row := ⟨42, .lane, 0x20030010, 4, 1, 31, 0, .ro, 0x0, 0, 4294967295⟩

/-- PROG_ID_HI.ID (03, Table 3.10b). -/
def PROG_ID_HI_ID : Row := ⟨43, .lane, 0x20030014, 4, 1, 31, 0, .ro, 0x0, 0, 4294967295⟩

/-- PROG_VER.VERSION (03, Table 3.10b). -/
def PROG_VER_VERSION : Row := ⟨44, .lane, 0x20030018, 4, 1, 31, 0, .ro, 0x0, 0, 4294967295⟩

/-- PS_PAGE.PAGE (03, Table 3.10b). -/
def PS_PAGE_PAGE : Row := ⟨45, .lane, 0x2003001C, 4, 1, 7, 0, .rw, 0x0, 0, 255⟩

/-- TX_LO.TX (03, Table 3.10b). -/
def TX_LO_TX : Row := ⟨46, .lane, 0x20030020, 4, 1, 31, 0, .ro, 0x0, 0, 4294967295⟩

/-- TX_HI.TX (03, Table 3.10b). -/
def TX_HI_TX : Row := ⟨47, .lane, 0x20030024, 4, 1, 31, 0, .ro, 0x0, 0, 4294967295⟩

/-- HND_COUNT.COUNT (03, Table 3.10b). -/
def HND_COUNT_COUNT : Row := ⟨48, .lane, 0x20030028, 4, 1, 9, 0, .ro, 0x0, 0, 1023⟩

/-- FORCE_CNT.PEND (03, Table 3.10b). -/
def FORCE_CNT_PEND : Row := ⟨49, .lane, 0x2003002C, 4, 1, 26, 16, .ro, 0x0, 0, 2047⟩

/-- FORCE_CNT.VALID (03, Table 3.10b). -/
def FORCE_CNT_VALID : Row := ⟨50, .lane, 0x2003002C, 4, 1, 10, 0, .ro, 0x0, 0, 2047⟩

/-- FORCE_GEN.GEN (03, Table 3.10b). -/
def FORCE_GEN_GEN : Row := ⟨51, .lane, 0x20030030, 4, 1, 31, 0, .ro, 0x0, 0, 4294967295⟩

/-- FORCE_DROP.COUNT (03, Table 3.10b). -/
def FORCE_DROP_COUNT : Row := ⟨52, .lane, 0x20030034, 4, 1, 10, 0, .ro, 0x0, 0, 2047⟩

/-- DIV0_CNT.COUNT (03, Table 3.10b). -/
def DIV0_CNT_COUNT : Row := ⟨53, .lane, 0x20030038, 4, 1, 31, 0, .rc, 0x0, 0, 4294967295⟩

/-- IDX_VIOL_CNT.COUNT (03, Table 3.10b). -/
def IDX_VIOL_CNT_COUNT : Row := ⟨54, .lane, 0x2003003C, 4, 1, 31, 0, .rc, 0x0, 0, 4294967295⟩

/-- ECC_CNT.COUNT (03, Table 3.10b). -/
def ECC_CNT_TUM_COUNT : Row := ⟨55, .lane, 0x20030040, 4, 1, 31, 0, .rc, 0x0, 0, 4294967295⟩

/-- LANE_ID.LANE (04, Table 4.10). -/
def LANE_ID_LANE : Row := ⟨56, .lane, 0x20050000, 4, 1, 1, 0, .ro, 0x0, 0, 3⟩

/-- LANE_STAT.STATE (04, Table 4.10). -/
def LANE_STAT_STATE : Row := ⟨57, .lane, 0x20050004, 4, 1, 18, 0, .ro, 0x0, 0, 524287⟩

/-- PRISM_STAT.SELF_FAULT (04, Table 4.10). -/
def PRISM_STAT_SELF_FAULT : Row := ⟨58, .lane, 0x20050050, 4, 1, 8, 8, .ro, 0x0, 0, 1⟩

/-- PRISM_STAT.TEST_PASS (04, Table 4.10). -/
def PRISM_STAT_TEST_PASS : Row := ⟨59, .lane, 0x20050050, 4, 1, 4, 4, .ro, 0x0, 0, 1⟩

/-- PRISM_STAT.VOTE_MODE (04, Table 4.10). -/
def PRISM_STAT_VOTE_MODE : Row := ⟨60, .lane, 0x20050050, 4, 1, 1, 0, .ro, 0x2, 0, 3⟩

/-- CMP_STAT.MIS_GRP (04, Table 4.11). -/
def CMP_STAT_MIS_GRP : Row := ⟨61, .lane, 0x20050008, 4, 1, 28, 24, .ro, 0x0, 0, 31⟩

/-- CMP_STAT.RAIL_GRP (04, Table 4.11). -/
def CMP_STAT_RAIL_GRP : Row := ⟨62, .lane, 0x20050008, 4, 1, 20, 16, .ro, 0x0, 0, 31⟩

/-- CMP_STAT.PAR_LOC (04, Table 4.11). -/
def CMP_STAT_PAR_LOC : Row := ⟨63, .lane, 0x20050008, 4, 1, 13, 8, .ro, 0x0, 0, 63⟩

/-- CMP_STAT.PAR_ERR (04, Table 4.11). -/
def CMP_STAT_PAR_ERR : Row := ⟨64, .lane, 0x20050008, 4, 1, 2, 2, .ro, 0x0, 0, 1⟩

/-- CMP_STAT.RAIL_FAULT (04, Table 4.11). -/
def CMP_STAT_RAIL_FAULT : Row := ⟨65, .lane, 0x20050008, 4, 1, 1, 1, .ro, 0x0, 0, 1⟩

/-- CMP_STAT.MISCOMPARE (04, Table 4.11). -/
def CMP_STAT_MISCOMPARE : Row := ⟨66, .lane, 0x20050008, 4, 1, 0, 0, .ro, 0x0, 0, 1⟩

/-- CMP_T.TB1 (04, Table 4.11). -/
def CMP_T_TB1 : Row := ⟨67, .lane, 0x2005000C, 4, 1, 31, 0, .ro, 0x0, 0, 4294967295⟩

/-- CMP_CAPT[0..4].DIFF (04, Table 4.11). -/
def CMP_CAPT_DIFF : Row := ⟨68, .lane, 0x20050010, 4, 5, 31, 0, .ro, 0x0, 0, 4294967295⟩

/-- CMP_CAPT[5].DIFF (04, Table 4.11). -/
def CMP_CAPT5_DIFF : Row := ⟨69, .lane, 0x20050024, 4, 1, 7, 0, .ro, 0x0, 0, 255⟩

/-- INJ_STAT.FAIL_PAT (04, Table 4.12). -/
def INJ_STAT_FAIL_PAT : Row := ⟨70, .lane, 0x20050028, 4, 1, 31, 24, .ro, 0xFF, 0, 255⟩

/-- INJ_STAT.LATE (04, Table 4.12). -/
def INJ_STAT_LATE : Row := ⟨71, .lane, 0x20050028, 4, 1, 16, 16, .ro, 0x0, 0, 1⟩

/-- INJ_STAT.INJ_AGE (04, Table 4.12). -/
def INJ_STAT_INJ_AGE : Row := ⟨72, .lane, 0x20050028, 4, 1, 13, 0, .ro, 0x0, 0, 16383⟩

/-- ECC_STAT.UNC (04, Table 4.12). -/
def ECC_STAT_UNC : Row := ⟨73, .lane, 0x2005002C, 4, 1, 1, 1, .w1c, 0x0, 0, 1⟩

/-- ECC_STAT.CORR (04, Table 4.12). -/
def ECC_STAT_CORR : Row := ⟨74, .lane, 0x2005002C, 4, 1, 0, 0, .w1c, 0x0, 0, 1⟩

/-- ECC_CNT.COUNT (04, Table 4.12). -/
def ECC_CNT_COUNT : Row := ⟨75, .lane, 0x20050030, 4, 1, 31, 0, .rc, 0x0, 0, 4294967295⟩

/-- ECC_ADDR.WORD (04, Table 4.12). -/
def ECC_ADDR_WORD : Row := ⟨76, .lane, 0x20050034, 4, 1, 22, 3, .ro, 0x0, 0, 1048575⟩

/-- SCRUB_STAT.LATE (04, Table 4.12). -/
def SCRUB_STAT_LATE : Row := ⟨77, .lane, 0x20050038, 4, 1, 31, 31, .w1c, 0x0, 0, 1⟩

/-- SCRUB_STAT.SWEEPS (04, Table 4.12). -/
def SCRUB_STAT_SWEEPS : Row := ⟨78, .lane, 0x20050038, 4, 1, 30, 16, .ro, 0x0, 0, 32767⟩

/-- SCRUB_STAT.SWEEP_MS (04, Table 4.12). -/
def SCRUB_STAT_SWEEP_MS : Row := ⟨79, .lane, 0x20050038, 4, 1, 15, 0, .ro, 0x0, 0, 65535⟩

/-- DEG_ALLOW.HOURS (04, Table 4.13). -/
def DEG_ALLOW_HOURS : Row := ⟨80, .lane, 0x2005003C, 4, 1, 9, 0, .rws, 0x48, 1, 720⟩

/-- DEG_REMAIN.SECONDS (04, Table 4.13). -/
def DEG_REMAIN_SECONDS : Row := ⟨81, .lane, 0x20050040, 4, 1, 31, 0, .ro, 0x3F480, 0, 4294967295⟩

/-- EXCL[n].CAUSE (04, Table 4.13). -/
def EXCL_CAUSE : Row := ⟨82, .lane, 0x20050044, 4, 3, 31, 24, .ro, 0x0, 0, 255⟩

/-- EXCL[n].SCAN (04, Table 4.13). -/
def EXCL_SCAN : Row := ⟨83, .lane, 0x20050044, 4, 3, 23, 0, .ro, 0x0, 0, 16777215⟩

/-- REPAIR_STAT.STEP (04, Table 4.14). -/
def REPAIR_STAT_STEP : Row := ⟨84, .lane, 0x20050054, 4, 1, 31, 28, .ro, 0x0, 0, 15⟩

/-- REPAIR_STAT.TARGET (04, Table 4.14). -/
def REPAIR_STAT_TARGET : Row := ⟨85, .lane, 0x20050054, 4, 1, 27, 26, .ro, 0x0, 0, 3⟩

/-- REPAIR_STAT.SOURCE (04, Table 4.14). -/
def REPAIR_STAT_SOURCE : Row := ⟨86, .lane, 0x20050054, 4, 1, 25, 24, .ro, 0x0, 0, 3⟩

/-- REPAIR_STAT.REASON (04, Table 4.14). -/
def REPAIR_STAT_REASON : Row := ⟨87, .lane, 0x20050054, 4, 1, 23, 16, .ro, 0x0, 0, 255⟩

/-- REPAIR_STAT.PROBATION (04, Table 4.14). -/
def REPAIR_STAT_PROBATION : Row := ⟨88, .lane, 0x20050054, 4, 1, 15, 8, .ro, 0x0, 0, 255⟩

/-- REPAIR_STAT.WINDOWS (04, Table 4.14). -/
def REPAIR_STAT_WINDOWS : Row := ⟨89, .lane, 0x20050054, 4, 1, 7, 0, .ro, 0x0, 0, 255⟩

/-- REPAIR_COPY.DIRTY (04, Table 4.14). -/
def REPAIR_COPY_DIRTY : Row := ⟨90, .lane, 0x20050058, 4, 1, 31, 16, .ro, 0x0, 0, 65535⟩

/-- REPAIR_COPY.FIRST_KIB (04, Table 4.14). -/
def REPAIR_COPY_FIRST_KIB : Row := ⟨91, .lane, 0x20050058, 4, 1, 15, 0, .ro, 0x0, 0, 65535⟩

/-- DBG_STAT.PORT_OPEN (04, Table 4.14). -/
def DBG_STAT_PORT_OPEN : Row := ⟨92, .lane, 0x2005005C, 4, 1, 6, 4, .ro, 0x0, 0, 7⟩

/-- DBG_STAT.DBG_ACT (04, Table 4.14). -/
def DBG_STAT_DBG_ACT : Row := ⟨93, .lane, 0x2005005C, 4, 1, 2, 0, .ro, 0x0, 0, 7⟩

/-- LU_CTRL.LINES (05, Table 5.13). -/
def LU_CTRL_LINES : Row := ⟨94, .common, 0x20060000, 4, 1, 5, 4, .rws, 0x3, 1, 3⟩

/-- LU_CTRL.CLAIM_EN (05, Table 5.13). -/
def LU_CTRL_CLAIM_EN : Row := ⟨95, .common, 0x20060000, 4, 1, 2, 2, .rws, 0x0, 0, 1⟩

/-- LU_CTRL.EN (05, Table 5.13). -/
def LU_CTRL_EN : Row := ⟨96, .common, 0x20060000, 4, 1, 0, 0, .rws, 0x0, 0, 1⟩

/-- LU_STAT.STATE (05, Table 5.13). -/
def LU_STAT_STATE : Row := ⟨97, .common, 0x20060004, 4, 1, 31, 28, .ro, 0x0, 0, 15⟩

/-- LU_STAT.POSITION (05, Table 5.13). -/
def LU_STAT_POSITION : Row := ⟨98, .common, 0x20060004, 4, 1, 25, 24, .ro, 0x3, 0, 3⟩

/-- LU_STAT.LINE_A (05, Table 5.13). -/
def LU_STAT_LINE_A : Row := ⟨99, .common, 0x20060004, 4, 1, 23, 23, .ro, 0x0, 0, 1⟩

/-- LU_STAT.LINE_B (05, Table 5.13). -/
def LU_STAT_LINE_B : Row := ⟨100, .common, 0x20060004, 4, 1, 22, 22, .ro, 0x0, 0, 1⟩

/-- LU_STAT.OOW_RUN (05, Table 5.13). -/
def LU_STAT_OOW_RUN : Row := ⟨101, .common, 0x20060004, 4, 1, 21, 20, .ro, 0x0, 0, 3⟩

/-- LU_STAT.CS_RUN (05, Table 5.13). -/
def LU_STAT_CS_RUN : Row := ⟨102, .common, 0x20060004, 4, 1, 19, 16, .ro, 0x0, 0, 15⟩

/-- LU_NODE.NODE_ID (05, Table 5.13). -/
def LU_NODE_NODE_ID : Row := ⟨103, .common, 0x20060008, 4, 1, 9, 0, .rws, 0x0, 0, 1023⟩

/-- LU_COLD.COUNT (05, Table 5.14). -/
def LU_COLD_COUNT : Row := ⟨104, .common, 0x2006000C, 4, 1, 31, 30, .rws, 0x1, 1, 3⟩

/-- LU_COLD.COLD2 (05, Table 5.14). -/
def LU_COLD_COLD2 : Row := ⟨105, .common, 0x2006000C, 4, 1, 29, 20, .rws, 0x0, 0, 1023⟩

/-- LU_COLD.COLD1 (05, Table 5.14). -/
def LU_COLD_COLD1 : Row := ⟨106, .common, 0x2006000C, 4, 1, 19, 10, .rws, 0x0, 0, 1023⟩

/-- LU_COLD.COLD0 (05, Table 5.14). -/
def LU_COLD_COLD0 : Row := ⟨107, .common, 0x2006000C, 4, 1, 9, 0, .rws, 0x0, 0, 1023⟩

/-- LU_CYCLE.CYCLE_US (05, Table 5.14). -/
def LU_CYCLE_CYCLE_US : Row := ⟨108, .common, 0x20060010, 4, 1, 13, 0, .rws, 0x3E8, 125, 16000⟩

/-- LU_WIN.WACC_NS (05, Table 5.14). -/
def LU_WIN_WACC_NS : Row := ⟨109, .common, 0x20060014, 4, 1, 8, 0, .rws, 0xFA, 100, 400⟩

/-- LU_TIMERS.RELEASE (05, Table 5.14). -/
def LU_TIMERS_RELEASE : Row := ⟨110, .common, 0x20060018, 4, 1, 31, 24, .rws, 0x10, 1, 255⟩

/-- LU_TIMERS.OWD (05, Table 5.14). -/
def LU_TIMERS_OWD : Row := ⟨111, .common, 0x20060018, 4, 1, 19, 16, .rws, 0x4, 2, 15⟩

/-- LU_TIMERS.CS_LOSS (05, Table 5.14). -/
def LU_TIMERS_CS_LOSS : Row := ⟨112, .common, 0x20060018, 4, 1, 11, 8, .rws, 0x4, 1, 15⟩

/-- LU_TIMERS.LISTEN_BASE (05, Table 5.14). -/
def LU_TIMERS_LISTEN_BASE : Row := ⟨113, .common, 0x20060018, 4, 1, 5, 0, .rws, 0x4, 2, 63⟩

/-- LU_SCHED_ID.ID (05, Table 5.14). -/
def LU_SCHED_ID_ID : Row := ⟨114, .common, 0x2006001C, 4, 1, 31, 0, .rws, 0x0, 0, 4294967295⟩

/-- LU_SLOT_CNT.COUNT (05, Table 5.14). -/
def LU_SLOT_CNT_COUNT : Row := ⟨115, .common, 0x20060020, 4, 1, 12, 0, .rws, 0x1, 1, 4096⟩

/-- LU_HO_CYCLE.CYCLE (05, Table 5.14). -/
def LU_HO_CYCLE_CYCLE : Row := ⟨116, .common, 0x20060024, 4, 1, 31, 0, .rw, 0x0, 0, 4294967295⟩

/-- LU_HO_NODE.NODE (05, Table 5.14). -/
def LU_HO_NODE_NODE : Row := ⟨117, .common, 0x20060028, 4, 1, 9, 0, .rw, 0x0, 0, 1023⟩

/-- LU_CYCLE_NUM.CYCLE (05, Table 5.15). -/
def LU_CYCLE_NUM_CYCLE : Row := ⟨118, .common, 0x2006002C, 4, 1, 31, 0, .ro, 0x0, 0, 4294967295⟩

/-- LU_TIME_LO.TIME (05, Table 5.15). -/
def LU_TIME_LO_TIME : Row := ⟨119, .common, 0x20060030, 4, 1, 31, 0, .ro, 0x0, 0, 4294967295⟩

/-- LU_TIME_HI.TIME (05, Table 5.15). -/
def LU_TIME_HI_TIME : Row := ⟨120, .common, 0x20060034, 4, 1, 31, 0, .ro, 0x0, 0, 4294967295⟩

/-- LU_OFFSET.E_NS (05, Table 5.15). -/
def LU_OFFSET_E_NS : Row := ⟨121, .common, 0x20060038, 4, 1, 31, 0, .ro, 0x0, 0, 4294967295⟩

/-- LU_RATE.PPB (05, Table 5.15). -/
def LU_RATE_PPB : Row := ⟨122, .common, 0x2006003C, 4, 1, 31, 0, .ro, 0x0, 0, 4294967295⟩

/-- LU_PATH_A.D_NS (05, Table 5.15). -/
def LU_PATH_A_D_NS : Row := ⟨123, .common, 0x20060040, 4, 1, 19, 0, .ro, 0x0, 0, 1048575⟩

/-- LU_PATH_B.D_NS (05, Table 5.15). -/
def LU_PATH_B_D_NS : Row := ⟨124, .common, 0x20060044, 4, 1, 19, 0, .ro, 0x0, 0, 1048575⟩

/-- LU_MASTER.MASTER_ID (05, Table 5.15). -/
def LU_MASTER_MASTER_ID : Row := ⟨125, .common, 0x20060048, 4, 1, 25, 16, .ro, 0x0, 0, 1023⟩

/-- LU_MASTER.LATE_NS (05, Table 5.15). -/
def LU_MASTER_LATE_NS : Row := ⟨126, .common, 0x20060048, 4, 1, 10, 0, .ro, 0x0, 0, 2047⟩

/-- LU_EVT.REJOIN (05, Table 5.15). -/
def LU_EVT_REJOIN : Row := ⟨127, .common, 0x2006004C, 4, 1, 31, 16, .rc, 0x0, 0, 65535⟩

/-- LU_EVT.SUCC (05, Table 5.15). -/
def LU_EVT_SUCC : Row := ⟨128, .common, 0x2006004C, 4, 1, 15, 0, .rc, 0x0, 0, 65535⟩

/-- LU_CLAIM.CLAIMS (05, Table 5.15). -/
def LU_CLAIM_CLAIMS : Row := ⟨129, .common, 0x20060050, 4, 1, 31, 16, .rc, 0x0, 0, 65535⟩

/-- LU_CLAIM.GRANTS (05, Table 5.15). -/
def LU_CLAIM_GRANTS : Row := ⟨130, .common, 0x20060050, 4, 1, 15, 0, .rc, 0x0, 0, 65535⟩

/-- PORT[p].LINK (05, Table 5.16). -/
def PORT_LINK : Row := ⟨131, .common, 0x200600C0, 4, 4, 31, 31, .ro, 0x0, 0, 1⟩

/-- PORT[p].INWARD (05, Table 5.16). -/
def PORT_INWARD : Row := ⟨132, .common, 0x200600C0, 4, 4, 30, 30, .ro, 0x0, 0, 1⟩

/-- PORT[p].LINK_NS (05, Table 5.16). -/
def PORT_LINK_NS : Row := ⟨133, .common, 0x200600C0, 4, 4, 9, 0, .ro, 0x0, 0, 1023⟩

/-- OCC[j].OCC (05, Table 5.16). -/
def OCC_OCC : Row := ⟨134, .common, 0x20060100, 4, 16, 31, 0, .ro, 0x0, 0, 4294967295⟩

/-- GRANT_LAST[g].GRANT (05, Table 5.16). -/
def GRANT_LAST_GRANT : Row := ⟨135, .common, 0x20060140, 4, 4, 31, 0, .ro, 0x0, 0, 4294967295⟩

/-- STN_CNT[n] word 0.MISS_A (05, Table 5.17). -/
def STN_CNT0_MISS_A : Row := ⟨136, .common, 0x20062000, 8, 1024, 31, 16, .rc, 0x0, 0, 65535⟩

/-- STN_CNT[n] word 0.MISS_B (05, Table 5.17). -/
def STN_CNT0_MISS_B : Row := ⟨137, .common, 0x20062000, 8, 1024, 15, 0, .rc, 0x0, 0, 65535⟩

/-- STN_CNT[n] word 1.OOW (05, Table 5.17). -/
def STN_CNT1_OOW : Row := ⟨138, .common, 0x20062004, 8, 1024, 31, 16, .rc, 0x0, 0, 65535⟩

/-- STN_CNT[n] word 1.OFS (05, Table 5.17). -/
def STN_CNT1_OFS : Row := ⟨139, .common, 0x20062004, 8, 1024, 15, 0, .ro, 0x0, 0, 65535⟩

/-- SPARE_STAT[i].OCC (05, Table 5.17). -/
def SPARE_STAT_OCC : Row := ⟨140, .common, 0x20064000, 4, 512, 31, 31, .ro, 0x0, 0, 1⟩

/-- SPARE_STAT[i].OCCUPANT (05, Table 5.17). -/
def SPARE_STAT_OCCUPANT : Row := ⟨141, .common, 0x20064000, 4, 512, 25, 16, .ro, 0x0, 0, 1023⟩

/-- SPARE_STAT[i].TEMPLATE (05, Table 5.17). -/
def SPARE_STAT_TEMPLATE : Row := ⟨142, .common, 0x20064000, 4, 512, 9, 0, .ro, 0x0, 0, 1023⟩

/-- DB_ID.DIE (07, Table 7.11). -/
def DB_ID_DIE : Row := ⟨143, .common, 0x20090000, 4, 1, 31, 16, .ro, 0xDB01, 0, 65535⟩

/-- DB_ID.REV (07, Table 7.11). -/
def DB_ID_REV : Row := ⟨144, .common, 0x20090000, 4, 1, 7, 0, .ro, 0x1, 0, 255⟩

/-- DB_STAT.STATE (07, Table 7.11). -/
def DB_STAT_STATE : Row := ⟨145, .common, 0x20090004, 4, 1, 31, 28, .ro, 0x0, 0, 15⟩

/-- DB_STAT.FCODE (07, Table 7.11). -/
def DB_STAT_FCODE : Row := ⟨146, .common, 0x20090004, 4, 1, 27, 24, .ro, 0x0, 0, 15⟩

/-- DB_STAT.PERR (07, Table 7.11). -/
def DB_STAT_PERR : Row := ⟨147, .common, 0x20090004, 4, 1, 23, 16, .ro, 0x0, 0, 255⟩

/-- DB_STAT.CFG_REF (07, Table 7.11). -/
def DB_STAT_CFG_REF : Row := ⟨148, .common, 0x20090004, 4, 1, 9, 9, .ro, 0x0, 0, 1⟩

/-- DB_STAT.VGD_OK (07, Table 7.11). -/
def DB_STAT_VGD_OK : Row := ⟨149, .common, 0x20090004, 4, 1, 8, 8, .ro, 0x0, 0, 1⟩

/-- DB_STAT.PUMP_S_OK (07, Table 7.11). -/
def DB_STAT_PUMP_S_OK : Row := ⟨150, .common, 0x20090004, 4, 1, 7, 7, .ro, 0x0, 0, 1⟩

/-- DB_STAT.PUMP_D_OK (07, Table 7.11). -/
def DB_STAT_PUMP_D_OK : Row := ⟨151, .common, 0x20090004, 4, 1, 6, 6, .ro, 0x0, 0, 1⟩

/-- DB_STAT.DBG_HOLD (07, Table 7.11). -/
def DB_STAT_DBG_HOLD : Row := ⟨152, .common, 0x20090004, 4, 1, 5, 5, .ro, 0x0, 0, 1⟩

/-- DB_STAT.LIVE_FAIL (07, Table 7.11). -/
def DB_STAT_LIVE_FAIL : Row := ⟨153, .common, 0x20090004, 4, 1, 4, 4, .ro, 0x0, 0, 1⟩

/-- DB_STAT.LIVE_OK (07, Table 7.11). -/
def DB_STAT_LIVE_OK : Row := ⟨154, .common, 0x20090004, 4, 1, 3, 3, .ro, 0x0, 0, 1⟩

/-- DB_CHAL.C (07, Table 7.11). -/
def DB_CHAL_C : Row := ⟨155, .common, 0x20090008, 4, 1, 31, 0, .ro, 0x1, 0, 4294967295⟩

/-- DB_RESP.RESP (07, Table 7.11). -/
def DB_RESP_RESP : Row := ⟨156, .common, 0x2009000C, 4, 1, 31, 0, .wo, 0x0, 0, 4294967295⟩

/-- DB_PRESP_LO.C (07, Table 7.11). -/
def DB_PRESP_LO_C : Row := ⟨157, .common, 0x20090010, 4, 1, 31, 0, .rw, 0x0, 0, 4294967295⟩

/-- DB_PRESP_HI.RESP_P (07, Table 7.11). -/
def DB_PRESP_HI_RESP_P : Row := ⟨158, .common, 0x20090014, 4, 1, 31, 0, .rw, 0x0, 0, 4294967295⟩

/-- DB_CHECK.CHECKS (07, Table 7.11). -/
def DB_CHECK_CHECKS : Row := ⟨159, .common, 0x20090018, 4, 1, 31, 16, .ro, 0x0, 0, 65535⟩

/-- DB_CHECK.STROBE_OK (07, Table 7.11). -/
def DB_CHECK_STROBE_OK : Row := ⟨160, .common, 0x20090018, 4, 1, 4, 4, .ro, 0x0, 0, 1⟩

/-- DB_CHECK.PRISM_OK (07, Table 7.11). -/
def DB_CHECK_PRISM_OK : Row := ⟨161, .common, 0x20090018, 4, 1, 3, 3, .ro, 0x0, 0, 1⟩

/-- DB_CHECK.RESP_OK (07, Table 7.11). -/
def DB_CHECK_RESP_OK : Row := ⟨162, .common, 0x20090018, 4, 1, 2, 0, .ro, 0x0, 0, 7⟩

/-- DB_PARAM_ID.ID (07, Table 7.11). -/
def DB_PARAM_ID_ID : Row := ⟨163, .common, 0x2009001C, 4, 1, 31, 0, .ro, 0x0, 0, 4294967295⟩

/-- DB_EVT.DEMANDS (07, Table 7.11). -/
def DB_EVT_DEMANDS : Row := ⟨164, .common, 0x20090020, 4, 1, 31, 24, .rc, 0x0, 0, 255⟩

/-- DB_EVT.VIOL (07, Table 7.11). -/
def DB_EVT_VIOL : Row := ⟨165, .common, 0x20090020, 4, 1, 23, 16, .rc, 0x0, 0, 255⟩

/-- DB_EVT.PAIR_FLT (07, Table 7.11). -/
def DB_EVT_PAIR_FLT : Row := ⟨166, .common, 0x20090020, 4, 1, 15, 8, .rc, 0x0, 0, 255⟩

/-- DB_EVT.SIDE_FLT (07, Table 7.11). -/
def DB_EVT_SIDE_FLT : Row := ⟨167, .common, 0x20090020, 4, 1, 7, 0, .rc, 0x0, 0, 255⟩

/-- DB_CTRL.CFG (07, Table 7.11). -/
def DB_CTRL_CFG : Row := ⟨168, .common, 0x20090024, 4, 1, 0, 0, .rw, 0x1, 0, 1⟩

/-- PAIR_STAT[p].STATE (07, Table 7.12). -/
def SPAIR_STAT_STATE : Row := ⟨169, .common, 0x20090040, 4, 8, 31, 28, .ro, 0x0, 0, 15⟩

/-- PAIR_STAT[p].FCAUSE (07, Table 7.12). -/
def SPAIR_STAT_FCAUSE : Row := ⟨170, .common, 0x20090040, 4, 8, 27, 24, .ro, 0x0, 0, 15⟩

/-- PAIR_STAT[p].PROOF (07, Table 7.12). -/
def SPAIR_STAT_PROOF : Row := ⟨171, .common, 0x20090040, 4, 8, 8, 8, .ro, 0x0, 0, 1⟩

/-- PAIR_STAT[p].SIDE2 (07, Table 7.12). -/
def SPAIR_STAT_SIDE2 : Row := ⟨172, .common, 0x20090040, 4, 8, 1, 1, .ro, 0x0, 0, 1⟩

/-- PAIR_STAT[p].SIDE1 (07, Table 7.12). -/
def SPAIR_STAT_SIDE1 : Row := ⟨173, .common, 0x20090040, 4, 8, 0, 0, .ro, 0x0, 0, 1⟩

/-- AXIS_STAT[a].STATE (07, Table 7.12). -/
def AXIS_STAT_STATE : Row := ⟨174, .common, 0x20090060, 4, 4, 31, 28, .ro, 0x0, 0, 15⟩

/-- AXIS_STAT[a].CAUSE (07, Table 7.12). -/
def AXIS_STAT_CAUSE : Row := ⟨175, .common, 0x20090060, 4, 4, 27, 24, .ro, 0x0, 0, 15⟩

/-- AXIS_STAT[a].TE2_FLT (07, Table 7.12). -/
def AXIS_STAT_TE2_FLT : Row := ⟨176, .common, 0x20090060, 4, 4, 9, 9, .ro, 0x0, 0, 1⟩

/-- AXIS_STAT[a].TE1_FLT (07, Table 7.12). -/
def AXIS_STAT_TE1_FLT : Row := ⟨177, .common, 0x20090060, 4, 4, 8, 8, .ro, 0x0, 0, 1⟩

/-- AXIS_STAT[a].TE2_RB (07, Table 7.12). -/
def AXIS_STAT_TE2_RB : Row := ⟨178, .common, 0x20090060, 4, 4, 1, 1, .ro, 0x0, 0, 1⟩

/-- AXIS_STAT[a].TE1_RB (07, Table 7.12). -/
def AXIS_STAT_TE1_RB : Row := ⟨179, .common, 0x20090060, 4, 4, 0, 0, .ro, 0x0, 0, 1⟩

/-- BRK_STAT[b].BT_PHASE (07, Table 7.13). -/
def BRK_STAT_BT_PHASE : Row := ⟨180, .common, 0x20090070, 4, 2, 31, 28, .ro, 0x0, 0, 15⟩

/-- BRK_STAT[b].BT_RESULT (07, Table 7.13). -/
def BRK_STAT_BT_RESULT : Row := ⟨181, .common, 0x20090070, 4, 2, 27, 26, .ro, 0x0, 0, 3⟩

/-- BRK_STAT[b].BT_DUE (07, Table 7.13). -/
def BRK_STAT_BT_DUE : Row := ⟨182, .common, 0x20090070, 4, 2, 25, 25, .ro, 0x0, 0, 1⟩

/-- BRK_STAT[b].BLOCKED (07, Table 7.13). -/
def BRK_STAT_BLOCKED : Row := ⟨183, .common, 0x20090070, 4, 2, 24, 24, .ro, 0x0, 0, 1⟩

/-- BRK_STAT[b].SIDE_FLT (07, Table 7.13). -/
def BRK_STAT_SIDE_FLT : Row := ⟨184, .common, 0x20090070, 4, 2, 23, 22, .ro, 0x0, 0, 3⟩

/-- BRK_STAT[b].ALLOW_RUN (07, Table 7.13). -/
def BRK_STAT_ALLOW_RUN : Row := ⟨185, .common, 0x20090070, 4, 2, 21, 21, .ro, 0x0, 0, 1⟩

/-- BRK_STAT[b].ALLOW_EXP (07, Table 7.13). -/
def BRK_STAT_ALLOW_EXP : Row := ⟨186, .common, 0x20090070, 4, 2, 20, 20, .ro, 0x0, 0, 1⟩

/-- BRK_STAT[b].ALLOW_S (07, Table 7.13). -/
def BRK_STAT_ALLOW_S : Row := ⟨187, .common, 0x20090070, 4, 2, 19, 8, .ro, 0x0, 0, 4095⟩

/-- BRK_I[b].MA (07, Table 7.13). -/
def BRK_I_MA : Row := ⟨188, .common, 0x20090078, 4, 2, 11, 0, .ro, 0x0, 0, 4095⟩

/-- ENC_CNT[a].COUNT (07, Table 7.13). -/
def ENC_CNT_COUNT : Row := ⟨189, .common, 0x20090080, 4, 4, 31, 0, .ro, 0x0, 0, 4294967295⟩

/-- ENC_SPD[a].V (07, Table 7.13). -/
def ENC_SPD_V : Row := ⟨190, .common, 0x20090090, 4, 4, 31, 0, .ro, 0x0, 0, 4294967295⟩

/-- SH_STAT.SYNC (07, Table 7.13). -/
def SH_STAT_SYNC : Row := ⟨191, .common, 0x200900A0, 4, 1, 31, 31, .ro, 0x0, 0, 1⟩

/-- SH_STAT.MASTER (07, Table 7.13). -/
def SH_STAT_MASTER : Row := ⟨192, .common, 0x200900A0, 4, 1, 30, 30, .ro, 0x0, 0, 1⟩

/-- SH_STAT.TICKS (07, Table 7.13). -/
def SH_STAT_TICKS : Row := ⟨193, .common, 0x200900A0, 4, 1, 18, 0, .ro, 0x0, 0, 524287⟩

/-- SH_REJ.CS_REJ (07, Table 7.13). -/
def SH_REJ_CS_REJ : Row := ⟨194, .common, 0x200900A4, 4, 1, 31, 16, .rc, 0x0, 0, 65535⟩

/-- SH_REJ.D_REJ (07, Table 7.13). -/
def SH_REJ_D_REJ : Row := ⟨195, .common, 0x200900A4, 4, 1, 15, 0, .rc, 0x0, 0, 65535⟩

/-- FIO_ID.BLOCK (08, Table 8.12). -/
def FIO_ID_BLOCK : Row := ⟨196, .common, 0x20080000, 4, 1, 31, 16, .ro, 0xF10, 0, 65535⟩

/-- FIO_ID.DIO (08, Table 8.12). -/
def FIO_ID_DIO : Row := ⟨197, .common, 0x20080000, 4, 1, 15, 8, .ro, 0x30, 0, 255⟩

/-- FIO_ID.REV (08, Table 8.12). -/
def FIO_ID_REV : Row := ⟨198, .common, 0x20080000, 4, 1, 7, 0, .ro, 0x1, 0, 255⟩

/-- KA_STAT.KA_US (08, Table 8.12). -/
def KA_STAT_KA_US : Row := ⟨199, .common, 0x20080004, 4, 1, 12, 0, .ro, 0x7D0, 0, 8191⟩

/-- BANK_CTRL[k].OOS (08, Table 8.12). -/
def BANK_CTRL_OOS : Row := ⟨200, .common, 0x20080010, 4, 6, 31, 31, .rw, 0x0, 0, 1⟩

/-- BANK_CTRL[k].KA_CLR (08, Table 8.12). -/
def BANK_CTRL_KA_CLR : Row := ⟨201, .common, 0x20080010, 4, 6, 1, 1, .wo, 0x0, 0, 1⟩

/-- BANK_CTRL[k].FLT_CLR (08, Table 8.12). -/
def BANK_CTRL_FLT_CLR : Row := ⟨202, .common, 0x20080010, 4, 6, 0, 0, .wo, 0x0, 0, 1⟩

/-- BANK_CFG[k].FALLBACK (08, Table 8.12). -/
def BANK_CFG_FALLBACK : Row := ⟨203, .common, 0x20080030, 4, 6, 28, 28, .rw, 0x0, 0, 1⟩

/-- BANK_CFG[k].ITYPE (08, Table 8.12). -/
def BANK_CFG_ITYPE : Row := ⟨204, .common, 0x20080030, 4, 6, 27, 26, .rw, 0x0, 0, 3⟩

/-- BANK_CFG[k].DIR (08, Table 8.12). -/
def BANK_CFG_DIR : Row := ⟨205, .common, 0x20080030, 4, 6, 23, 16, .rw, 0x0, 0, 255⟩

/-- BANK_CFG[k].PAR (08, Table 8.12). -/
def BANK_CFG_PAR : Row := ⟨206, .common, 0x20080030, 4, 6, 15, 12, .rw, 0x0, 0, 15⟩

/-- BANK_CFG[k].QUAD (08, Table 8.12). -/
def BANK_CFG_QUAD : Row := ⟨207, .common, 0x20080030, 4, 6, 11, 10, .rw, 0x0, 0, 3⟩

/-- BANK_STAT[k].PWR (08, Table 8.12). -/
def BANK_STAT_PWR : Row := ⟨208, .common, 0x20080050, 4, 6, 31, 31, .ro, 0x0, 0, 1⟩

/-- BANK_STAT[k].OOS (08, Table 8.12). -/
def BANK_STAT_OOS : Row := ⟨209, .common, 0x20080050, 4, 6, 30, 30, .ro, 0x0, 0, 1⟩

/-- BANK_STAT[k].OOS_SCANS (08, Table 8.12). -/
def BANK_STAT_OOS_SCANS : Row := ⟨210, .common, 0x20080050, 4, 6, 29, 28, .ro, 0x0, 0, 3⟩

/-- BANK_STAT[k].KA_TRIP (08, Table 8.12). -/
def BANK_STAT_KA_TRIP : Row := ⟨211, .common, 0x20080050, 4, 6, 27, 27, .ro, 0x0, 0, 1⟩

/-- BANK_STAT[k].CFG_REF (08, Table 8.12). -/
def BANK_STAT_CFG_REF : Row := ⟨212, .common, 0x20080050, 4, 6, 26, 26, .ro, 0x0, 0, 1⟩

/-- BANK_STAT[k].FALLBACK_ACT (08, Table 8.12). -/
def BANK_STAT_FALLBACK_ACT : Row := ⟨213, .common, 0x20080050, 4, 6, 25, 25, .ro, 0x0, 0, 1⟩

/-- BANK_STAT[k].VFIELD (08, Table 8.12). -/
def BANK_STAT_VFIELD : Row := ⟨214, .common, 0x20080050, 4, 6, 9, 0, .ro, 0x0, 0, 1023⟩

/-- CH_CFG[n].FILT (08, Table 8.13). -/
def CH_CFG_FILT : Row := ⟨215, .common, 0x20080100, 4, 48, 18, 16, .rw, 0x3, 0, 6⟩

/-- CH_CFG[n].OPEN_EN (08, Table 8.13). -/
def CH_CFG_OPEN_EN : Row := ⟨216, .common, 0x20080100, 4, 48, 1, 1, .rw, 0x0, 0, 1⟩

/-- CH_CFG[n].RETRY (08, Table 8.13). -/
def CH_CFG_RETRY : Row := ⟨217, .common, 0x20080100, 4, 48, 0, 0, .rw, 0x0, 0, 1⟩

/-- CH_STAT[n].TERM (08, Table 8.13). -/
def CH_STAT_TERM : Row := ⟨218, .common, 0x20080200, 4, 48, 31, 31, .ro, 0x0, 0, 1⟩

/-- CH_STAT[n].STATE (08, Table 8.13). -/
def CH_STAT_STATE : Row := ⟨219, .common, 0x20080200, 4, 48, 30, 30, .ro, 0x0, 0, 1⟩

/-- CH_STAT[n].OUT (08, Table 8.13). -/
def CH_STAT_OUT : Row := ⟨220, .common, 0x20080200, 4, 48, 29, 29, .ro, 0x0, 0, 1⟩

/-- CH_STAT[n].OVL (08, Table 8.13). -/
def CH_STAT_OVL : Row := ⟨221, .common, 0x20080200, 4, 48, 28, 28, .ro, 0x0, 0, 1⟩

/-- CH_STAT[n].THERM (08, Table 8.13). -/
def CH_STAT_THERM : Row := ⟨222, .common, 0x20080200, 4, 48, 27, 27, .ro, 0x0, 0, 1⟩

/-- CH_STAT[n].RBK (08, Table 8.13). -/
def CH_STAT_RBK : Row := ⟨223, .common, 0x20080200, 4, 48, 26, 26, .ro, 0x0, 0, 1⟩

/-- CH_STAT[n].OPEN (08, Table 8.13). -/
def CH_STAT_OPEN : Row := ⟨224, .common, 0x20080200, 4, 48, 25, 25, .ro, 0x0, 0, 1⟩

/-- CH_STAT[n].OVL_CNT (08, Table 8.13). -/
def CH_STAT_OVL_CNT : Row := ⟨225, .common, 0x20080200, 4, 48, 15, 0, .rc, 0x0, 0, 65535⟩

/-- AI_CFG[c].LOOP_EN (08, Table 8.14). -/
def AI_CFG_LOOP_EN : Row := ⟨226, .common, 0x20080300, 4, 8, 31, 31, .rw, 0x0, 0, 1⟩

/-- AI_CFG[c].FILT (08, Table 8.14). -/
def AI_CFG_FILT : Row := ⟨227, .common, 0x20080300, 4, 8, 27, 24, .rw, 0x0, 0, 3⟩

/-- AI_CFG[c].COMPL_MIN (08, Table 8.14). -/
def AI_CFG_COMPL_MIN : Row := ⟨228, .common, 0x20080300, 4, 8, 15, 0, .rw, 0x2904, 6000, 20000⟩

/-- AI_STAT[c].CODE (08, Table 8.14). -/
def AI_STAT_CODE : Row := ⟨229, .common, 0x20080320, 4, 8, 31, 16, .ro, 0x0, 0, 65535⟩

/-- AI_STAT[c].VCOMP (08, Table 8.14). -/
def AI_STAT_VCOMP : Row := ⟨230, .common, 0x20080320, 4, 8, 15, 0, .ro, 0x0, 0, 65535⟩

/-- ENC_CFG[e].EN (08, Table 8.14). -/
def ENC_CFG_EN : Row := ⟨231, .common, 0x20080400, 4, 4, 31, 31, .rw, 0x0, 0, 1⟩

/-- ENC_CFG[e].INV (08, Table 8.14). -/
def ENC_CFG_INV : Row := ⟨232, .common, 0x20080400, 4, 4, 30, 30, .rw, 0x0, 0, 1⟩

/-- ENC_CFG[e].ZMODE (08, Table 8.14). -/
def ENC_CFG_ZMODE : Row := ⟨233, .common, 0x20080400, 4, 4, 29, 28, .rw, 0x0, 0, 2⟩

/-- ENC_STAT[e].HTL (08, Table 8.14). -/
def FENC_STAT_HTL : Row := ⟨234, .common, 0x20080410, 4, 4, 31, 31, .ro, 0x0, 0, 1⟩

/-- ENC_STAT[e].FAULT (08, Table 8.14). -/
def FENC_STAT_FAULT : Row := ⟨235, .common, 0x20080410, 4, 4, 30, 30, .ro, 0x0, 0, 1⟩

/-- ENC_STAT[e].AMPL (08, Table 8.14). -/
def FENC_STAT_AMPL : Row := ⟨236, .common, 0x20080410, 4, 4, 29, 29, .ro, 0x0, 0, 1⟩

/-- ENC_STAT[e].OPEN (08, Table 8.14). -/
def FENC_STAT_OPEN : Row := ⟨237, .common, 0x20080410, 4, 4, 28, 28, .ro, 0x0, 0, 1⟩

/-- ENC_STAT[e].SAME (08, Table 8.14). -/
def FENC_STAT_SAME : Row := ⟨238, .common, 0x20080410, 4, 4, 27, 27, .ro, 0x0, 0, 1⟩

/-- ENC_STAT[e].ERR_CNT (08, Table 8.14). -/
def FENC_STAT_ERR_CNT : Row := ⟨239, .common, 0x20080410, 4, 4, 15, 0, .rc, 0x0, 0, 65535⟩

/-- RFX0.EN (08, Table 8.15). -/
def RFX0_EN : Row := ⟨240, .common, 0x20081000, 16, 64, 31, 31, .rw, 0x0, 0, 1⟩

/-- RFX0.SKIND (08, Table 8.15). -/
def RFX0_SKIND : Row := ⟨241, .common, 0x20081000, 16, 64, 30, 29, .rw, 0x0, 0, 3⟩

/-- RFX0.COND (08, Table 8.15). -/
def RFX0_COND : Row := ⟨242, .common, 0x20081000, 16, 64, 28, 27, .rw, 0x0, 0, 3⟩

/-- RFX0.SRC (08, Table 8.15). -/
def RFX0_SRC : Row := ⟨243, .common, 0x20081000, 16, 64, 26, 21, .rw, 0x0, 0, 63⟩

/-- RFX0.GATE_EN (08, Table 8.15). -/
def RFX0_GATE_EN : Row := ⟨244, .common, 0x20081000, 16, 64, 20, 20, .rw, 0x0, 0, 1⟩

/-- RFX0.GATE_POL (08, Table 8.15). -/
def RFX0_GATE_POL : Row := ⟨245, .common, 0x20081000, 16, 64, 19, 19, .rw, 0x0, 0, 1⟩

/-- RFX0.GATE (08, Table 8.15). -/
def RFX0_GATE : Row := ⟨246, .common, 0x20081000, 16, 64, 18, 13, .rw, 0x0, 0, 63⟩

/-- RFX0.ACTION (08, Table 8.15). -/
def RFX0_ACTION : Row := ⟨247, .common, 0x20081000, 16, 64, 7, 6, .rw, 0x0, 0, 3⟩

/-- RFX0.TGT (08, Table 8.15). -/
def RFX0_TGT : Row := ⟨248, .common, 0x20081000, 16, 64, 5, 0, .rw, 0x0, 0, 63⟩

/-- RFX1.THRESH (08, Table 8.15). -/
def RFX1_THRESH : Row := ⟨249, .common, 0x20081004, 16, 64, 31, 0, .rw, 0x0, 0, 4294967295⟩

/-- RFX2.PULSE_US (08, Table 8.15). -/
def RFX2_PULSE_US : Row := ⟨250, .common, 0x20081008, 16, 64, 23, 0, .rw, 0x1, 1, 10000000⟩

/-- RFX3.HOLD (08, Table 8.15). -/
def RFX3_HOLD : Row := ⟨251, .common, 0x2008100C, 16, 64, 31, 31, .ro, 0x0, 0, 1⟩

/-- RFX3.ARMED (08, Table 8.15). -/
def RFX3_ARMED : Row := ⟨252, .common, 0x2008100C, 16, 64, 30, 30, .ro, 0x0, 0, 1⟩

/-- RFX3.FIRE_CNT (08, Table 8.15). -/
def RFX3_FIRE_CNT : Row := ⟨253, .common, 0x2008100C, 16, 64, 15, 0, .rc, 0x0, 0, 65535⟩

/-- TB_STAT.STEP0 (09, Table 9.5). -/
def TB_STAT_STEP0 : Row := ⟨254, .common, 0x20020000, 4, 1, 31, 24, .ro, 0x0, 0, 255⟩

/-- TB_STAT.STEP2 (09, Table 9.5). -/
def TB_STAT_STEP2 : Row := ⟨255, .common, 0x20020000, 4, 1, 23, 16, .ro, 0x0, 0, 255⟩

/-- TB_STAT.STEP3 (09, Table 9.5). -/
def TB_STAT_STEP3 : Row := ⟨256, .common, 0x20020000, 4, 1, 15, 8, .ro, 0x0, 0, 255⟩

/-- TB_STAT.VALID (09, Table 9.5). -/
def TB_STAT_VALID : Row := ⟨257, .common, 0x20020000, 4, 1, 3, 0, .ro, 0x0, 0, 15⟩

/-- TB_SNAP.GO (09, Table 9.5). -/
def TB_SNAP_GO : Row := ⟨258, .common, 0x20020004, 4, 1, 0, 0, .wo, 0x0, 0, 1⟩

/-- TB_VAL[n].NS (09, Table 9.5). -/
def TB_VAL_NS : Row := ⟨259, .common, 0x20020010, 4, 4, 31, 0, .ro, 0x0, 0, 4294967295⟩

/-- SNAP[n].NS (09, Table 9.5). -/
def SNAP_NS : Row := ⟨260, .common, 0x20020020, 4, 4, 31, 0, .ro, 0x0, 0, 4294967295⟩

/-- SNAP2_HI.NS (09, Table 9.5). -/
def SNAP2_HI_NS : Row := ⟨261, .common, 0x20020030, 4, 1, 31, 0, .ro, 0x0, 0, 4294967295⟩

/-- TB2_CTRL.SRC (09, Table 9.5). -/
def TB2_CTRL_SRC : Row := ⟨262, .common, 0x20020040, 4, 1, 31, 31, .rw, 0x0, 0, 1⟩

/-- TB2_CTRL.UTC_OFS (09, Table 9.5). -/
def TB2_CTRL_UTC_OFS : Row := ⟨263, .common, 0x20020040, 4, 1, 7, 0, .rw, 0x25, 0, 255⟩

/-- TB2_ADJ.STEP (09, Table 9.5). -/
def TB2_ADJ_STEP : Row := ⟨264, .common, 0x20020044, 4, 1, 31, 0, .wo, 0x0, 0, 4294967295⟩

/-- TB2_RATE.PPB (09, Table 9.5). -/
def TB2_RATE_PPB : Row := ⟨265, .common, 0x20020048, 4, 1, 31, 0, .rw, 0x0, 0, 4294967295⟩

/-- PTP_STAT.LOCKED (09, Table 9.5). -/
def PTP_STAT_LOCKED : Row := ⟨266, .common, 0x2002004C, 4, 1, 31, 31, .ro, 0x0, 0, 1⟩

/-- PTP_STAT.HOLDOVER (09, Table 9.5). -/
def PTP_STAT_HOLDOVER : Row := ⟨267, .common, 0x2002004C, 4, 1, 30, 30, .ro, 0x0, 0, 1⟩

/-- PTP_STAT.OFFSET (09, Table 9.5). -/
def PTP_STAT_OFFSET : Row := ⟨268, .common, 0x2002004C, 4, 1, 29, 0, .ro, 0x0, 0, 1073741823⟩

/-- TB3_CTRL.EN (09, Table 9.5). -/
def TB3_CTRL_EN : Row := ⟨269, .common, 0x20020050, 4, 1, 31, 31, .rw, 0x0, 0, 1⟩

/-- TB3_CTRL.REF (09, Table 9.5). -/
def TB3_CTRL_REF : Row := ⟨270, .common, 0x20020050, 4, 1, 30, 30, .rw, 0x1, 0, 1⟩

/-- TB3_LOAD.NS (09, Table 9.5). -/
def TB3_LOAD_NS : Row := ⟨271, .common, 0x20020054, 4, 1, 31, 0, .rw, 0x0, 0, 4294967295⟩

/-- TB3_RATE.PPB (09, Table 9.5). -/
def TB3_RATE_PPB : Row := ⟨272, .common, 0x20020058, 4, 1, 31, 0, .rw, 0x0, 0, 4294967295⟩

/-- PARK_NS_LO.NS (09, Table 9.5). -/
def PARK_NS_LO_NS : Row := ⟨273, .common, 0x20020060, 4, 1, 31, 0, .ro, 0x0, 0, 4294967295⟩

/-- PARK_NS_HI.NS (09, Table 9.5). -/
def PARK_NS_HI_NS : Row := ⟨274, .common, 0x20020064, 4, 1, 31, 0, .ro, 0x0, 0, 4294967295⟩

/-- CAP_CTRL.EN (09, Table 9.5). -/
def CAP_CTRL_EN : Row := ⟨275, .common, 0x20020100, 4, 1, 31, 31, .rw, 0x0, 0, 1⟩

/-- CAP_CTRL.TB (09, Table 9.5). -/
def CAP_CTRL_TB : Row := ⟨276, .common, 0x20020100, 4, 1, 1, 0, .rw, 0x1, 0, 3⟩

/-- CAP_STAT.LIMIT (09, Table 9.5). -/
def CAP_STAT_LIMIT : Row := ⟨277, .common, 0x20020104, 4, 1, 25, 16, .ro, 0x0, 0, 1023⟩

/-- CAP_STAT.FILL (09, Table 9.5). -/
def CAP_STAT_FILL : Row := ⟨278, .common, 0x20020104, 4, 1, 10, 0, .ro, 0x0, 0, 2047⟩

/-- CAP_RD_IDX.IDX (09, Table 9.5). -/
def CAP_RD_IDX_IDX : Row := ⟨279, .common, 0x20020108, 4, 1, 9, 0, .rw, 0x0, 0, 1023⟩

/-- CAP_LOST.COUNT (09, Table 9.5). -/
def CAP_LOST_COUNT : Row := ⟨280, .common, 0x2002010C, 4, 1, 31, 0, .rc, 0x0, 0, 4294967295⟩

/-- PAIR_CFG.EN (10, Table 10.5). -/
def PAIR_CFG_EN : Row := ⟨281, .lane, 0x20043000, 4, 1, 31, 31, .rws, 0x0, 0, 1⟩

/-- PAIR_CFG.PREF (10, Table 10.5). -/
def PAIR_CFG_PREF : Row := ⟨282, .lane, 0x20043000, 4, 1, 30, 30, .rws, 0x0, 0, 1⟩

/-- PAIR_CFG.PEER_NODE (10, Table 10.5). -/
def PAIR_CFG_PEER_NODE : Row := ⟨283, .lane, 0x20043000, 4, 1, 29, 20, .rws, 0x1, 0, 1023⟩

/-- PAIR_CFG.PAIR_ID (10, Table 10.5). -/
def PAIR_CFG_PAIR_ID : Row := ⟨284, .lane, 0x20043000, 4, 1, 15, 0, .rws, 0x0, 0, 65535⟩

/-- PAIR_TIME.HOLD_OFF (10, Table 10.5). -/
def PAIR_TIME_HOLD_OFF : Row := ⟨285, .lane, 0x20043004, 4, 1, 31, 20, .rws, 0xA, 0, 3600⟩

/-- PAIR_TIME.SH_TOL (10, Table 10.5). -/
def PAIR_TIME_SH_TOL : Row := ⟨286, .lane, 0x20043004, 4, 1, 19, 16, .rws, 0x4, 0, 15⟩

/-- PAIR_SLOT.HEALTH_OUT (10, Table 10.5). -/
def PAIR_SLOT_HEALTH_OUT : Row := ⟨287, .lane, 0x20043008, 4, 1, 27, 16, .rws, 0x0, 0, 4095⟩

/-- PAIR_SLOT.HEALTH_IN (10, Table 10.5). -/
def PAIR_SLOT_HEALTH_IN : Row := ⟨288, .lane, 0x20043008, 4, 1, 11, 0, .rws, 0x0, 0, 4095⟩

/-- REF_CFG.REF1_EN (10, Table 10.5). -/
def REF_CFG_REF1_EN : Row := ⟨289, .lane, 0x2004300C, 4, 1, 31, 31, .rws, 0x0, 0, 1⟩

/-- REF_CFG.REF1_NODE (10, Table 10.5). -/
def REF_CFG_REF1_NODE : Row := ⟨290, .lane, 0x2004300C, 4, 1, 29, 20, .rws, 0x0, 0, 1023⟩

/-- REF_CFG.REF0_NODE (10, Table 10.5). -/
def REF_CFG_REF0_NODE : Row := ⟨291, .lane, 0x2004300C, 4, 1, 19, 10, .rws, 0x0, 0, 1023⟩

/-- REF_CFG.REF_POS (10, Table 10.5). -/
def REF_CFG_REF_POS : Row := ⟨292, .lane, 0x2004300C, 4, 1, 9, 0, .rws, 0x0, 0, 1023⟩

/-- PAIR_STAT.ROLE (10, Table 10.5). -/
def PAIR_STAT_ROLE : Row := ⟨293, .lane, 0x20043010, 4, 1, 31, 30, .ro, 0x0, 0, 3⟩

/-- PAIR_STAT.FIT (10, Table 10.5). -/
def PAIR_STAT_FIT : Row := ⟨294, .lane, 0x20043010, 4, 1, 29, 29, .ro, 0x0, 0, 1⟩

/-- PAIR_STAT.TAKEBACK (10, Table 10.5). -/
def PAIR_STAT_TAKEBACK : Row := ⟨295, .lane, 0x20043010, 4, 1, 28, 28, .ro, 0x0, 0, 1⟩

/-- PAIR_STAT.SHADOW_OK (10, Table 10.5). -/
def PAIR_STAT_SHADOW_OK : Row := ⟨296, .lane, 0x20043010, 4, 1, 27, 27, .ro, 0x0, 0, 1⟩

/-- PAIR_STAT.VERD_OK (10, Table 10.5). -/
def PAIR_STAT_VERD_OK : Row := ⟨297, .lane, 0x20043010, 4, 1, 26, 26, .ro, 0x0, 0, 1⟩

/-- PAIR_STAT.NAMED (10, Table 10.5). -/
def PAIR_STAT_NAMED : Row := ⟨298, .lane, 0x20043010, 4, 1, 25, 16, .ro, 0x3FF, 0, 1023⟩

/-- PAIR_STAT.SHADOW_MISS (10, Table 10.5). -/
def PAIR_STAT_SHADOW_MISS : Row := ⟨299, .lane, 0x20043010, 4, 1, 15, 8, .ro, 0x0, 0, 255⟩

/-- PAIR_STAT.PEER_OK (10, Table 10.5). -/
def PAIR_STAT_PEER_OK : Row := ⟨300, .lane, 0x20043010, 4, 1, 7, 7, .ro, 0x0, 0, 1⟩

/-- HEALTH_TX_HI.WORD (10, Table 10.5). -/
def HEALTH_TX_HI_WORD : Row := ⟨301, .lane, 0x20043014, 4, 1, 31, 0, .ro, 0x0, 0, 4294967295⟩

/-- HEALTH_TX_LO.WORD (10, Table 10.5). -/
def HEALTH_TX_LO_WORD : Row := ⟨302, .lane, 0x20043018, 4, 1, 31, 0, .ro, 0x0, 0, 4294967295⟩

/-- HEALTH_RX_HI.WORD (10, Table 10.5). -/
def HEALTH_RX_HI_WORD : Row := ⟨303, .lane, 0x2004301C, 4, 1, 31, 0, .ro, 0x0, 0, 4294967295⟩

/-- HEALTH_RX_LO.WORD (10, Table 10.5). -/
def HEALTH_RX_LO_WORD : Row := ⟨304, .lane, 0x20043020, 4, 1, 31, 0, .ro, 0x0, 0, 4294967295⟩

/-- VERDICT_HI.WORD (10, Table 10.5). -/
def VERDICT_HI_WORD : Row := ⟨305, .lane, 0x20043024, 4, 1, 31, 0, .ro, 0x0, 0, 4294967295⟩

/-- VERDICT_LO.WORD (10, Table 10.5). -/
def VERDICT_LO_WORD : Row := ⟨306, .lane, 0x20043028, 4, 1, 31, 0, .ro, 0x0, 0, 4294967295⟩

/-- PAIR_EVT.TAKES (10, Table 10.5). -/
def PAIR_EVT_TAKES : Row := ⟨307, .lane, 0x2004302C, 4, 1, 31, 16, .rc, 0x0, 0, 65535⟩

/-- PAIR_EVT.VERD_ERR (10, Table 10.5). -/
def PAIR_EVT_VERD_ERR : Row := ⟨308, .lane, 0x2004302C, 4, 1, 15, 0, .rc, 0x0, 0, 65535⟩

/-- PAIR_PEER.PEER_SLOT (10, Table 10.5). -/
def PAIR_PEER_PEER_SLOT : Row := ⟨309, .lane, 0x20043030, 4, 1, 11, 0, .rws, 0x0, 0, 4095⟩

/-- CX_CTRL.EN (10, Table 10.6). -/
def CX_CTRL_EN : Row := ⟨310, .lane, 0x20043080, 4, 1, 31, 31, .rws, 0x0, 0, 1⟩

/-- CX_CTRL.N_MEMB (10, Table 10.6). -/
def CX_CTRL_N_MEMB : Row := ⟨311, .lane, 0x20043080, 4, 1, 27, 26, .rws, 0x1, 0, 3⟩

/-- CX_CTRL.CX_WAIT (10, Table 10.6). -/
def CX_CTRL_CX_WAIT : Row := ⟨312, .lane, 0x20043080, 4, 1, 22, 16, .rws, 0x14, 0, 100⟩

/-- CX_CTRL.CX_HOLD (10, Table 10.6). -/
def CX_CTRL_CX_HOLD : Row := ⟨313, .lane, 0x20043080, 4, 1, 10, 8, .rws, 0x2, 0, 7⟩

/-- CX_OUT_D.OUT_DOFS (10, Table 10.6). -/
def CX_OUT_D_OUT_DOFS : Row := ⟨314, .lane, 0x20043084, 4, 1, 30, 16, .rws, 0x0, 0, 32767⟩

/-- CX_OUT_D.DLEN (10, Table 10.6). -/
def CX_OUT_D_DLEN : Row := ⟨315, .lane, 0x20043084, 4, 1, 14, 0, .rws, 0x0, 0, 32767⟩

/-- CX_OUT_W.OUT_WOFS (10, Table 10.6). -/
def CX_OUT_W_OUT_WOFS : Row := ⟨316, .lane, 0x20043088, 4, 1, 29, 16, .rws, 0x0, 0, 16383⟩

/-- CX_OUT_W.WLEN (10, Table 10.6). -/
def CX_OUT_W_WLEN : Row := ⟨317, .lane, 0x20043088, 4, 1, 14, 0, .rws, 0x0, 0, 32767⟩

/-- CX_QUAL.QUAL_BASE (10, Table 10.6). -/
def CX_QUAL_QUAL_BASE : Row := ⟨318, .lane, 0x2004308C, 4, 1, 17, 0, .rws, 0x0, 0, 262143⟩

/-- CX_STAT.POS (10, Table 10.6). -/
def CX_STAT_POS : Row := ⟨319, .lane, 0x20043090, 4, 1, 31, 30, .ro, 0x0, 0, 3⟩

/-- CX_STAT.SYNC_OK (10, Table 10.6). -/
def CX_STAT_SYNC_OK : Row := ⟨320, .lane, 0x20043090, 4, 1, 29, 29, .ro, 0x0, 0, 1⟩

/-- CX_STAT.MASTER (10, Table 10.6). -/
def CX_STAT_MASTER : Row := ⟨321, .lane, 0x20043090, 4, 1, 28, 28, .ro, 0x0, 0, 1⟩

/-- CX_STAT.LINK (10, Table 10.6). -/
def CX_STAT_LINK : Row := ⟨322, .lane, 0x20043090, 4, 1, 27, 26, .ro, 0x0, 0, 3⟩

/-- CX_STAT.PRESENT (10, Table 10.6). -/
def CX_STAT_PRESENT : Row := ⟨323, .lane, 0x20043090, 4, 1, 19, 16, .ro, 0x0, 0, 15⟩

/-- CX_WAIT_NS.NS (10, Table 10.6). -/
def CX_WAIT_NS_NS : Row := ⟨324, .lane, 0x20043094, 4, 1, 31, 0, .ro, 0x0, 0, 4294967295⟩

/-- CX_WAIT_MAX.NS (10, Table 10.6). -/
def CX_WAIT_MAX_NS : Row := ⟨325, .lane, 0x20043098, 4, 1, 31, 0, .rc, 0x0, 0, 4294967295⟩

/-- CX_MEMB0[m].IN_DOFS (10, Table 10.6). -/
def CX_MEMB0_IN_DOFS : Row := ⟨326, .lane, 0x200430A0, 8, 4, 30, 16, .rws, 0x0, 0, 32767⟩

/-- CX_MEMB0[m].IN_DLEN (10, Table 10.6). -/
def CX_MEMB0_IN_DLEN : Row := ⟨327, .lane, 0x200430A0, 8, 4, 14, 0, .rws, 0x0, 0, 32767⟩

/-- CX_MEMB1[m].IN_WOFS (10, Table 10.6). -/
def CX_MEMB1_IN_WOFS : Row := ⟨328, .lane, 0x200430A4, 8, 4, 29, 16, .rws, 0x0, 0, 16383⟩

/-- CX_MEMB1[m].IN_WLEN (10, Table 10.6). -/
def CX_MEMB1_IN_WLEN : Row := ⟨329, .lane, 0x200430A4, 8, 4, 14, 0, .rws, 0x0, 0, 32767⟩

/-- CX_MSTAT[m].MISS (10, Table 10.6). -/
def CX_MSTAT_MISS : Row := ⟨330, .lane, 0x200430C0, 4, 4, 31, 16, .rc, 0x0, 0, 65535⟩

/-- CX_MSTAT[m].STATE (10, Table 10.6). -/
def CX_MSTAT_STATE : Row := ⟨331, .lane, 0x200430C0, 4, 4, 15, 8, .ro, 0x0, 0, 255⟩

/-- CX_MSTAT[m].AGE (10, Table 10.6). -/
def CX_MSTAT_AGE : Row := ⟨332, .lane, 0x200430C0, 4, 4, 7, 4, .ro, 0x0, 0, 15⟩

/-- CX_MSTAT[m].AGED (10, Table 10.6). -/
def CX_MSTAT_AGED : Row := ⟨333, .lane, 0x200430C0, 4, 4, 1, 1, .ro, 0x0, 0, 1⟩

/-- CX_MSTAT[m].VALID (10, Table 10.6). -/
def CX_MSTAT_VALID : Row := ⟨334, .lane, 0x200430C0, 4, 4, 0, 0, .ro, 0x0, 0, 1⟩

/-- HASP_CTRL.PREF (10, Table 10.7). -/
def HASP_CTRL_PREF : Row := ⟨335, .common, 0x200900B0, 4, 1, 2, 2, .rw, 0x0, 0, 1⟩

/-- HASP_CTRL.PAIR (10, Table 10.7). -/
def HASP_CTRL_PAIR : Row := ⟨336, .common, 0x200900B0, 4, 1, 1, 1, .rw, 0x0, 0, 1⟩

/-- HASP_CTRL.TAKE (10, Table 10.7). -/
def HASP_CTRL_TAKE : Row := ⟨337, .common, 0x200900B0, 4, 1, 0, 0, .rw, 0x0, 0, 1⟩

/-- HASP_STAT.HELD (10, Table 10.7). -/
def HASP_STAT_HELD : Row := ⟨338, .common, 0x200900B4, 4, 1, 31, 31, .ro, 0x0, 0, 1⟩

/-- HASP_STAT.PEER_HELD (10, Table 10.7). -/
def HASP_STAT_PEER_HELD : Row := ⟨339, .common, 0x200900B4, 4, 1, 30, 30, .ro, 0x0, 0, 1⟩

/-- HASP_STAT.LINE_OK (10, Table 10.7). -/
def HASP_STAT_LINE_OK : Row := ⟨340, .common, 0x200900B4, 4, 1, 29, 29, .ro, 0x0, 0, 1⟩

/-- HASP_STAT.CONFLICT (10, Table 10.7). -/
def HASP_STAT_CONFLICT : Row := ⟨341, .common, 0x200900B4, 4, 1, 28, 28, .ro, 0x0, 0, 1⟩

/-- HASP_STAT.TAKE_REF (10, Table 10.7). -/
def HASP_STAT_TAKE_REF : Row := ⟨342, .common, 0x200900B4, 4, 1, 27, 27, .ro, 0x0, 0, 1⟩

/-- HASP_STAT.PAIR_ACT (10, Table 10.7). -/
def HASP_STAT_PAIR_ACT : Row := ⟨343, .common, 0x200900B4, 4, 1, 26, 26, .ro, 0x0, 0, 1⟩

/-- HASP_STAT.PAIR_REF (10, Table 10.7). -/
def HASP_STAT_PAIR_REF : Row := ⟨344, .common, 0x200900B4, 4, 1, 25, 25, .ro, 0x0, 0, 1⟩

/-- HASP_STAT.FREE_US (10, Table 10.7). -/
def HASP_STAT_FREE_US : Row := ⟨345, .common, 0x200900B4, 4, 1, 15, 0, .ro, 0x0, 0, 65535⟩

/-- HASP_EVT.TESTS_RX (10, Table 10.7). -/
def HASP_EVT_TESTS_RX : Row := ⟨346, .common, 0x200900B8, 4, 1, 31, 16, .rc, 0x0, 0, 65535⟩

/-- HASP_EVT.TAKES (10, Table 10.7). -/
def HASP_EVT_TAKES : Row := ⟨347, .common, 0x200900B8, 4, 1, 15, 0, .rc, 0x0, 0, 65535⟩

/-- FLT_CFG.CSTOP_MAX (11, Table 11.6). -/
def FLT_CFG_CSTOP_MAX : Row := ⟨348, .lane, 0x2004004C, 4, 1, 12, 0, .rws, 0x3E8, 10, 6000⟩

/-- FLT_STAT.FCLASS (11, Table 11.6). -/
def FLT_STAT_FCLASS : Row := ⟨349, .lane, 0x20040050, 4, 1, 31, 28, .ro, 0x0, 0, 15⟩

/-- FLT_STAT.CSTOP (11, Table 11.6). -/
def FLT_STAT_CSTOP : Row := ⟨350, .lane, 0x20040050, 4, 1, 27, 27, .ro, 0x0, 0, 1⟩

/-- FLT_STAT.SAFE (11, Table 11.6). -/
def FLT_STAT_SAFE : Row := ⟨351, .lane, 0x20040050, 4, 1, 26, 26, .ro, 0x0, 0, 1⟩

/-- FLT_STAT.ACK_PEND (11, Table 11.6). -/
def FLT_STAT_ACK_PEND : Row := ⟨352, .lane, 0x20040050, 4, 1, 25, 25, .ro, 0x0, 0, 1⟩

/-- FLT_STAT.CSTOP_REM (11, Table 11.6). -/
def FLT_STAT_CSTOP_REM : Row := ⟨353, .lane, 0x20040050, 4, 1, 15, 0, .ro, 0x0, 0, 65535⟩

/-- PWR_STAT.STATE (12, Table 12.6). -/
def PWR_STAT_STATE : Row := ⟨354, .keeper, 0x70003000, 4, 1, 31, 30, .ro, 0x3, 0, 3⟩

/-- PWR_STAT.LANE_DOZE (12, Table 12.6). -/
def PWR_STAT_LANE_DOZE : Row := ⟨355, .keeper, 0x70003000, 4, 1, 29, 27, .ro, 0x0, 0, 7⟩

/-- PWR_STAT.PARK_ARM (12, Table 12.6). -/
def PWR_STAT_PARK_ARM : Row := ⟨356, .keeper, 0x70003000, 4, 1, 26, 26, .ro, 0x0, 0, 1⟩

/-- PWR_STAT.DOZE_PM (12, Table 12.6). -/
def PWR_STAT_DOZE_PM : Row := ⟨357, .keeper, 0x70003000, 4, 1, 9, 0, .ro, 0x0, 0, 1023⟩

/-- PWR_CTRL.DOZE_DIS (12, Table 12.6). -/
def PWR_CTRL_DOZE_DIS : Row := ⟨358, .keeper, 0x70003004, 4, 1, 1, 1, .rw, 0x0, 0, 1⟩

/-- PWR_CTRL.PARK_GO (12, Table 12.6). -/
def PWR_CTRL_PARK_GO : Row := ⟨359, .keeper, 0x70003004, 4, 1, 0, 0, .wo, 0x0, 0, 1⟩

/-- SUPW_CFG.WIN_MS (12, Table 12.6). -/
def SUPW_CFG_WIN_MS : Row := ⟨360, .keeper, 0x70003008, 4, 1, 9, 0, .rw, 0x64, 1, 1000⟩

/-- SUPW_STAT.LOW (12, Table 12.6). -/
def SUPW_STAT_LOW : Row := ⟨361, .keeper, 0x7000300C, 4, 1, 31, 31, .ro, 0x0, 0, 1⟩

/-- SUPW_STAT.WIN_OPEN (12, Table 12.6). -/
def SUPW_STAT_WIN_OPEN : Row := ⟨362, .keeper, 0x7000300C, 4, 1, 30, 30, .ro, 0x0, 0, 1⟩

/-- SUPW_STAT.EDGES (12, Table 12.6). -/
def SUPW_STAT_EDGES : Row := ⟨363, .keeper, 0x7000300C, 4, 1, 15, 0, .rc, 0x0, 0, 65535⟩

/-- AON_TICK_LO.TICK (12, Table 12.6). -/
def AON_TICK_LO_TICK : Row := ⟨364, .keeper, 0x70003010, 4, 1, 31, 0, .ro, 0x0, 0, 4294967295⟩

/-- AON_TICK_HI.TICK (12, Table 12.6). -/
def AON_TICK_HI_TICK : Row := ⟨365, .keeper, 0x70003014, 4, 1, 15, 0, .ro, 0x0, 0, 65535⟩

/-- AON_ALARM_LO.TICK (12, Table 12.6). -/
def AON_ALARM_LO_TICK : Row := ⟨366, .keeper, 0x70003018, 4, 1, 31, 0, .rw, 0x0, 0, 4294967295⟩

/-- AON_ALARM_HI.TICK (12, Table 12.6). -/
def AON_ALARM_HI_TICK : Row := ⟨367, .keeper, 0x7000301C, 4, 1, 15, 0, .rw, 0x0, 0, 65535⟩

/-- AON_STAT.VALID (12, Table 12.6). -/
def AON_STAT_VALID : Row := ⟨368, .keeper, 0x70003020, 4, 1, 31, 31, .ro, 0x0, 0, 1⟩

/-- AON_STAT.VBAT_LOW (12, Table 12.6). -/
def AON_STAT_VBAT_LOW : Row := ⟨369, .keeper, 0x70003020, 4, 1, 30, 30, .ro, 0x0, 0, 1⟩

/-- AON_STAT.LAST_WAKE (12, Table 12.6). -/
def AON_STAT_LAST_WAKE : Row := ⟨370, .keeper, 0x70003020, 4, 1, 3, 0, .ro, 0x0, 0, 15⟩

/-- WAKE_CFG.ALARM_EN (12, Table 12.6). -/
def WAKE_CFG_ALARM_EN : Row := ⟨371, .keeper, 0x70003024, 4, 1, 2, 2, .rw, 0x0, 0, 1⟩

/-- WAKE_CFG.LUOSH_EN (12, Table 12.6). -/
def WAKE_CFG_LUOSH_EN : Row := ⟨372, .keeper, 0x70003024, 4, 1, 1, 1, .rw, 0x1, 0, 1⟩

/-- WAKE_CFG.WAKEN_EN (12, Table 12.6). -/
def WAKE_CFG_WAKEN_EN : Row := ⟨373, .keeper, 0x70003024, 4, 1, 0, 0, .rw, 0x1, 0, 1⟩

/-- WAKE_CNT.SPUR (12, Table 12.6). -/
def WAKE_CNT_SPUR : Row := ⟨374, .keeper, 0x70003028, 4, 1, 31, 16, .rc, 0x0, 0, 65535⟩

/-- WAKE_CNT.WAKES (12, Table 12.6). -/
def WAKE_CNT_WAKES : Row := ⟨375, .keeper, 0x70003028, 4, 1, 15, 0, .rc, 0x0, 0, 65535⟩

/-- CLK_STAT.TCXO_OK (12, Table 12.6). -/
def CLK_STAT_TCXO_OK : Row := ⟨376, .keeper, 0x7000302C, 4, 1, 7, 7, .ro, 0x0, 0, 1⟩

/-- CLK_STAT.TIME (12, Table 12.6). -/
def CLK_STAT_TIME : Row := ⟨377, .keeper, 0x7000302C, 4, 1, 6, 6, .ro, 0x0, 0, 1⟩

/-- CLK_STAT.ICN (12, Table 12.6). -/
def CLK_STAT_ICN : Row := ⟨378, .keeper, 0x7000302C, 4, 1, 5, 5, .ro, 0x0, 0, 1⟩

/-- CLK_STAT.KEEPER (12, Table 12.6). -/
def CLK_STAT_KEEPER : Row := ⟨379, .keeper, 0x7000302C, 4, 1, 4, 4, .ro, 0x0, 0, 1⟩

/-- CLK_STAT.PORTS (12, Table 12.6). -/
def CLK_STAT_PORTS : Row := ⟨380, .keeper, 0x7000302C, 4, 1, 3, 3, .ro, 0x0, 0, 1⟩

/-- CLK_STAT.LANE (12, Table 12.6). -/
def CLK_STAT_LANE : Row := ⟨381, .keeper, 0x7000302C, 4, 1, 2, 0, .ro, 0x0, 0, 7⟩

/-- TJ_STAT.HIGH (12, Table 12.6). -/
def TJ_STAT_HIGH : Row := ⟨382, .keeper, 0x70003030, 4, 1, 16, 16, .ro, 0x0, 0, 1⟩

/-- TJ_STAT.TJ (12, Table 12.6). -/
def TJ_STAT_TJ : Row := ⟨383, .keeper, 0x70003030, 4, 1, 15, 0, .ro, 0x0, 0, 65535⟩

/-- TJ_CFG.WARN (12, Table 12.6). -/
def TJ_CFG_WARN : Row := ⟨384, .keeper, 0x70003034, 4, 1, 7, 0, .rw, 0x87, 100, 145⟩

/-- BOOT_STAT.RST_CAUSE (13, Table 13.7). -/
def BOOT_STAT_RST_CAUSE : Row := ⟨385, .keeper, 0x70002000, 4, 1, 31, 30, .ro, 0x0, 0, 3⟩

/-- BOOT_STAT.BANK (13, Table 13.7). -/
def BOOT_STAT_BANK : Row := ⟨386, .keeper, 0x70002000, 4, 1, 29, 29, .ro, 0x0, 0, 1⟩

/-- BOOT_STAT.RECOVERY (13, Table 13.7). -/
def BOOT_STAT_RECOVERY : Row := ⟨387, .keeper, 0x70002000, 4, 1, 28, 28, .ro, 0x0, 0, 1⟩

/-- BOOT_STAT.KEEPER_RES (13, Table 13.7). -/
def BOOT_STAT_KEEPER_RES : Row := ⟨388, .keeper, 0x70002000, 4, 1, 27, 24, .ro, 0x0, 0, 15⟩

/-- BOOT_STAT.RUNTIME_RES (13, Table 13.7). -/
def BOOT_STAT_RUNTIME_RES : Row := ⟨389, .keeper, 0x70002000, 4, 1, 23, 20, .ro, 0x0, 0, 15⟩

/-- BOOT_STAT.LANE_Z_RES (13, Table 13.7). -/
def BOOT_STAT_LANE_Z_RES : Row := ⟨390, .keeper, 0x70002000, 4, 1, 19, 16, .ro, 0x0, 0, 15⟩

/-- BOOT_STAT.LANE_Y_RES (13, Table 13.7). -/
def BOOT_STAT_LANE_Y_RES : Row := ⟨391, .keeper, 0x70002000, 4, 1, 15, 12, .ro, 0x0, 0, 15⟩

/-- BOOT_STAT.LANE_X_RES (13, Table 13.7). -/
def BOOT_STAT_LANE_X_RES : Row := ⟨392, .keeper, 0x70002000, 4, 1, 11, 8, .ro, 0x0, 0, 15⟩

/-- BOOT_STAT.PROG_RES (13, Table 13.7). -/
def BOOT_STAT_PROG_RES : Row := ⟨393, .keeper, 0x70002000, 4, 1, 7, 4, .ro, 0x0, 0, 15⟩

/-- BOOT_STAT.SAFE_RES (13, Table 13.7). -/
def BOOT_STAT_SAFE_RES : Row := ⟨394, .keeper, 0x70002000, 4, 1, 3, 0, .ro, 0x0, 0, 15⟩

/-- MB_WIN.RSP_PAGE (14, Table 14.15). -/
def MB_WIN_RSP_PAGE : Row := ⟨395, .keeper, 0x70004800, 4096, 4, 17, 16, .rw, 0x0, 0, 3⟩

/-- MB_WIN.CMD_PAGE (14, Table 14.15). -/
def MB_WIN_CMD_PAGE : Row := ⟨396, .keeper, 0x70004800, 4096, 4, 1, 0, .rw, 0x0, 0, 3⟩

/-- MB_DOORBELL.RING (14, Table 14.15). -/
def MB_DOORBELL_RING : Row := ⟨397, .keeper, 0x70004804, 4096, 4, 0, 0, .wo, 0x0, 0, 1⟩

/-- MB_STAT.OWNER (14, Table 14.15). -/
def MB_STAT_OWNER : Row := ⟨398, .keeper, 0x70004808, 4096, 4, 31, 31, .ro, 0x0, 0, 1⟩

/-- MB_STAT.RSP_VALID (14, Table 14.15). -/
def MB_STAT_RSP_VALID : Row := ⟨399, .keeper, 0x70004808, 4096, 4, 30, 30, .ro, 0x0, 0, 1⟩

/-- MB_STAT.KEEPER_DOWN (14, Table 14.15). -/
def MB_STAT_KEEPER_DOWN : Row := ⟨400, .keeper, 0x70004808, 4096, 4, 29, 29, .ro, 0x1, 0, 1⟩

/-- MB_STAT.PERR (14, Table 14.15). -/
def MB_STAT_PERR : Row := ⟨401, .keeper, 0x70004808, 4096, 4, 28, 28, .ro, 0x0, 0, 1⟩

/-- MB_STAT.LAST_SEQ (14, Table 14.15). -/
def MB_STAT_LAST_SEQ : Row := ⟨402, .keeper, 0x70004808, 4096, 4, 15, 0, .ro, 0x0, 0, 65535⟩

/-- MB_CNT.RINGS_LOST (14, Table 14.15). -/
def MB_CNT_RINGS_LOST : Row := ⟨403, .keeper, 0x7000480C, 4096, 4, 31, 16, .rc, 0x0, 0, 65535⟩

/-- MB_CNT.WR_LOST (14, Table 14.15). -/
def MB_CNT_WR_LOST : Row := ⟨404, .keeper, 0x7000480C, 4096, 4, 15, 0, .rc, 0x0, 0, 65535⟩

/-- ID_MEMBER.MEMBER (15, Table 15.5). -/
def ID_MEMBER_MEMBER : Row := ⟨405, .keeper, 0x80000000, 4, 1, 31, 16, .ro, 0x60, 0, 65535⟩

/-- ID_MEMBER.ORDER (15, Table 15.5). -/
def ID_MEMBER_ORDER : Row := ⟨406, .keeper, 0x80000000, 4, 1, 15, 8, .ro, 0x1, 0, 255⟩

/-- ID_MEMBER.HW_REV (15, Table 15.5). -/
def ID_MEMBER_HW_REV : Row := ⟨407, .keeper, 0x80000000, 4, 1, 7, 0, .ro, 0x0, 0, 255⟩

/-- ID_SERIAL_LO.SERIAL (15, Table 15.5). -/
def ID_SERIAL_LO_SERIAL : Row := ⟨408, .keeper, 0x80000004, 4, 1, 31, 0, .ro, 0x0, 0, 4294967295⟩

/-- ID_SERIAL_HI.SERIAL (15, Table 15.5). -/
def ID_SERIAL_HI_SERIAL : Row := ⟨409, .keeper, 0x80000008, 4, 1, 31, 0, .ro, 0x0, 0, 4294967295⟩

/-- ID_IF.BAR0_VER (15, Table 15.5). -/
def ID_IF_BAR0_VER : Row := ⟨410, .keeper, 0x8000000C, 4, 1, 31, 16, .ro, 0x1, 0, 65535⟩

/-- ID_IF.PAIRS (15, Table 15.5). -/
def ID_IF_PAIRS : Row := ⟨411, .keeper, 0x8000000C, 4, 1, 15, 8, .ro, 0x4, 0, 255⟩

/-- ID_IF.VECTORS (15, Table 15.5). -/
def ID_IF_VECTORS : Row := ⟨412, .keeper, 0x8000000C, 4, 1, 7, 0, .ro, 0x20, 0, 255⟩

/-- BR_STAT.BME (15, Table 15.5). -/
def BR_STAT_BME : Row := ⟨413, .keeper, 0x80000014, 4, 1, 31, 31, .ro, 0x0, 0, 1⟩

/-- BR_STAT.L0 (15, Table 15.5). -/
def BR_STAT_L0 : Row := ⟨414, .keeper, 0x80000014, 4, 1, 30, 30, .ro, 0x0, 0, 1⟩

/-- BR_STAT.SPEED (15, Table 15.5). -/
def BR_STAT_SPEED : Row := ⟨415, .keeper, 0x80000014, 4, 1, 29, 28, .ro, 0x0, 0, 3⟩

/-- BR_STAT.WIDTH (15, Table 15.5). -/
def BR_STAT_WIDTH : Row := ⟨416, .keeper, 0x80000014, 4, 1, 27, 26, .ro, 0x0, 0, 3⟩

/-- BR_STAT.CA_CNT (15, Table 15.5). -/
def BR_STAT_CA_CNT : Row := ⟨417, .keeper, 0x80000014, 4, 1, 15, 0, .ro, 0x0, 0, 65535⟩

/-- PEL_STAT.OVF (15, Table 15.6). -/
def PEL_STAT_OVF : Row := ⟨418, .keeper, 0x80008000, 4, 1, 31, 31, .w1c, 0x0, 0, 1⟩

/-- PEL_STAT.COUNT (15, Table 15.6). -/
def PEL_STAT_COUNT : Row := ⟨419, .keeper, 0x80008000, 4, 1, 20, 16, .ro, 0x0, 0, 31⟩

/-- PEL_STAT.TOTAL (15, Table 15.6). -/
def PEL_STAT_TOTAL : Row := ⟨420, .keeper, 0x80008000, 4, 1, 15, 0, .ro, 0x0, 0, 65535⟩

/-- PEL_POP.POP_CNT (15, Table 15.6). -/
def PEL_POP_POP_CNT : Row := ⟨421, .keeper, 0x80008004, 4, 1, 31, 16, .rc, 0x0, 0, 65535⟩

/-- PEL_POP.VALID (15, Table 15.6). -/
def PEL_POP_VALID : Row := ⟨422, .keeper, 0x80008004, 4, 1, 15, 15, .rc, 0x0, 0, 1⟩

/-- PEL_POP.LEFT (15, Table 15.6). -/
def PEL_POP_LEFT : Row := ⟨423, .keeper, 0x80008004, 4, 1, 4, 0, .rc, 0x0, 0, 31⟩

/-- PEL_ENT[0].ADDR_LO (15, Table 15.6). -/
def PEL_ENT0_ADDR_LO : Row := ⟨424, .keeper, 0x80008010, 4, 1, 31, 0, .ro, 0x0, 0, 4294967295⟩

/-- PEL_ENT[1].ADDR_HI (15, Table 15.6). -/
def PEL_ENT1_ADDR_HI : Row := ⟨425, .keeper, 0x80008014, 4, 1, 31, 0, .ro, 0x0, 0, 4294967295⟩

/-- PEL_ENT[2].DIR (15, Table 15.6). -/
def PEL_ENT2_DIR : Row := ⟨426, .keeper, 0x80008018, 4, 1, 31, 31, .ro, 0x0, 0, 1⟩

/-- PEL_ENT[2].CAUSE (15, Table 15.6). -/
def PEL_ENT2_CAUSE : Row := ⟨427, .keeper, 0x80008018, 4, 1, 30, 27, .ro, 0x0, 0, 15⟩

/-- PEL_ENT[2].TAG (15, Table 15.6). -/
def PEL_ENT2_TAG : Row := ⟨428, .keeper, 0x80008018, 4, 1, 23, 16, .ro, 0x0, 0, 255⟩

/-- PEL_ENT[2].BYTES (15, Table 15.6). -/
def PEL_ENT2_BYTES : Row := ⟨429, .keeper, 0x80008018, 4, 1, 12, 0, .ro, 0x0, 0, 8191⟩

/-- PEL_ENT[3].TB1 (15, Table 15.6). -/
def PEL_ENT3_TB1 : Row := ⟨430, .keeper, 0x8000801C, 4, 1, 31, 0, .ro, 0x0, 0, 4294967295⟩

/-- DMA_ID.BLOCK (16, Table 16.8). -/
def DMA_ID_BLOCK : Row := ⟨431, .lane, 0x20000000, 4, 1, 31, 16, .ro, 0xD4A0, 0, 65535⟩

/-- DMA_ID.CHANNELS (16, Table 16.8). -/
def DMA_ID_CHANNELS : Row := ⟨432, .lane, 0x20000000, 4, 1, 15, 8, .ro, 0x10, 0, 255⟩

/-- DMA_ID.ENGINE (16, Table 16.8). -/
def DMA_ID_ENGINE : Row := ⟨433, .lane, 0x20000000, 4, 1, 7, 0, .ro, 0x0, 0, 255⟩

/-- DMA_STAT.BUSY (16, Table 16.8). -/
def DMA_STAT_BUSY : Row := ⟨434, .lane, 0x20000004, 4, 1, 31, 31, .ro, 0x0, 0, 1⟩

/-- DMA_STAT.RUN_CH (16, Table 16.8). -/
def DMA_STAT_RUN_CH : Row := ⟨435, .lane, 0x20000004, 4, 1, 20, 16, .ro, 0x1F, 0, 31⟩

/-- DMA_STAT.PEND (16, Table 16.8). -/
def DMA_STAT_PEND : Row := ⟨436, .lane, 0x20000004, 4, 1, 15, 0, .ro, 0x0, 0, 65535⟩

/-- DMA_INT.CH (16, Table 16.8). -/
def DMA_INT_CH : Row := ⟨437, .lane, 0x20000010, 4, 1, 15, 0, .w1c, 0x0, 0, 65535⟩

/-- DMA_INT_EN.CH (16, Table 16.8). -/
def DMA_INT_EN_CH : Row := ⟨438, .lane, 0x20000014, 4, 1, 15, 0, .rw, 0x0, 0, 65535⟩

/-- CH_CTRL.EN (16, Table 16.9). -/
def CH_CTRL_EN : Row := ⟨439, .lane, 0x20000100, 64, 16, 31, 31, .rw, 0x0, 0, 1⟩

/-- CH_CTRL.PAUSE (16, Table 16.9). -/
def CH_CTRL_PAUSE : Row := ⟨440, .lane, 0x20000100, 64, 16, 30, 30, .rw, 0x0, 0, 1⟩

/-- CH_CTRL.PRIO (16, Table 16.9). -/
def CH_CTRL_PRIO : Row := ⟨441, .lane, 0x20000100, 64, 16, 29, 28, .rw, 0x0, 0, 3⟩

/-- CH_CTRL.TRIG (16, Table 16.9). -/
def CH_CTRL_TRIG : Row := ⟨442, .lane, 0x20000100, 64, 16, 26, 24, .rw, 0x0, 0, 7⟩

/-- CH_CTRL.CHAIN_SRC (16, Table 16.9). -/
def CH_CTRL_CHAIN_SRC : Row := ⟨443, .lane, 0x20000100, 64, 16, 23, 20, .rw, 0x0, 0, 15⟩

/-- CH_CTRL.TB_SEL (16, Table 16.9). -/
def CH_CTRL_TB_SEL : Row := ⟨444, .lane, 0x20000100, 64, 16, 19, 18, .rw, 0x1, 0, 3⟩

/-- CH_GO.START (16, Table 16.9). -/
def CH_GO_START : Row := ⟨445, .lane, 0x20000104, 64, 16, 0, 0, .wo, 0x0, 0, 1⟩

/-- DESC_HEAD.ADDR (16, Table 16.9). -/
def DESC_HEAD_ADDR : Row := ⟨446, .lane, 0x20000108, 64, 16, 31, 5, .rw, 0x0, 0, 134217727⟩

/-- CUR_DESC.ADDR (16, Table 16.9). -/
def CUR_DESC_ADDR : Row := ⟨447, .lane, 0x2000010C, 64, 16, 31, 0, .ro, 0x0, 0, 4294967295⟩

/-- CH_STAT.STATE (16, Table 16.9). -/
def CH_STAT_DMA_STATE : Row := ⟨448, .lane, 0x20000110, 64, 16, 31, 28, .ro, 0x0, 0, 15⟩

/-- CH_STAT.ERR (16, Table 16.9). -/
def CH_STAT_DMA_ERR : Row := ⟨449, .lane, 0x20000110, 64, 16, 23, 16, .ro, 0x0, 0, 255⟩

/-- CH_STAT.TRIG_OVF (16, Table 16.9). -/
def CH_STAT_DMA_TRIG_OVF : Row := ⟨450, .lane, 0x20000110, 64, 16, 15, 15, .ro, 0x0, 0, 1⟩

/-- CH_STAT.TRIG_PEND (16, Table 16.9). -/
def CH_STAT_DMA_TRIG_PEND : Row := ⟨451, .lane, 0x20000110, 64, 16, 7, 0, .ro, 0x0, 0, 255⟩

/-- REMAIN.BYTES (16, Table 16.9). -/
def REMAIN_BYTES : Row := ⟨452, .lane, 0x20000114, 64, 16, 24, 0, .ro, 0x0, 0, 33554431⟩

/-- CUR_SRC_LO.ADDR (16, Table 16.9). -/
def CUR_SRC_LO_ADDR : Row := ⟨453, .lane, 0x20000118, 64, 16, 31, 0, .ro, 0x0, 0, 4294967295⟩

/-- CUR_SRC_HI.ADDR (16, Table 16.9). -/
def CUR_SRC_HI_ADDR : Row := ⟨454, .lane, 0x2000011C, 64, 16, 31, 0, .ro, 0x0, 0, 4294967295⟩

/-- CUR_DST_LO.ADDR (16, Table 16.9). -/
def CUR_DST_LO_ADDR : Row := ⟨455, .lane, 0x20000120, 64, 16, 31, 0, .ro, 0x0, 0, 4294967295⟩

/-- CUR_DST_HI.ADDR (16, Table 16.9). -/
def CUR_DST_HI_ADDR : Row := ⟨456, .lane, 0x20000124, 64, 16, 31, 0, .ro, 0x0, 0, 4294967295⟩

/-- T_NEXT.NS (16, Table 16.9). -/
def T_NEXT_NS : Row := ⟨457, .lane, 0x20000128, 64, 16, 31, 0, .rw, 0x0, 0, 4294967295⟩

/-- T_PERIOD.NS (16, Table 16.9). -/
def T_PERIOD_NS : Row := ⟨458, .lane, 0x2000012C, 64, 16, 31, 0, .rw, 0x0, 0, 4294967295⟩

/-- LVL_CFG.HI (16, Table 16.9). -/
def LVL_CFG_HI : Row := ⟨459, .lane, 0x20000130, 64, 16, 31, 16, .rw, 0x1, 0, 65535⟩

/-- LVL_CFG.LO (16, Table 16.9). -/
def LVL_CFG_LO : Row := ⟨460, .lane, 0x20000130, 64, 16, 15, 0, .rw, 0x0, 0, 65535⟩

/-- LVL.LEVEL (16, Table 16.9). -/
def LVL_LEVEL : Row := ⟨461, .lane, 0x20000134, 64, 16, 15, 0, .ro, 0x0, 0, 65535⟩

/-- LVL_ADD.ADD (16, Table 16.9). -/
def LVL_ADD_ADD : Row := ⟨462, .lane, 0x20000138, 64, 16, 15, 0, .wo, 0x0, 0, 65535⟩

/-- DONE_CNT.MISSED (16, Table 16.9). -/
def DONE_CNT_MISSED : Row := ⟨463, .lane, 0x2000013C, 64, 16, 31, 16, .rc, 0x0, 0, 65535⟩

/-- DONE_CNT.BLOCKS (16, Table 16.9). -/
def DONE_CNT_BLOCKS : Row := ⟨464, .lane, 0x2000013C, 64, 16, 15, 0, .rc, 0x0, 0, 65535⟩

/-- CVU_CFG.REFLECT (16, Table 16.10). -/
def CVU_CFG_REFLECT : Row := ⟨465, .lane, 0x20010000, 64, 4, 31, 31, .rw, 0x1, 0, 1⟩

/-- CVU_CFG.FINV (16, Table 16.10). -/
def CVU_CFG_FINV : Row := ⟨466, .lane, 0x20010000, 64, 4, 30, 30, .rw, 0x1, 0, 1⟩

/-- CVU_CFG.ORDER (16, Table 16.10). -/
def CVU_CFG_ORDER : Row := ⟨467, .lane, 0x20010000, 64, 4, 29, 29, .rw, 0x0, 0, 1⟩

/-- CVU_CFG.WIDTH (16, Table 16.10). -/
def CVU_CFG_WIDTH : Row := ⟨468, .lane, 0x20010000, 64, 4, 6, 0, .rw, 0x20, 1, 64⟩

/-- CVU_CTRL.INIT (16, Table 16.10). -/
def CVU_CTRL_INIT : Row := ⟨469, .lane, 0x20010004, 64, 4, 0, 0, .wo, 0x0, 0, 1⟩

/-- POLY_LO.POLY (16, Table 16.10). -/
def POLY_LO_POLY : Row := ⟨470, .lane, 0x20010008, 64, 4, 31, 0, .rw, 0x1EDC6F41, 0, 4294967295⟩

/-- POLY_HI.POLY (16, Table 16.10). -/
def POLY_HI_POLY : Row := ⟨471, .lane, 0x2001000C, 64, 4, 31, 0, .rw, 0x0, 0, 4294967295⟩

/-- INIT_LO.INIT (16, Table 16.10). -/
def INIT_LO_INIT : Row := ⟨472, .lane, 0x20010010, 64, 4, 31, 0, .rw, 0xFFFFFFFF, 0, 4294967295⟩

/-- INIT_HI.INIT (16, Table 16.10). -/
def INIT_HI_INIT : Row := ⟨473, .lane, 0x20010014, 64, 4, 31, 0, .rw, 0x0, 0, 4294967295⟩

/-- VALUE_LO.VALUE (16, Table 16.10). -/
def VALUE_LO_VALUE : Row := ⟨474, .lane, 0x20010018, 64, 4, 31, 0, .rw, 0xFFFFFFFF, 0, 4294967295⟩

/-- VALUE_HI.VALUE (16, Table 16.10). -/
def VALUE_HI_VALUE : Row := ⟨475, .lane, 0x2001001C, 64, 4, 31, 0, .rw, 0x0, 0, 4294967295⟩

/-- RESULT_LO.RESULT (16, Table 16.10). -/
def RESULT_LO_RESULT : Row := ⟨476, .lane, 0x20010020, 64, 4, 31, 0, .ro, 0x0, 0, 4294967295⟩

/-- RESULT_HI.RESULT (16, Table 16.10). -/
def RESULT_HI_RESULT : Row := ⟨477, .lane, 0x20010024, 64, 4, 31, 0, .ro, 0x0, 0, 4294967295⟩

/-- DATA_B.BYTE (16, Table 16.10). -/
def DATA_B_BYTE : Row := ⟨478, .lane, 0x20010028, 64, 4, 7, 0, .wo, 0x0, 0, 255⟩

/-- DATA_W.WORD (16, Table 16.10). -/
def DATA_W_WORD : Row := ⟨479, .lane, 0x2001002C, 64, 4, 31, 0, .wo, 0x0, 0, 4294967295⟩

/-- CVU_STAT.CLAIMED (16, Table 16.10). -/
def CVU_STAT_CLAIMED : Row := ⟨480, .lane, 0x20010030, 64, 4, 31, 31, .ro, 0x0, 0, 1⟩

/-- CVU_STAT.CLAIM_CH (16, Table 16.10). -/
def CVU_STAT_CLAIM_CH : Row := ⟨481, .lane, 0x20010030, 64, 4, 27, 24, .ro, 0x0, 0, 15⟩

/-- CVU_STAT.WR_LOST (16, Table 16.10). -/
def CVU_STAT_WR_LOST : Row := ⟨482, .lane, 0x20010030, 64, 4, 15, 0, .rc, 0x0, 0, 65535⟩

/-- BYTES.COUNT (16, Table 16.10). -/
def BYTES_COUNT : Row := ⟨483, .lane, 0x20010034, 64, 4, 31, 0, .ro, 0x0, 0, 4294967295⟩

/-- JRNL_STAT.J_LIMIT (17, Table 17.8). -/
def JRNL_STAT_J_LIMIT : Row := ⟨484, .lane, 0x20040070, 4, 1, 31, 20, .ro, 0x7CC, 0, 4095⟩

/-- JRNL_STAT.RESYNC (17, Table 17.8). -/
def JRNL_STAT_RESYNC : Row := ⟨485, .lane, 0x20040070, 4, 1, 19, 19, .ro, 0x0, 0, 1⟩

/-- JRNL_STAT.BACKLOG (17, Table 17.8). -/
def JRNL_STAT_BACKLOG : Row := ⟨486, .lane, 0x20040070, 4, 1, 16, 0, .ro, 0x0, 0, 131071⟩

/-- JQ_STAT.DROPS (17, Table 17.8). -/
def JQ_STAT_DROPS : Row := ⟨487, .lane, 0x20040074, 4, 1, 31, 16, .rc, 0x0, 0, 65535⟩

/-- JQ_STAT.FILL (17, Table 17.8). -/
def JQ_STAT_FILL : Row := ⟨488, .lane, 0x20040074, 4, 1, 15, 0, .ro, 0x0, 0, 65535⟩

/-- HB_CTRL.IMG_SEL (18, Table 18.3). -/
def HB_CTRL_IMG_SEL : Row := ⟨489, .hinge, 0x90000002, 4, 1, 0, 0, .rw, 0x0, 0, 1⟩

/-- HB_LIVE.KREADY (18, Table 18.3). -/
def HB_LIVE_KREADY : Row := ⟨490, .hinge, 0x90000003, 4, 1, 15, 15, .ro, 0x0, 0, 1⟩

/-- HB_LIVE.ARMED (18, Table 18.3). -/
def HB_LIVE_ARMED : Row := ⟨491, .hinge, 0x90000003, 4, 1, 14, 14, .ro, 0x0, 0, 1⟩

/-- CMD_STAT.BUSY (18, Table 18.3). -/
def CMD_STAT_BUSY : Row := ⟨492, .hinge, 0x90000004, 4, 1, 15, 15, .ro, 0x0, 0, 1⟩

/-- CMD_STAT.DONE (18, Table 18.3). -/
def CMD_STAT_DONE : Row := ⟨493, .hinge, 0x90000004, 4, 1, 14, 14, .ro, 0x0, 0, 1⟩

/-- CMD_STAT.STATUS (18, Table 18.3). -/
def CMD_STAT_STATUS : Row := ⟨494, .hinge, 0x90000004, 4, 1, 13, 8, .ro, 0x0, 0, 63⟩

/-- CMD_STAT.REASON (18, Table 18.3). -/
def CMD_STAT_REASON : Row := ⟨495, .hinge, 0x90000004, 4, 1, 7, 0, .ro, 0x0, 0, 255⟩

/-- HB_MODE.MODE (18, Table 18.3). -/
def HB_MODE_MODE : Row := ⟨496, .hinge, 0x90000010, 4, 1, 15, 12, .ro, 0x0, 0, 15⟩

/-- HB_MODE.FCLASS (18, Table 18.3). -/
def HB_MODE_FCLASS : Row := ⟨497, .hinge, 0x90000010, 4, 1, 11, 8, .ro, 0x0, 0, 15⟩

/-- HB_MODE.CSTOP (18, Table 18.3). -/
def HB_MODE_CSTOP : Row := ⟨498, .hinge, 0x90000010, 4, 1, 7, 7, .ro, 0x0, 0, 1⟩

/-- HB_MODE.ACK_PEND (18, Table 18.3). -/
def HB_MODE_ACK_PEND : Row := ⟨499, .hinge, 0x90000010, 4, 1, 6, 6, .ro, 0x0, 0, 1⟩

/-- HB_MODE.FACK_PEND (18, Table 18.3). -/
def HB_MODE_FACK_PEND : Row := ⟨500, .hinge, 0x90000010, 4, 1, 5, 5, .ro, 0x0, 0, 1⟩

/-- HB_MODE.DEGRADED (18, Table 18.3). -/
def HB_MODE_DEGRADED : Row := ⟨501, .hinge, 0x90000010, 4, 1, 4, 4, .ro, 0x0, 0, 1⟩

/-- TUN_PTR.PTR (18, Table 18.3). -/
def TUN_PTR_PTR : Row := ⟨502, .hinge, 0x90000006, 4, 1, 11, 0, .rw, 0x0, 0, 4095⟩

/-- LINE_CNT[l].RX_OK (05, Table 5.18). -/
def LINE_RX_OK : Row := ⟨503, .common, 0x20060080, 32, 2, 31, 0, .rc, 0x0, 0, 4294967295⟩

/-- LINE_CNT[l].FCS_ERR (05, Table 5.18). -/
def LINE_FCS_ERR : Row := ⟨504, .common, 0x20060084, 32, 2, 31, 0, .rc, 0x0, 0, 4294967295⟩

/-- LINE_CNT[l].HCHK_ERR (05, Table 5.18). -/
def LINE_HCHK_ERR : Row := ⟨505, .common, 0x20060088, 32, 2, 31, 0, .rc, 0x0, 0, 4294967295⟩

/-- LINE_CNT[l].OOW (05, Table 5.18). -/
def LINE_OOW : Row := ⟨506, .common, 0x2006008C, 32, 2, 31, 0, .rc, 0x0, 0, 4294967295⟩

/-- LINE_CNT[l].CUT (05, Table 5.18). -/
def LINE_CUT : Row := ⟨507, .common, 0x20060090, 32, 2, 31, 0, .rc, 0x0, 0, 4294967295⟩

/-- LINE_CNT[l].OWNER_ERR (05, Table 5.18). -/
def LINE_OWNER_ERR : Row := ⟨508, .common, 0x20060094, 32, 2, 31, 0, .rc, 0x0, 0, 4294967295⟩

/-- LINE_CNT[l].CS_MISS (05, Table 5.18). -/
def LINE_CS_MISS : Row := ⟨509, .common, 0x20060098, 32, 2, 31, 0, .rc, 0x0, 0, 4294967295⟩

/-- LINE_CNT[l].SH_BLOCK (05, Table 5.18). -/
def LINE_SH_BLOCK : Row := ⟨510, .common, 0x2006009C, 32, 2, 31, 0, .rc, 0x0, 0, 4294967295⟩

/-- CAP_SEL[w].SEL0 (09, Table 9.5). -/
def CAP_SEL_SEL0 : Row := ⟨511, .common, 0x20020110, 4, 5, 1, 0, .rw, 0x0, 0, 3⟩

/-- CAP_SEL[w].SEL1 (09, Table 9.5). -/
def CAP_SEL_SEL1 : Row := ⟨512, .common, 0x20020110, 4, 5, 3, 2, .rw, 0x0, 0, 3⟩

/-- CAP_SEL[w].SEL2 (09, Table 9.5). -/
def CAP_SEL_SEL2 : Row := ⟨513, .common, 0x20020110, 4, 5, 5, 4, .rw, 0x0, 0, 3⟩

/-- CAP_SEL[w].SEL3 (09, Table 9.5). -/
def CAP_SEL_SEL3 : Row := ⟨514, .common, 0x20020110, 4, 5, 7, 6, .rw, 0x0, 0, 3⟩

/-- CAP_SEL[w].SEL4 (09, Table 9.5). -/
def CAP_SEL_SEL4 : Row := ⟨515, .common, 0x20020110, 4, 4, 9, 8, .rw, 0x0, 0, 3⟩

/-- CAP_SEL[w].SEL5 (09, Table 9.5). -/
def CAP_SEL_SEL5 : Row := ⟨516, .common, 0x20020110, 4, 4, 11, 10, .rw, 0x0, 0, 3⟩

/-- CAP_SEL[w].SEL6 (09, Table 9.5). -/
def CAP_SEL_SEL6 : Row := ⟨517, .common, 0x20020110, 4, 4, 13, 12, .rw, 0x0, 0, 3⟩

/-- CAP_SEL[w].SEL7 (09, Table 9.5). -/
def CAP_SEL_SEL7 : Row := ⟨518, .common, 0x20020110, 4, 4, 15, 14, .rw, 0x0, 0, 3⟩

/-- CAP_SEL[w].SEL8 (09, Table 9.5). -/
def CAP_SEL_SEL8 : Row := ⟨519, .common, 0x20020110, 4, 4, 17, 16, .rw, 0x0, 0, 3⟩

/-- CAP_SEL[w].SEL9 (09, Table 9.5). -/
def CAP_SEL_SEL9 : Row := ⟨520, .common, 0x20020110, 4, 4, 19, 18, .rw, 0x0, 0, 3⟩

/-- CAP_SEL[w].SEL10 (09, Table 9.5). -/
def CAP_SEL_SEL10 : Row := ⟨521, .common, 0x20020110, 4, 4, 21, 20, .rw, 0x0, 0, 3⟩

/-- CAP_SEL[w].SEL11 (09, Table 9.5). -/
def CAP_SEL_SEL11 : Row := ⟨522, .common, 0x20020110, 4, 4, 23, 22, .rw, 0x0, 0, 3⟩

/-- CAP_SEL[w].SEL12 (09, Table 9.5). -/
def CAP_SEL_SEL12 : Row := ⟨523, .common, 0x20020110, 4, 4, 25, 24, .rw, 0x0, 0, 3⟩

/-- CAP_SEL[w].SEL13 (09, Table 9.5). -/
def CAP_SEL_SEL13 : Row := ⟨524, .common, 0x20020110, 4, 4, 27, 26, .rw, 0x0, 0, 3⟩

/-- CAP_SEL[w].SEL14 (09, Table 9.5). -/
def CAP_SEL_SEL14 : Row := ⟨525, .common, 0x20020110, 4, 4, 29, 28, .rw, 0x0, 0, 3⟩

/-- CAP_SEL[w].SEL15 (09, Table 9.5). -/
def CAP_SEL_SEL15 : Row := ⟨526, .common, 0x20020110, 4, 4, 31, 30, .rw, 0x0, 0, 3⟩

/-- Part 0 of the table of all register fields. -/
def table0 : List Row :=
  [SCAN_CTRL_SKIP_MAX, SCAN_CTRL_K_SEL, SCAN_CTRL_SRC, SCAN_PERIOD_PERIOD_US, COMMIT_OFS_OFS_US,
   CT_BUDGET_BUDGET_US, SCAN_STAT_PHASE, SCAN_STAT_SKIP_CONSEC, SCAN_STAT_STRETCHED, SCAN_STAT_BUDGET_EXC,
   SCAN_STAT_DONE_Z, SCAN_STAT_DONE_Y, SCAN_STAT_DONE_X, SCAN_COUNT_SCAN, CYCLE_COUNT_CYCLE, SKIP_TOTAL_SKIPS,
   T_FREEZE_TB1, LOGIC_NS_NS, TUMBLER_NS_NS, CORE_NS_NS, CORE_MAX_NS_NS, SLACK_MIN_NS_NS, BUDGET_EXC_CNT_COUNT,
   DONE_CTRL_CORE_DONE, STN_SUM_SUBST, STN_SUM_HELD, SUBST_BASE_BASE, STN_CFG_HOLD, STN_STAT_MISS_CNT,
   STN_STAT_AGE, STN_STAT_AGED, STN_STAT_VALID, TUM_CTRL_LOAD_EN, TUM_STAT_STATE, TUM_STAT_PROG_VALID,
   TUM_STAT_FACK_PEND, TUM_STAT_ECC_UNC, TUM_STAT_ECC_CORR, TUM_STAT_IDX_VIOL, TUM_STAT_DIV0]

/-- Part 1 of the table of all register fields. -/
def table1 : List Row :=
  [TUM_BUNDLES_COUNT, TUM_CLOCKS_CLOCKS, PROG_ID_LO_ID, PROG_ID_HI_ID, PROG_VER_VERSION, PS_PAGE_PAGE, TX_LO_TX,
   TX_HI_TX, HND_COUNT_COUNT, FORCE_CNT_PEND, FORCE_CNT_VALID, FORCE_GEN_GEN, FORCE_DROP_COUNT, DIV0_CNT_COUNT,
   IDX_VIOL_CNT_COUNT, ECC_CNT_TUM_COUNT, LANE_ID_LANE, LANE_STAT_STATE, PRISM_STAT_SELF_FAULT,
   PRISM_STAT_TEST_PASS, PRISM_STAT_VOTE_MODE, CMP_STAT_MIS_GRP, CMP_STAT_RAIL_GRP, CMP_STAT_PAR_LOC,
   CMP_STAT_PAR_ERR, CMP_STAT_RAIL_FAULT, CMP_STAT_MISCOMPARE, CMP_T_TB1, CMP_CAPT_DIFF, CMP_CAPT5_DIFF,
   INJ_STAT_FAIL_PAT, INJ_STAT_LATE, INJ_STAT_INJ_AGE, ECC_STAT_UNC, ECC_STAT_CORR, ECC_CNT_COUNT, ECC_ADDR_WORD,
   SCRUB_STAT_LATE, SCRUB_STAT_SWEEPS, SCRUB_STAT_SWEEP_MS]

/-- Part 2 of the table of all register fields. -/
def table2 : List Row :=
  [DEG_ALLOW_HOURS, DEG_REMAIN_SECONDS, EXCL_CAUSE, EXCL_SCAN, REPAIR_STAT_STEP, REPAIR_STAT_TARGET,
   REPAIR_STAT_SOURCE, REPAIR_STAT_REASON, REPAIR_STAT_PROBATION, REPAIR_STAT_WINDOWS, REPAIR_COPY_DIRTY,
   REPAIR_COPY_FIRST_KIB, DBG_STAT_PORT_OPEN, DBG_STAT_DBG_ACT, LU_CTRL_LINES, LU_CTRL_CLAIM_EN, LU_CTRL_EN,
   LU_STAT_STATE, LU_STAT_POSITION, LU_STAT_LINE_A, LU_STAT_LINE_B, LU_STAT_OOW_RUN, LU_STAT_CS_RUN,
   LU_NODE_NODE_ID, LU_COLD_COUNT, LU_COLD_COLD2, LU_COLD_COLD1, LU_COLD_COLD0, LU_CYCLE_CYCLE_US,
   LU_WIN_WACC_NS, LU_TIMERS_RELEASE, LU_TIMERS_OWD, LU_TIMERS_CS_LOSS, LU_TIMERS_LISTEN_BASE, LU_SCHED_ID_ID,
   LU_SLOT_CNT_COUNT, LU_HO_CYCLE_CYCLE, LU_HO_NODE_NODE, LU_CYCLE_NUM_CYCLE, LU_TIME_LO_TIME]

/-- Part 3 of the table of all register fields. -/
def table3 : List Row :=
  [LU_TIME_HI_TIME, LU_OFFSET_E_NS, LU_RATE_PPB, LU_PATH_A_D_NS, LU_PATH_B_D_NS, LU_MASTER_MASTER_ID,
   LU_MASTER_LATE_NS, LU_EVT_REJOIN, LU_EVT_SUCC, LU_CLAIM_CLAIMS, LU_CLAIM_GRANTS, PORT_LINK, PORT_INWARD,
   PORT_LINK_NS, OCC_OCC, GRANT_LAST_GRANT, STN_CNT0_MISS_A, STN_CNT0_MISS_B, STN_CNT1_OOW, STN_CNT1_OFS,
   SPARE_STAT_OCC, SPARE_STAT_OCCUPANT, SPARE_STAT_TEMPLATE, DB_ID_DIE, DB_ID_REV, DB_STAT_STATE, DB_STAT_FCODE,
   DB_STAT_PERR, DB_STAT_CFG_REF, DB_STAT_VGD_OK, DB_STAT_PUMP_S_OK, DB_STAT_PUMP_D_OK, DB_STAT_DBG_HOLD,
   DB_STAT_LIVE_FAIL, DB_STAT_LIVE_OK, DB_CHAL_C, DB_RESP_RESP, DB_PRESP_LO_C, DB_PRESP_HI_RESP_P, DB_CHECK_CHECKS]

/-- Part 4 of the table of all register fields. -/
def table4 : List Row :=
  [DB_CHECK_STROBE_OK, DB_CHECK_PRISM_OK, DB_CHECK_RESP_OK, DB_PARAM_ID_ID, DB_EVT_DEMANDS, DB_EVT_VIOL,
   DB_EVT_PAIR_FLT, DB_EVT_SIDE_FLT, DB_CTRL_CFG, SPAIR_STAT_STATE, SPAIR_STAT_FCAUSE, SPAIR_STAT_PROOF,
   SPAIR_STAT_SIDE2, SPAIR_STAT_SIDE1, AXIS_STAT_STATE, AXIS_STAT_CAUSE, AXIS_STAT_TE2_FLT, AXIS_STAT_TE1_FLT,
   AXIS_STAT_TE2_RB, AXIS_STAT_TE1_RB, BRK_STAT_BT_PHASE, BRK_STAT_BT_RESULT, BRK_STAT_BT_DUE, BRK_STAT_BLOCKED,
   BRK_STAT_SIDE_FLT, BRK_STAT_ALLOW_RUN, BRK_STAT_ALLOW_EXP, BRK_STAT_ALLOW_S, BRK_I_MA, ENC_CNT_COUNT,
   ENC_SPD_V, SH_STAT_SYNC, SH_STAT_MASTER, SH_STAT_TICKS, SH_REJ_CS_REJ, SH_REJ_D_REJ, FIO_ID_BLOCK, FIO_ID_DIO,
   FIO_ID_REV, KA_STAT_KA_US]

/-- Part 5 of the table of all register fields. -/
def table5 : List Row :=
  [BANK_CTRL_OOS, BANK_CTRL_KA_CLR, BANK_CTRL_FLT_CLR, BANK_CFG_FALLBACK, BANK_CFG_ITYPE, BANK_CFG_DIR,
   BANK_CFG_PAR, BANK_CFG_QUAD, BANK_STAT_PWR, BANK_STAT_OOS, BANK_STAT_OOS_SCANS, BANK_STAT_KA_TRIP,
   BANK_STAT_CFG_REF, BANK_STAT_FALLBACK_ACT, BANK_STAT_VFIELD, CH_CFG_FILT, CH_CFG_OPEN_EN, CH_CFG_RETRY,
   CH_STAT_TERM, CH_STAT_STATE, CH_STAT_OUT, CH_STAT_OVL, CH_STAT_THERM, CH_STAT_RBK, CH_STAT_OPEN,
   CH_STAT_OVL_CNT, AI_CFG_LOOP_EN, AI_CFG_FILT, AI_CFG_COMPL_MIN, AI_STAT_CODE, AI_STAT_VCOMP, ENC_CFG_EN,
   ENC_CFG_INV, ENC_CFG_ZMODE, FENC_STAT_HTL, FENC_STAT_FAULT, FENC_STAT_AMPL, FENC_STAT_OPEN, FENC_STAT_SAME,
   FENC_STAT_ERR_CNT]

/-- Part 6 of the table of all register fields. -/
def table6 : List Row :=
  [RFX0_EN, RFX0_SKIND, RFX0_COND, RFX0_SRC, RFX0_GATE_EN, RFX0_GATE_POL, RFX0_GATE, RFX0_ACTION, RFX0_TGT,
   RFX1_THRESH, RFX2_PULSE_US, RFX3_HOLD, RFX3_ARMED, RFX3_FIRE_CNT, TB_STAT_STEP0, TB_STAT_STEP2, TB_STAT_STEP3,
   TB_STAT_VALID, TB_SNAP_GO, TB_VAL_NS, SNAP_NS, SNAP2_HI_NS, TB2_CTRL_SRC, TB2_CTRL_UTC_OFS, TB2_ADJ_STEP,
   TB2_RATE_PPB, PTP_STAT_LOCKED, PTP_STAT_HOLDOVER, PTP_STAT_OFFSET, TB3_CTRL_EN, TB3_CTRL_REF, TB3_LOAD_NS,
   TB3_RATE_PPB, PARK_NS_LO_NS, PARK_NS_HI_NS, CAP_CTRL_EN, CAP_CTRL_TB, CAP_STAT_LIMIT, CAP_STAT_FILL,
   CAP_RD_IDX_IDX]

/-- Part 7 of the table of all register fields. -/
def table7 : List Row :=
  [CAP_LOST_COUNT, PAIR_CFG_EN, PAIR_CFG_PREF, PAIR_CFG_PEER_NODE, PAIR_CFG_PAIR_ID, PAIR_TIME_HOLD_OFF,
   PAIR_TIME_SH_TOL, PAIR_SLOT_HEALTH_OUT, PAIR_SLOT_HEALTH_IN, REF_CFG_REF1_EN, REF_CFG_REF1_NODE,
   REF_CFG_REF0_NODE, REF_CFG_REF_POS, PAIR_STAT_ROLE, PAIR_STAT_FIT, PAIR_STAT_TAKEBACK, PAIR_STAT_SHADOW_OK,
   PAIR_STAT_VERD_OK, PAIR_STAT_NAMED, PAIR_STAT_SHADOW_MISS, PAIR_STAT_PEER_OK, HEALTH_TX_HI_WORD,
   HEALTH_TX_LO_WORD, HEALTH_RX_HI_WORD, HEALTH_RX_LO_WORD, VERDICT_HI_WORD, VERDICT_LO_WORD, PAIR_EVT_TAKES,
   PAIR_EVT_VERD_ERR, PAIR_PEER_PEER_SLOT, CX_CTRL_EN, CX_CTRL_N_MEMB, CX_CTRL_CX_WAIT, CX_CTRL_CX_HOLD,
   CX_OUT_D_OUT_DOFS, CX_OUT_D_DLEN, CX_OUT_W_OUT_WOFS, CX_OUT_W_WLEN, CX_QUAL_QUAL_BASE, CX_STAT_POS]

/-- Part 8 of the table of all register fields. -/
def table8 : List Row :=
  [CX_STAT_SYNC_OK, CX_STAT_MASTER, CX_STAT_LINK, CX_STAT_PRESENT, CX_WAIT_NS_NS, CX_WAIT_MAX_NS,
   CX_MEMB0_IN_DOFS, CX_MEMB0_IN_DLEN, CX_MEMB1_IN_WOFS, CX_MEMB1_IN_WLEN, CX_MSTAT_MISS, CX_MSTAT_STATE,
   CX_MSTAT_AGE, CX_MSTAT_AGED, CX_MSTAT_VALID, HASP_CTRL_PREF, HASP_CTRL_PAIR, HASP_CTRL_TAKE, HASP_STAT_HELD,
   HASP_STAT_PEER_HELD, HASP_STAT_LINE_OK, HASP_STAT_CONFLICT, HASP_STAT_TAKE_REF, HASP_STAT_PAIR_ACT,
   HASP_STAT_PAIR_REF, HASP_STAT_FREE_US, HASP_EVT_TESTS_RX, HASP_EVT_TAKES, FLT_CFG_CSTOP_MAX, FLT_STAT_FCLASS,
   FLT_STAT_CSTOP, FLT_STAT_SAFE, FLT_STAT_ACK_PEND, FLT_STAT_CSTOP_REM, PWR_STAT_STATE, PWR_STAT_LANE_DOZE,
   PWR_STAT_PARK_ARM, PWR_STAT_DOZE_PM, PWR_CTRL_DOZE_DIS, PWR_CTRL_PARK_GO]

/-- Part 9 of the table of all register fields. -/
def table9 : List Row :=
  [SUPW_CFG_WIN_MS, SUPW_STAT_LOW, SUPW_STAT_WIN_OPEN, SUPW_STAT_EDGES, AON_TICK_LO_TICK, AON_TICK_HI_TICK,
   AON_ALARM_LO_TICK, AON_ALARM_HI_TICK, AON_STAT_VALID, AON_STAT_VBAT_LOW, AON_STAT_LAST_WAKE,
   WAKE_CFG_ALARM_EN, WAKE_CFG_LUOSH_EN, WAKE_CFG_WAKEN_EN, WAKE_CNT_SPUR, WAKE_CNT_WAKES, CLK_STAT_TCXO_OK,
   CLK_STAT_TIME, CLK_STAT_ICN, CLK_STAT_KEEPER, CLK_STAT_PORTS, CLK_STAT_LANE, TJ_STAT_HIGH, TJ_STAT_TJ,
   TJ_CFG_WARN, BOOT_STAT_RST_CAUSE, BOOT_STAT_BANK, BOOT_STAT_RECOVERY, BOOT_STAT_KEEPER_RES,
   BOOT_STAT_RUNTIME_RES, BOOT_STAT_LANE_Z_RES, BOOT_STAT_LANE_Y_RES, BOOT_STAT_LANE_X_RES, BOOT_STAT_PROG_RES,
   BOOT_STAT_SAFE_RES, MB_WIN_RSP_PAGE, MB_WIN_CMD_PAGE, MB_DOORBELL_RING, MB_STAT_OWNER, MB_STAT_RSP_VALID]

/-- Part 10 of the table of all register fields. -/
def table10 : List Row :=
  [MB_STAT_KEEPER_DOWN, MB_STAT_PERR, MB_STAT_LAST_SEQ, MB_CNT_RINGS_LOST, MB_CNT_WR_LOST, ID_MEMBER_MEMBER,
   ID_MEMBER_ORDER, ID_MEMBER_HW_REV, ID_SERIAL_LO_SERIAL, ID_SERIAL_HI_SERIAL, ID_IF_BAR0_VER, ID_IF_PAIRS,
   ID_IF_VECTORS, BR_STAT_BME, BR_STAT_L0, BR_STAT_SPEED, BR_STAT_WIDTH, BR_STAT_CA_CNT, PEL_STAT_OVF,
   PEL_STAT_COUNT, PEL_STAT_TOTAL, PEL_POP_POP_CNT, PEL_POP_VALID, PEL_POP_LEFT, PEL_ENT0_ADDR_LO,
   PEL_ENT1_ADDR_HI, PEL_ENT2_DIR, PEL_ENT2_CAUSE, PEL_ENT2_TAG, PEL_ENT2_BYTES, PEL_ENT3_TB1, DMA_ID_BLOCK,
   DMA_ID_CHANNELS, DMA_ID_ENGINE, DMA_STAT_BUSY, DMA_STAT_RUN_CH, DMA_STAT_PEND, DMA_INT_CH, DMA_INT_EN_CH,
   CH_CTRL_EN]

/-- Part 11 of the table of all register fields. -/
def table11 : List Row :=
  [CH_CTRL_PAUSE, CH_CTRL_PRIO, CH_CTRL_TRIG, CH_CTRL_CHAIN_SRC, CH_CTRL_TB_SEL, CH_GO_START, DESC_HEAD_ADDR,
   CUR_DESC_ADDR, CH_STAT_DMA_STATE, CH_STAT_DMA_ERR, CH_STAT_DMA_TRIG_OVF, CH_STAT_DMA_TRIG_PEND, REMAIN_BYTES,
   CUR_SRC_LO_ADDR, CUR_SRC_HI_ADDR, CUR_DST_LO_ADDR, CUR_DST_HI_ADDR, T_NEXT_NS, T_PERIOD_NS, LVL_CFG_HI,
   LVL_CFG_LO, LVL_LEVEL, LVL_ADD_ADD, DONE_CNT_MISSED, DONE_CNT_BLOCKS, CVU_CFG_REFLECT, CVU_CFG_FINV,
   CVU_CFG_ORDER, CVU_CFG_WIDTH, CVU_CTRL_INIT, POLY_LO_POLY, POLY_HI_POLY, INIT_LO_INIT, INIT_HI_INIT,
   VALUE_LO_VALUE, VALUE_HI_VALUE, RESULT_LO_RESULT, RESULT_HI_RESULT, DATA_B_BYTE, DATA_W_WORD]

/-- Part 12 of the table of all register fields. -/
def table12 : List Row :=
  [CVU_STAT_CLAIMED, CVU_STAT_CLAIM_CH, CVU_STAT_WR_LOST, BYTES_COUNT, JRNL_STAT_J_LIMIT, JRNL_STAT_RESYNC,
   JRNL_STAT_BACKLOG, JQ_STAT_DROPS, JQ_STAT_FILL, HB_CTRL_IMG_SEL, HB_LIVE_KREADY, HB_LIVE_ARMED, CMD_STAT_BUSY,
   CMD_STAT_DONE, CMD_STAT_STATUS, CMD_STAT_REASON, HB_MODE_MODE, HB_MODE_FCLASS, HB_MODE_CSTOP,
   HB_MODE_ACK_PEND, HB_MODE_FACK_PEND, HB_MODE_DEGRADED, TUN_PTR_PTR, LINE_RX_OK, LINE_FCS_ERR, LINE_HCHK_ERR,
   LINE_OOW, LINE_CUT, LINE_OWNER_ERR, LINE_CS_MISS, LINE_SH_BLOCK, CAP_SEL_SEL0, CAP_SEL_SEL1, CAP_SEL_SEL2,
   CAP_SEL_SEL3, CAP_SEL_SEL4, CAP_SEL_SEL5, CAP_SEL_SEL6, CAP_SEL_SEL7, CAP_SEL_SEL8]

/-- Part 13 of the table of all register fields. -/
def table13 : List Row :=
  [CAP_SEL_SEL9, CAP_SEL_SEL10, CAP_SEL_SEL11, CAP_SEL_SEL12, CAP_SEL_SEL13, CAP_SEL_SEL14, CAP_SEL_SEL15]

/-- Every register field of the module. -/
def table : List Row :=
  table0 ++ table1 ++ table2 ++ table3 ++ table4 ++ table5 ++ table6 ++ table7 ++ table8 ++ table9 ++ table10 ++ table11 ++ table12 ++ table13

end R

end Sys2Proof.Machine
end

