-- ==== Sys2Proof/Machine/State.lean ====
section
/-!
DEFINITION. The state of the module as plain data: one structure per block for what the block holds beside its registers
and memories, the queue of waiting commands, the register file and the memory list; the reasons a step could stop; the
state right after reset.
-/

namespace Sys2Proof.Machine

/-- The operating modes of 00_scope Table 0.6. -/
inductive Mode where
  | init | stop | run | service | safe
  deriving DecidableEq, Repr

/-- The power states of 00_scope Table 0.5. -/
inductive Power where
  | off | park | doze | run
  deriving DecidableEq, Repr

/-- One event raised: its code, argument, scan number, TB[1] and whether it was taken by the management path
(11_faults R436). -/
structure Event where
  code : Nat
  arg  : Nat
  scan : Nat
  tb1  : Nat
  mgmt : Bool
  deriving DecidableEq, Repr

/-- The fault state of chapter 11. -/
structure Faults where
  /-- present flags by code (R417) -/
  present : Tab Bool
  /-- conditions that have not ended, by code × 65,536 + unit (R417) -/
  active : Tab Bool
  /-- faults raised since power-up, saturating at 0xFFFF (Table 11.5 word 24) -/
  total : Nat
  /-- code of the last fault raised and its scan number (words 25, 26) -/
  lastCode : Nat
  lastScan : Nat
  /-- ACK_PEND (R428, R429) -/
  ackPend : Bool
  /-- an F3 raised in mode RUN whose controlled stop begins at the next commit (R424) -/
  stopDue : Bool
  /-- the controlled stop running: TX in ns at its begin (R424 to R427) -/
  cstop : Option Nat
  /-- the deadline fault of R426 has come in that stop -/
  dlStop : Bool
  /-- the deadline interrupt of R426 is raised -/
  deadline : Bool
  /-- events raised and not yet carried by a commit or written by the Keeper (R436) -/
  events : List Event
  deriving DecidableEq, Repr

/-- Mode and power with the marks that change them. -/
structure Modl where
  mode  : Mode
  power : Power
  /-- Prism releases no further voted word (R168, R420) -/
  prismStop : Bool
  /-- an accepted RUN or SERVICE verdict that takes effect at the next freeze (R87, R476) -/
  nextMode : Option Mode
  /-- an accepted STOP waits for the end of a controlled stop (R87, R427) -/
  stopWaits : Bool
  /-- a freeze in mode RUN has been taken since entry (R73) -/
  firstScan : Bool
  /-- SERVICE grants in effect and their expiry, TX in ns (R514) -/
  grants : Nat
  serviceEnd : Nat
  /-- RST_N is low (R42); when it was last released -/
  rst : Bool
  rstAt : Nat
  /-- when the junction temperature was last read (12 R460) -/
  tjAt : Nat
  deriving DecidableEq, Repr

/-- A register write a lane has staged for the vote (R257, R331, R364, R384, R415). -/
structure StagedWrite where
  addr  : Nat
  value : Nat
  deriving DecidableEq, Repr

/-- A verdict: 0 is accepted, any other number the reason code (R36). -/
structure Verdict where
  slot   : Nat
  reason : Nat
  deriving DecidableEq, Repr

/-- One entry of a program's variable map (Table 3.7). -/
structure VarEnt where
  kind : Bool
  type : Nat
  addr : Nat
  len  : Nat
  deriving DecidableEq, Repr

/-- One entry of a program's handoff table (Table 3.7). -/
structure HndEnt where
  block : Nat
  slot  : Nat
  first : Nat
  count : Nat
  deriving DecidableEq, Repr

/-- The parts of a loaded program that stand outside the program store (Tables 3.6 and 3.7). -/
structure ProgInfo where
  vars  : List VarEnt
  insts : List (Nat × Bool)
  hnds  : List HndEnt
  name  : List Byte
  deriving DecidableEq, Repr

/-- A program load under way: the flash place, length and identity its request names, its ring slot (R134), and whether the
lane has posted its result. -/
structure LoadReq where
  addr   : Nat
  len    : Nat
  progId : Nat
  slot   : Nat
  posted : Bool
  deriving DecidableEq, Repr

/-- The three register files of Tumbler (R90): bit registers, word registers, predicates. -/
structure TumRegs where
  b : BitVec 32
  w : Tab Word
  p : BitVec 16
  deriving DecidableEq, Repr

/-- One access by a core: who makes it, whether it writes, where, how many bytes and what. -/
structure Access1 where
  who   : Nat
  write : Bool
  addr  : Nat
  bytes : Nat
  val   : Nat
  deriving DecidableEq, Repr

/-- What a lane holds beside its registers and memories (chapters 2 to 4). -/
structure LaneSt where
  admitted  : Bool
  candidate : Bool
  fenced    : Bool
  /-- held in reset by QUIESCE (R180) -/
  held      : Bool
  /-- clocks gated (R68) -/
  dozing    : Bool
  dbgAct    : Bool
  portOpen  : Bool
  /-- the current scan's Tumbler pass has ended; CORE_DONE was written before it did (R61) -/
  tumEnded  : Bool
  doneHeld  : Bool
  done      : Bool
  /-- cause 0x07 or 0x08 of a lane invalid for the scan (R29, R111); the broadcast of the next scan's input has met an uncorrectable
  word -/
  invalid   : Option Nat
  bcastUnc  : Bool
  /-- the core pass of the current scan has exceeded its budget (R66) -/
  exceeded  : Bool
  /-- TB[1] at the end of the wake, at the end of the Tumbler pass and at DONE -/
  tWake     : Nat
  tTumEnd   : Nat
  tDone     : Nat
  /-- a periodic injection run waits for its window; a run is under way (R155, R153) -/
  injDue    : Bool
  injRun    : Bool
  /-- the lane's clock has stopped (12 R446) -/
  stopped   : Bool
  /-- start-up tests: none yet, or passed (R154) -/
  started   : Option Bool
  tum       : TumRegs
  prog      : ProgInfo
  load      : Option LoadReq
  /-- verdicts that wait for this lane's next core pass, verdicts it posts in the current scan, and register writes it
  has staged -/
  verdicts  : List Verdict
  posted    : List Verdict
  staged    : List StagedWrite
  /-- the Prism-path words this lane has staged: C and the common response (R300) -/
  presp     : Option (Nat × Nat)
  /-- bus-error exceptions the lane has taken (R45) -/
  busErrs   : Nat
  /-- accesses to image and instance memory that the Tumbler pass under way holds (03 R110) -/
  heldAcc   : List Access1
  /-- in probation: every check of R189 held so far in this scan; its words of the scan have been compared; admitted by the last commit,
  in the vote from the next scan -/
  candOk    : Bool
  compared  : Bool
  newIn     : Bool
  /-- when the scrub sweep under way began (R161, R162), the words it has read, the ns of window time not yet worked off; when the
  injection run under way started (R153); when the lane was last excluded, one more than the time (R150) -/
  scrubAt   : Nat
  scrubPos  : Nat
  scrubNs   : Nat
  injAt     : Nat
  exclAt    : Nat
  /-- a challenge interrupt that waits for a run's end (R153) -/
  irqHeld   : Bool
  /-- the boot ROM's check of the lane runtime has passed (13 R467) -/
  runtimeOk : Bool
  deriving DecidableEq, Repr

/-- One entry of the force table (Table 3.11). -/
structure ForceEnt where
  valid : Bool
  pend  : Bool
  word  : Bool
  type  : Nat
  addr  : Nat
  value : Nat
  pid   : Nat
  deriving DecidableEq, Repr

/-- A journal delta (17 Table 17.2): its type, ARG and 64-bit data words. -/
structure Delta where
  type  : Nat
  arg   : Nat
  words : List Nat
  deriving DecidableEq, Repr

/-- The requests that the Keeper posts into the request ring (01 R34, 13 R472, 14 Table 14.8, 17 R576). -/
inductive Request where
  | modeStop | modeRun | modeService (grants dur : Nat) | leaveService | faultAck | park
  | progLoad (addr len progId : Nat)
  | forceSet (progId : Nat) (es : List ForceEnt)
  | forceClear (progId : Nat) (addrs : List Nat)
  | forceAck (progId gen : Nat)
  | cfg (sect : Nat) (content : List Byte)
  | luSched (object : List Byte) (schedId : Nat)
  | luHandover (h n : Nat)
  | safeCfg (db psl map : List Byte)
  | pslAck (conn : Option Nat)
  | quiesce (l : Lane) | reload (l : Lane) (progId : Nat) | selftest (l : Lane) | copy (l : Lane)
  | forceTable (es : List (Nat × ForceEnt))
  | degRemain (sec : Nat)
  | psl (sec : List Byte)
  | retained (ds : List Delta)
  deriving DecidableEq, Repr

/-- A verdict voted and carried by a commit (01 R36): ring slot, reason (0 accepted) and the commit's scan number. -/
structure VotedVerdict where
  slot   : Nat
  reason : Nat
  gen    : Nat
  deriving DecidableEq, Repr

/-- The outcome of a scan's vote that its commit carries: the voted words read lane by lane. -/
structure Voted where
  /-- the bytes of the output image planes, by plane offset -/
  image    : Tab Byte
  /-- staged register writes -/
  writes   : List StagedWrite
  /-- the command word of the Deadbolt, DIO_OUT and RFX_ARM -/
  cmd      : Nat
  dioOut   : Nat
  rfxArm   : Nat
  /-- challenge and common response -/
  presp    : Option (Nat × Nat)
  verdicts : List Verdict
  deltas   : List Delta
  block    : List Byte
  /-- MODE, K and OWD of the CS frames, the claims considered, and HASP_CTRL.TAKE -/
  cs       : List Nat
  take     : Bool
  deriving DecidableEq, Repr

/-- The scan controller beside its registers (chapter 2). -/
structure ScanSt where
  /-- a freeze has been taken and its commit has not; the vote of the scan -/
  isOpen    : Bool
  voted     : Option Voted
  /-- a commit has been made since RST_N -/
  committed : Bool
  /-- the scan grid runs; the standalone grid serves in place of the Luosh cycle (13 R475) -/
  gridOn    : Bool
  interim   : Bool
  /-- TX in ns and TB[1] at the last point of the grid (R114); the standalone period in effect there, 0 before the first point
  (R54); a deadline of the grid still lies ahead -/
  tx        : Nat
  tFreeze   : Nat
  gridPer   : Nat
  due       : Bool
  /-- the Luosh cycle (`LuoshSt.cyc` plus one) in which no further freeze point lies -/
  gridCyc   : Nat
  /-- scan number in whose window the last injection run took place (04 R155) -/
  injWin    : Option Nat
  /-- the held output image (R79); the cycles (`LuoshSt.cyc` plus one) in which stations were staged before, and after, the upstream
  close (R59) -/
  held      : Tab Byte
  staged    : Tab Nat
  late      : Tab Nat
  /-- the request ring: entries waiting, entries sampled at the freeze, the next slot number -/
  ring      : List (Nat × Request)
  sampled   : List (Nat × Request)
  slot      : Nat
  /-- voted verdicts the Keeper has not read, and ring slots whose verdict a dropped frame carried (17 R568) -/
  verdicts  : List VotedVerdict
  lost      : List Nat
  /-- words 16 to 63 as the last commit left them, and its scan number -/
  snap      : Tab Nat
  gen       : Nat
  /-- commits of voted status words since reset (11 R433, R434) -/
  commits   : Nat
  /-- words 0 to 15 of the freeze under way (R71), and of the last scan the logic time of the lane last DONE and the least slack -/
  words     : List (Nat × Nat)
  logic     : Nat × Nat
  /-- the released words of the open scan's vote, item by item, and the events and the allowance that it carried: what a candidate not
  yet DONE is still to be compared with (04 R188, R189) -/
  released  : List (List Nat)
  carried   : List Event
  carriedD  : Bool
  /-- the open scan has been passed over; scans skipped since RST_N (R75), and SKIP_CONSEC at the last finished scan -/
  stretched : Bool
  /-- the vote point of the deadline ahead has passed with the scan unfinished (R74) -/
  missed    : Bool
  skips     : Nat
  lastSkips : Nat
  /-- per station, the cycle start (counted as `LuoshSt.cyc`) whose data a freeze took last, and whether that was since the last
  entry to mode RUN (R81, Table 2.6) -/
  frozen    : Tab (Nat × Bool)
  /-- the last commit sent output words (R86) -/
  outs      : Bool
  /-- the next commit hands the Deadbolt the armed configuration (R331) -/
  armDue    : Bool
  /-- accepted restores of retained data that wait for a program load (17 R576) -/
  restore   : List (List Delta)
  /-- accepted force tables of the journal that wait for a program load: entries by index (13 R472) -/
  restoreF  : List (List (Nat × ForceEnt))
  /-- retained ranges of configuration section 0x01 (17 R570): kind, start, length -/
  retained  : List (Nat × Nat × Nat)
  deriving DecidableEq, Repr

/-- The degraded allowance (04 R176): expired, the remainder last journalled, and whether that is still to be posted. -/
structure DegrSt where
  expired    : Bool
  journalled : Nat
  due        : Bool
  /-- the remainder has been restored, or set, since the reset or the wake: the journal holds none that it does not follow (04 R178) -/
  known      : Bool
  deriving DecidableEq, Repr

/-- A copy window (04 R184): none, one that the commit has left free, or open since a time. -/
inductive CopyWin where
  | shut | free | isOpen (at_ : Nat)
  deriving DecidableEq, Repr

/-- The hot repair under way (04 R180 to R190). -/
structure RepairSt where
  target  : Option Lane
  /-- ring slot of the request that waits for its step to end, and when its step began -/
  waiting : Option Nat
  since   : Nat
  /-- ring slot of the COPY accepted -/
  slot    : Nat
  copying : Bool
  source  : Lane
  /-- blocks of the first pass still to be copied; windows opened; the window -/
  first   : Nat
  windows : Nat
  win     : CopyWin
  /-- PROG_ID that the target has computed over its read-back store in a load that passed its checks (R182) -/
  readBack : Option Nat
  deriving DecidableEq, Repr

/-- What the memories keep beside their bytes: the 72 stored bits of a 64-bit word that differ from the code word of its data and
address (04 R158), by word of the memory list; while a state copy runs, the address below which the source's blocks have been
copied, and the 256-byte blocks written since (04 R185). -/
structure MemMarks where
  flips : Tab Nat
  upTo  : Option Nat
  dirty : Tab Bool
  deriving DecidableEq, Repr

/-- The always-on domain beside its registers (12 R442 to R458, 09 R376). -/
structure AonSt where
  ticks   : Nat
  acc     : Nat
  pair    : Option (Nat × Nat)
  /-- supply window open since this tick; falling edges in it -/
  win     : Option Nat
  winEdges : Nat
  /-- events the Keeper has still to write: code, argument, tick -/
  owed    : List (Nat × Nat × Nat)
  /-- when PARK_ARM was set, and in which Luosh cycle -/
  armAt   : Option Nat
  armCyc  : Nat
  /-- ticks, TB[1] and TB[3] at the entry to PARK -/
  parkTick : Nat
  parkTb1  : Nat
  parkTb3  : Option Nat
  /-- a wake source latched or running; a Luosh wake that awaits its WAKE frame -/
  wake    : Option Nat
  luosh   : Bool
  /-- the standby rail has risen since the last reset; RST_N fell in PARK; RST_N fell in an open supply window -/
  rose    : Bool
  inPark  : Bool
  inWin   : Bool
  deriving DecidableEq, Repr

/-- A command a mailbox pair has taken (14 Table 14.5); `src` names its source on pairs 1 and 2. -/
structure MbCmd where
  src     : Nat
  seq     : Nat
  opcode  : Nat
  async   : Bool
  payload : List Byte
  deriving DecidableEq, Repr

/-- One entry of a pair's outcome log (14 R502). -/
structure OutEnt where
  seq    : Nat
  opcode : Nat
  status : Nat
  reason : Nat
  gen    : Nat
  deriving DecidableEq, Repr

/-- A mailbox pair beside its registers and buffers. -/
structure MbPair where
  cmd     : Option MbCmd
  /-- its request: not yet in the ring, or in the ring at this slot -/
  queued  : Bool
  slot    : Option Nat
  ringAt  : Nat
  /-- source and SEQ of the last answered command and the response stored for it -/
  last    : Option (Nat × Nat)
  stored  : List Byte
  log     : List OutEnt
  krestart : Bool
  deriving DecidableEq, Repr

/-- Where a request comes from: a pair's command by SEQ, a start-up item of 13 R472 by number, the automatic RUN, the
retained restore. -/
inductive Origin where
  | pair (p seq : Nat)
  | startup (item : Nat)
  | auto
  deriving DecidableEq, Repr

/-- An open transfer (14 R503): handle, declared length, the parts written, the time of its last command. -/
structure Xfer where
  handle : Nat
  len    : Nat
  parts  : List (Nat × Nat)
  last   : Nat
  deriving DecidableEq, Repr

/-- An object stored by a transfer: its kind and length, and whether it stands in bank B. -/
structure Obj where
  kind  : Nat
  len   : Nat
  bankB : Bool
  deriving DecidableEq, Repr

/-- What was raised in the one-time-programmable memory since manufacture (13 R463): revoke bits, SVN_MIN by kind. -/
structure OtpSt where
  revoked : Nat
  svnMin  : Tab Nat
  deriving DecidableEq, Repr

/-- The last comparison of the management view of a unit (11 R433 to R435): differing commits in a row, the commit (`ScanSt.commits`) at
which it was made, the Keeper's view. -/
structure ViewSt where
  n    : Nat
  com  : Nat
  view : Nat
  deriving DecidableEq, Repr

/-- The Keeper beside its registers (chapters 13 and 14). -/
structure KeeperSt where
  up        : Bool
  /-- a restart is under way: its cause (14 R516) -/
  restart   : Option Nat
  /-- maintenance Ethernet: address held with the link up; the content of CFG_SET section 0x07 -/
  eth       : Option Nat
  pairs     : Tab MbPair
  toPost    : List (Origin × Request)
  posted    : List (Nat × Origin × Request)
  nPosted   : Nat
  xfers     : Tab Xfer
  objs      : Tab Obj
  handle    : Nat
  /-- nonce and its time; held token: GRANTS, DURATION, time -/
  nonce     : Option (List Byte × Nat)
  token     : Option (Nat × Nat × Nat)
  policy    : Nat
  autostart : Nat
  /-- banks (true is B) of the program, safety configuration and schedule in use -/
  progSlot  : Option Bool
  safeSlot  : Option Bool
  schedSlot : Option Bool
  /-- DIGEST, SVN and KEY_SLOT of the safety configuration in effect, and those posted and not yet accepted -/
  safeId    : Option (List Byte × Nat × Nat)
  safeNext  : Option (List Byte × Nat × Nat)
  activated : Bool
  /-- a wake from PARK has not yet been followed by its restore (13 R480) -/
  restore   : Bool
  otp       : OtpSt
  /-- start-up requests: items posted without a verdict, items refused; all of the last have been sampled -/
  waitItems : List Nat
  badItems  : List Nat
  starting  : Bool
  /-- the automatic RUN request has been posted; the reset followed mode SAFE or a present F3 -/
  autoDone  : Bool
  badReset  : Bool
  safeSeen  : Bool
  /-- comparisons of the management view by class × 65,536 + index -/
  views     : Tab ViewSt
  hinge     : Bool
  /-- bus errors returned to the Keeper core (R485) -/
  busErrs   : Nat
  deriving DecidableEq, Repr

/-- One posted-error entry (15 Table 15.6). -/
structure PelEnt where
  addr  : Nat
  out   : Bool
  cause : Nat
  tag   : Nat
  bytes : Nat
  tb1   : Nat
  deriving DecidableEq, Repr

/-- The host bridge beside its registers (chapter 15): the log, MSI-X masks and pending bits, pops since reset. -/
structure BridgeSt where
  log    : List PelEnt
  masked : Nat
  pba    : Nat
  pops   : Nat
  /-- values shown last by vectors 3 and 4 -/
  ready  : Nat
  word24 : Nat
  deriving DecidableEq, Repr

/-- A descriptor as an engine has fetched it (16 Table 16.2). -/
structure Desc where
  src   : Nat
  dst   : Nat
  len   : Nat
  flags : Nat
  next  : Nat
  deriving DecidableEq, Repr

/-- A DMA channel beside its registers: the descriptor in progress, when it was fetched, bytes moved of it, a level channel that runs on, a
one-shot timer that has fired; the channel is pending for something that TRIG_PEND does not count. -/
structure DmaCh where
  desc   : Option Desc
  since  : Nat
  moved  : Nat
  lvlOn  : Bool
  fired  : Bool
  due    : Bool
  deriving DecidableEq, Repr

/-- The DMA engines and check-value units beside their registers (chapter 16): channels by 16 × engine + channel, upper
words captured and not yet read by 4 × engine + unit. -/
structure DmaSt where
  chs  : Tab DmaCh
  caps : Tab (Option Nat)
  deriving DecidableEq, Repr

/-- One frame of the journal queue (17 R565). -/
structure JFrame where
  scan   : Nat
  deltas : List Delta
  resync : Bool
  deriving DecidableEq, Repr

/-- What the journal says (17 R575): slots of the configuration kinds, program and safety object, counter, forces by
index, retained words, OPTIME and PCYC. -/
structure JState where
  cfg    : Tab (Nat × Nat × Nat × Nat)
  prog   : Option (Nat × Bool)
  safety : Option (List Byte × Bool)
  deg    : Option Nat
  forces : Tab (Nat × Nat)
  dig    : Tab Nat
  word   : Tab Nat
  inst   : Tab Nat
  optime : Nat
  pcyc   : Nat
  deriving DecidableEq, Repr

/-- Journal and recorder beside the MRAM (chapter 17). -/
structure JrnlSt where
  up       : Bool
  recUp    : Bool
  state    : JState
  half     : Nat
  epoch    : Nat
  pos      : Nat
  recs     : Nat
  queue    : List JFrame
  dropNote : Bool
  dropped  : Nat
  /-- the time since when OPTIME counts beyond `state`; OPTIME of the last refresh, TB[2] at the last CKPT_BEGIN -/
  optAt    : Nat
  refresh  : Nat
  ckptTai  : Option Nat
  /-- compaction running: end of the new half and its records; records written since its snapshot (17 R577) -/
  compact  : Option (Nat × Nat)
  after    : List (Nat × List Byte)
  expLen   : Nat
  /-- recorder: next RSEQ, and by severity the next slot, records held, overwritten, lost, lost since the last record -/
  rseq     : Nat
  slots    : List Nat
  heldN    : List Nat
  overN    : List Nat
  lostN    : List Nat
  lostNow  : Nat
  damaged  : Nat
  fresh    : Bool
  snapGen  : Nat
  snapAt   : Option Nat
  /-- configuration contents whose CRC failed at replay -/
  badCfg   : List Nat
  /-- per lane: backlog of deltas, resync under way, words at the previous commit, DROPS last read.  A resync holds 0
  while its content is still to be queued, afterwards the number of deltas up to its last one, plus one (17 R569) -/
  backlog  : PerLane (List Delta)
  resync   : PerLane (Option Nat)
  prev     : PerLane (Tab Nat)
  drops    : PerLane Nat
  deriving DecidableEq, Repr

/-- The Hinge window beside its registers (chapter 18): the copy shown and the copy filled, shadows, the strike, counters
and the command captured. -/
structure HingeSt where
  shown   : Option (Tab Nat)
  filled  : Option (Tab Nat)
  shadow  : Tab Nat
  armedAt : Option Nat
  code    : Nat
  args    : List Nat
  rsp     : Nat
  cnt     : Tab Nat
  seq     : Nat
  /-- CMD_STAT of an answered command waits for HINGE_RESPONSE -/
  answer  : Option (Nat × Nat × Nat)
  /-- when the previous access was presented (18 R594) -/
  lastAt  : Option Nat
  deriving DecidableEq, Repr

/-- The link measurement of one Luosh port (R205): link up, samples taken and their sum in half nanoseconds. -/
structure PortSt where
  up      : Bool
  samples : Nat
  sum     : Nat
  /-- when the link came up (R253) and when the open request left, in ns of the module's own time -/
  upAt    : Nat
  reqAt   : Nat
  deriving DecidableEq, Repr

/-- A CLAIM taken in a spare slot (Table 5.4). -/
structure Claim where
  node  : Nat
  sched : Nat
  dev   : Nat
  deriving DecidableEq, Repr

/-- A grant shown in a GRANT field and how many of its three CS frames are still to be sent (R245, R246). -/
structure Grant where
  spare : Nat
  node  : Nat
  left  : Nat
  deriving DecidableEq, Repr

/-- What the frame of an own slot of a cycle carries: OV, REPEAT and payload, or nothing that the vote released. -/
structure SentSlot where
  cycle : Nat
  out   : Option (Bool × Bool × List Byte)
  deriving DecidableEq, Repr

/-- What the Luosh controller and the Shutter hold beside their registers (chapter 5). -/
structure LuoshSt where
  ports     : Tab PortSt
  /-- network time in ns (R218), the cycles that have started since reset, those passed without a start counted with them, and when the
  last one started (02 R81) -/
  net       : Nat
  cyc       : Nat
  cycAt     : Nat
  /-- LU_STAT.STATE at the start of the cycle (R234, R239) -/
  atStart   : Nat
  /-- cycle, kind and node of the last CS or STARTUP frame taken -/
  taken     : Option (Nat × Nat × Nat)
  /-- ignoring cycle starts after a departure, since when (R229); since when the listen timeout counts (R235) -/
  holdoff   : Bool
  holdAt    : Nat
  listenAt  : Nat
  /-- STARTUP frames sent in this round (R237) -/
  startups  : Nat
  /-- valid frames of this cycle by node and line (true is line B), and the slots already taken (R230) -/
  rx        : List (Nat × Bool)
  slots     : List Nat
  /-- originates nothing for the rest of the cycle; an out-of-window event in this cycle (R228) -/
  mute      : Bool
  oow       : Bool
  /-- a valid CS frame (master: any frame) has come on line A, on line B in this cycle; consecutive cycles without one (R231) -/
  seenA     : Bool
  seenB     : Bool
  missA     : Nat
  missB     : Nat
  /-- HOP of the last CS frame on each line -/
  hopA      : Nat
  hopB      : Nat
  /-- the handover announced: cycle and node -/
  ho        : Option (Nat × Nat)
  claims    : Tab Claim
  frozen    : Tab Claim
  grants    : Tab Grant
  releases  : List Nat
  idle      : Tab Nat
  /-- an accepted schedule object, used from the next cycle (R216) -/
  next      : Option (List Byte)
  /-- the downstream payloads are new in this cycle; the last voted ones by slot (R249); CS and DN frames leave without Prism (R421);
  CS content of the last commit: MODE, K, OWD -/
  fresh     : Bool
  dn        : Tab (List Byte)
  safeTx    : Bool
  csVoted   : Nat × Nat × Nat
  /-- until when each port sends an own frame (R204) -/
  txEnd     : Tab Nat
  /-- the lines on which this cycle's own cycle start has left, and its payload, ORIG_D 0; the content that an own slot carries, with its
  cycle: both copies are alike (R220, R230) -/
  csSent    : List Bool
  csPay     : List Byte
  sent      : Tab (Option SentSlot)
  /-- the cycle of the last handover carried out (R241); an out-of-window event of the next cycle (R228) -/
  hoDone    : Nat
  oowNext   : Bool
  /-- Shutter: D per line, first cycle start taken, a CS or DN frame blocked in this cycle, consecutive such cycles -/
  shD       : Nat × Nat
  shFirst   : Bool
  /-- when the Shutter's slot timer last restarted, and the length of the cycle before in its ticks; none measured yet: 0 (R254) -/
  shAt      : Nat
  shTicks   : Nat
  /-- the line of the cycle start it restarted at (true is line B) -/
  shLine    : Bool
  shBlocked : Bool
  shRun     : Nat
  deriving DecidableEq, Repr

/-- What a pair module holds beside its registers (10 "Pairs"). -/
structure PairSt where
  /-- payload of the first valid copy in PEER_SLOT in this cycle (R387) -/
  rx        : Option (Nat × List Byte)
  /-- the last comparisons, newest first, true a mismatch, at most 64; and how many since the count began (R398) -/
  hist      : List Bool
  count     : Nat
  /-- VSEQ of each referee at the previous freeze; consecutive freezes without a verdict in force (R400) -/
  vseq0     : Option Nat
  vseq1     : Option Nat
  noVerdict : Nat
  /-- the verdict in force at the last freeze named the peer (R403) -/
  peerNamed : Bool
  hseq      : Nat
  hseqCycle : Option Nat
  /-- TX at which the take-back conditions began to hold (R399) -/
  tbSince   : Option Nat
  digest    : Nat
  /-- HASP_CTRL.TAKE as each lane sets it at the freeze for the commit (R402) -/
  take      : PerLane Bool
  /-- the health word of the last commit, HSEQ and CHK 0 (R395) -/
  health    : Nat
  /-- entitled at the last commit (R388) -/
  entitled  : Bool
  /-- the own take of the Hasp (R393); ns of the µs under way in FREE_US; CONFLICT cannot clear -/
  tTake     : Nat
  freeSub   : Nat
  /-- toggling on HASP_OUT (R390) -/
  hout      : Bool
  /-- the last test burst sent and received (R394) -/
  burstTx   : Option Nat
  burstRx   : Option Nat
  deriving DecidableEq, Repr

/-- A cascade block being received or held: its fragments come by, its data stand in the common partition (R412, 01 Table 1.2). -/
structure CxBlock where
  num   : Nat
  frags : Nat
  got   : List Nat
  dlen  : Nat
  wlen  : Nat
  state : Nat
  deriving DecidableEq, Repr

/-- What a cascade member holds beside its registers (10 "Cascades"). -/
structure CxSt where
  /-- link delays of CL_UP and CL_DN in ns (R406) -/
  delayUp   : Nat
  delayDn   : Nat
  /-- cascade number of the scan, and of the last SYNC received with its period in µs and the TB[1] of the master's freeze point;
  freezes since (R407, R408) -/
  num       : Nat
  syncNum   : Nat
  syncUs    : Nat
  syncAt    : Option Nat
  since     : Nat
  /-- ns by which the next point of the standalone grid is shifted, and the one shift of a scan made (R408) -/
  shift     : Int
  shifted   : Bool
  /-- runs on its own grid until the next entry to mode RUN (R408) -/
  ownGrid   : Bool
  blocks    : Tab CxBlock
  /-- members frozen since the entry to mode RUN (R412, Table 2.6) -/
  seen      : Tab Bool
  /-- a freeze waits for the exchange since this TB[1] (R411) -/
  waiting   : Option Nat
  deriving DecidableEq, Repr

/-- One connection entry of the PSL section (Table 6.3). -/
structure PslCfg where
  en      : Bool
  eth     : Bool
  restart : Bool
  maxGap  : Nat
  len     : Nat
  peer    : Nat
  connId  : Nat
  tExp    : Nat
  rxNode  : Nat
  rxPos   : Nat
  txNode  : Nat
  txPos   : Nat
  inW     : Bool
  inOfs   : Nat
  outW    : Bool
  outOfs  : Nat
  peerIp  : Nat
  deriving DecidableEq, Repr

/-- The states of a connection (Table 6.6). -/
inductive PslState where
  | closed | start | run | error
  deriving DecidableEq, Repr

/-- What a lane keeps for one connection (06 "Sequence and time expectation"). -/
structure PslConn where
  st     : PslState
  ps     : Bool
  txSeq  : Nat
  rxSeq  : Nat
  /-- the last 16 own sequence numbers sent with their TX, newest first -/
  ring   : List (Nat × Nat)
  tConf  : Nat
  tErr   : Nat
  err    : Nat
  ackReq : Bool
  fvPeer : Bool
  valid  : Bool
  /-- the frame to send with the scan -/
  frame  : List Byte
  /-- a sampled acknowledge request has let it restart in the core pass under way (R274) -/
  acked  : Bool
  deriving DecidableEq, Repr

/-- The Penesh layer: own address, status base, connections, and each lane's copy of their state; PSL entries of the
request ring waiting and sampled (IPv4 address and payload). -/
structure PslSt where
  own      : Nat
  statBase : Nat
  conns    : List PslCfg
  lanes    : PerLane (Tab PslConn)
  waiting  : List (Nat × List Byte)
  sampled  : List (Nat × List Byte)
  /-- voted frames for maintenance Ethernet, to leave at the commit -/
  ethOut   : List (Nat × List Byte)
  deriving DecidableEq, Repr

/-- What the Deadbolt keeps for one axis beside AXIS_STAT: the times of its release and of its stop, |v| at the stop
(R317), the cause that locks it at the end of the stop (0: none), a lock that FAULT_ACK clears (R314), a voted word
with TE_CMD 0 seen (R311), T_PRE passed (R319), computations in a row at or below V_SS (R318), a stop that waits for
the next standstill (R325). -/
structure AxisSt where
  relAt    : Nat
  stopAt   : Nat
  v0       : Nat
  lockNext : Nat
  lockAck  : Bool
  teLow    : Bool
  preOk    : Bool
  ssRun    : Nat
  stopAtSs : Bool
  /-- a demand acts on the axis (R327) -/
  demand   : Bool
  deriving DecidableEq, Repr

/-- What the Deadbolt keeps for one brake beside BRK_STAT: when it was released, whether it ever was since SELFTEST
(R325), held applied after a test until BRK_REL is 0 (R322), the reasons it is blocked for, the start of its test, the
counts noted (Table 7.6), when BT_DUE was set and the last PASS was, when its allowance began. -/
structure BrkSt where
  relAt   : Nat
  everRel : Bool
  holdOff : Bool
  /-- blocked as a current fault (R320), by a FAIL (R323), by BT_GRACE (R324), by an encoder fault (R324), by a side
  fault before the first release (R325) -/
  bCur    : Bool
  bFail   : Bool
  bGrace  : Bool
  bEnc    : Bool
  bSide   : Bool
  btAt    : Nat
  cEng    : Nat
  cLoad   : Nat
  dueAt   : Nat
  passAt  : Nat
  allowAt : Nat
  /-- when it was last applied (R320); it is released -/
  appAt   : Nat
  rel     : Bool
  deriving DecidableEq, Repr

/-- One safety input terminal: its level, its level outside its own pulse windows, the filtered state, the time the
level outside the windows last changed and the time its windows have paused the count (R306). -/
structure SideSt where
  raw    : Bool
  cand   : Bool
  filt   : Bool
  chgAt  : Nat
  paused : Nat
  deriving DecidableEq, Repr

/-- Where a pair's TRANS was entered from (Table 7.4, R309). -/
inductive PairOrigin where
  | fromOpen | fromClosed | fromExit
  deriving DecidableEq, Repr

/-- What the Deadbolt keeps for one safety pair beside its PAIR_STAT. -/
structure SPairSt where
  origin : PairOrigin
  at_    : Nat
  fltAt  : Nat
  deriving DecidableEq, Repr

/-- The test pulse of one TPO: under way, its start, the levels at its start, the sides that changed in its window and
the sides that read 0 throughout it (R304, R305). -/
structure PulseSt where
  run   : Bool
  start : Nat
  lv    : Nat
  chg   : Nat
  cross : Nat
  deriving DecidableEq, Repr

/-- What the Deadbolt holds beside its registers (chapter 7). Both channels hold the same; their differing is the
fault of DB_INTERNAL_FAULT (R286). Bit masks count axes, brakes or sides from bit 0. -/
structure DbSt where
  /-- enables of the channels (TE[a], BRK[b]) and the lines TE_S, BRK_S of Prism (R295) -/
  te        : Nat
  brk       : Nat
  teS       : Nat
  brkS      : Nat
  axes      : Tab AxisSt
  brks      : Tab BrkSt
  sides     : Tab SideSt
  pairs     : Tab SPairSt
  pulses    : Tab PulseSt
  /-- TPO outputs, 1 is 24 V (R304) -/
  tpo       : Nat
  /-- the last voted command word (Table 7.3) -/
  cmd       : Nat
  /-- a block has been armed since RST_N (R329) -/
  armedOnce : Bool
  /-- strobes are acquired (R302); the last strobe since the entry to ARMED or CONFIG -/
  acq       : Bool
  strobeAt  : Option Nat
  /-- responses since the previous check point and the voted Prism-path word of this cycle (R299, R300) -/
  resp      : PerLane (Option Nat)
  prism     : Option (Nat × Nat)
  /-- PUMP_S and PUMP_D toggle (R291); SV24 is in range (R630) -/
  pumpS     : Bool
  pumpD     : Bool
  sv24      : Bool
  /-- the last 33 counts of each encoder at the computations, newest first (R316) -/
  hist      : Tab (List Nat)
  /-- sides found stuck on and stuck off, TE1[0], TE2[0] … BRK_P[0], BRK_M[0] … (R293) -/
  stuckOn   : Nat
  stuckOff  : Nat
  /-- encoder faults declared, and when each was last found (R315) -/
  encFlt    : Nat
  encAt     : Tab Nat
  /-- the last speed computation (R316); the last off test of each side (R293), one more than its time -/
  compAt    : Nat
  offAt     : Tab Nat
  /-- the pulse epoch (R304) -/
  epoch     : Nat
  /-- the cycle of the last check point (R297) -/
  chkAt     : Option Nat
  deriving DecidableEq, Repr

/-- What the field I/O controller keeps for one DIO channel: when the filter last restarted (R336), when an overload
was latched (R338). -/
structure DioSt where
  chgAt : Nat
  ovlAt : Nat
  /-- when the effective output last changed, and since when the terminal has differed from it, where it does (R339) -/
  outAt  : Nat
  diffAt : Nat
  deriving DecidableEq, Repr

/-- One reflex cell: the end of its pulse, its condition at the last evaluation, a transition to true not yet fired
(R351). -/
structure CellSt where
  pulseEnd : Nat
  cond     : Bool
  edge     : Bool
  deriving DecidableEq, Repr

/-- One analog channel: its last conversions, newest first (at most 1,000), the filtered code, the band of Table 8.9,
COMPL_LOW with the conversions in a row above its end, and LIMIT. -/
structure AiSt where
  hist  : List Nat
  code  : Nat
  band  : Nat
  low   : Bool
  above : Nat
  limit : Bool
  /-- the last conversion -/
  convAt : Nat
  deriving DecidableEq, Repr

/-- One controller encoder counter (R359, R360). -/
structure EncSt where
  count : Nat
  zpos  : Nat
  zcnt  : Nat
  zseen : Bool
  /-- when a cause of a fault was last found (R361) -/
  fltAt : Nat
  deriving DecidableEq, Repr

/-- What the field I/O controller holds beside its registers (chapter 8). -/
structure FioSt where
  dio     : Tab DioSt
  cells   : Tab CellSt
  ai      : Tab AiSt
  enc     : Tab EncSt
  /-- DIO_OUT and RFX_ARM of the last commit (Table 8.2) -/
  dioOut  : Nat
  rfxArm  : Nat
  /-- the effective outputs held by a fallback (R344) -/
  held    : Nat
  /-- the last keep-alive tick; none before the first (R342) -/
  tick    : Option Nat
  /-- ENC_V of each encoder and the voltage it has (R635): the TYPE pin at its switching on -/
  encV    : Tab (Option Bool)
  /-- encoders whose ENC_V is off until the next release of RST_N -/
  encOff  : Nat
  /-- when the field supply of a bank last became present or absent (R333) -/
  pwrAt   : Tab Nat
  /-- keep-alive trips that no scan has recorded yet, a bit for each bank (R342) -/
  kaNew   : Nat
  /-- the cells written at the last commit, which arm at a later one (R350) -/
  rfxSkip : List Nat
  deriving DecidableEq, Repr

/-- A source's latch that holds an edge (R380): its source, the base's value, the base, the edge, and when it came. -/
structure CapLatch where
  src    : Nat
  stamp  : Nat
  tb     : Nat
  rising : Bool
  came   : Nat
  deriving DecidableEq, Repr

/-- The time unit beside its registers (chapter 9), and the PLLs of Table 12.3. -/
structure TimeSt where
  /-- ns since the supply came up: the model's own time, which no register shows -/
  now      : Nat
  /-- locked PLLs: time, Keeper, lanes, Luosh (R446) -/
  pll      : Bool
  /-- TB[2] in full; set or locked since the last loss (Table 9.1) -/
  tb2      : Nat
  v2       : Bool
  /-- accumulated trims of TB[0], TB[2] and TB[3], in ppb (R372) -/
  acc0     : Int
  acc2     : Int
  acc3     : Int
  /-- PTP: Sync intervals in a row within 10 µs; the last master-to-slave difference and the path delay in ns; domain -/
  ptpGood  : Nat
  ptpMs    : Int
  ptpDelay : Int
  /-- the last Sync, and TB[1] at the last write of the stored pair (R371, R377) -/
  ptpAt    : Nat
  pairAt   : Nat
  domain   : Nat
  /-- capture: entries written since reset, end of the last batch, entries since the previous freeze in it, lost entries
  since the previous freeze, a loss not yet marked (R381, R382) -/
  capCount : Nat
  capLimit : Nat
  capBatch : Nat
  capLostF : Nat
  capLoss  : Bool
  /-- entries lost in the interval of the last batch; latches not yet written to the FIFO, in the order of R380 -/
  capLostB : Nat
  latches  : List CapLatch
  /-- edges supplied to the capture unit that have not reached it yet, oldest first: source, rising (08 R362) -/
  edges    : List (Nat × Bool)
  /-- the Delay_Req that awaits its answer: its stamp on TB[2] (R371) -/
  ptpReq   : Option Nat
  /-- absolute positions of the readers X, Y, Z and the Keeper (R382, R383) -/
  capRd    : Tab Nat
  /-- LAST of each source (Table 9.2) -/
  last     : Tab Nat
  /-- ns spent in DOZE in the current second (Table 12.9) -/
  dozeNs   : Nat
  deriving DecidableEq, Repr

/-- What leaves the module, in the order in which it leaves; `read` is the value that a register read answers its reader. -/
inductive Out where
  | forward (p : Fin 4) (f : Frame) (cut : Option Nat)
  | luosh (p : Fin 4) (f : Frame)
  | haspBurst
  | cx (dn : Bool) (f : CxFrame)
  | udp (port ip : Nat) (bytes : List Byte)
  | arp (ip : Nat)
  /-- a PTP Delay_Req in a domain (09 R371) -/
  | delayReq (domain : Nat)
  | icmp (ip : Nat) (data : List Byte)
  | msix (v : Nat)
  | completion (status : Nat) (data : List Byte)
  | hinge (data : Nat)
  | read (reader value : Nat)
  deriving DecidableEq, Repr

/-- What has happened to flags and counts in the current clock (00 R17, R18), by register field, bank and index: W1C bits that
hardware has set; RC fields that hardware has changed, each with its value before, and the value that the same changes make of
its reset value. -/
structure ClkSt where
  sets : Tab Nat
  rc   : Tab (Option (Nat × Nat))
  deriving DecidableEq, Repr

/-- The reasons for which a step could fault: none, for every command of the module has its effect. Nobody raises it. -/
inductive Fault where
  /-- Raised by nobody; safe. -/
  | none
  deriving DecidableEq, Repr

/-- The reasons for which a step could refuse a command. -/
inductive Refusal where
  /-- Raised by an arm of `exec` whose command has no meaning yet, and by no meaning; safe. -/
  | notModelled (mnemonic : String)
  deriving DecidableEq, Repr

/-- The state of the module: the queue of commands waiting, the register file, all memories in one list, and what the
blocks hold beside them. -/
structure State where
  pending : List Instr
  regs    : Tab (Tab (Tab Nat))
  mem     : List Host.Cell
  modl    : Modl
  faults  : Faults
  scan    : ScanSt
  lanes   : PerLane LaneSt
  luosh   : LuoshSt
  psl     : PslSt
  pair    : PairSt
  cx      : CxSt
  db      : DbSt
  fio     : FioSt
  time    : TimeSt
  degr    : DegrSt
  repair  : RepairSt
  aon     : AonSt
  keeper  : KeeperSt
  bridge  : BridgeSt
  dma     : DmaSt
  jrnl    : JrnlSt
  hinge   : HingeSt
  clk     : ClkSt
  marks   : MemMarks
  out     : List Out
  free    : Nat
  deriving DecidableEq, Repr

/-- A lane after reset (13 R471). -/
def LaneSt.reset : LaneSt :=
  { admitted := false, candidate := false, fenced := false, held := false, dozing := false, dbgAct := false,
    portOpen := false, tumEnded := false, doneHeld := false, done := false, invalid := none, bcastUnc := false, tWake := 0, tTumEnd := 0,
    tDone := 0, stopped := false, injDue := false, injRun := false, started := none, tum := ⟨0, [], 1⟩,
    prog := ⟨[], [], [], []⟩, load := none, verdicts := [], posted := [], exceeded := false, staged := [], presp := none, busErrs := 0, heldAcc := [], candOk := false,
    compared := false, newIn := false, scrubAt := 0, scrubPos := 0, scrubNs := 0, injAt := 0, exclAt := 0, irqHeld := false, runtimeOk := false }

/-- No fault has been raised. -/
def Faults.reset : Faults := ⟨[], [], 0, 0, 0, false, false, none, false, false, []⟩

/-- Mode INIT, RST_N low, power on (00 Table 0.6, 13 R461). -/
def Modl.reset : Modl := ⟨.init, .run, false, none, false, false, 0, 0, true, 0, 0⟩

def ScanSt.reset : ScanSt :=
  { isOpen := false, voted := none, committed := false, gridOn := false, interim := true, tx := 0, tFreeze := 0, gridPer := 0, due := false, gridCyc := 0, late := [], injWin := none,
    held := [], staged := [], ring := [], sampled := [], slot := 0, verdicts := [], lost := [], snap := [], gen := 0, commits := 0,
    words := [], logic := (0, 0), released := [], carried := [], carriedD := false,
    stretched := false, missed := false, skips := 0, lastSkips := 0, frozen := [], outs := false, armDue := false, restore := [], restoreF := [],
    retained := [] }

def LuoshSt.reset : LuoshSt :=
  { ports := [], net := 0, cyc := 0, cycAt := 0, atStart := 0, taken := none, holdoff := false, holdAt := 0, listenAt := 0, startups := 0,
    rx := [], slots := [], mute := false, oow := false, seenA := false, seenB := false, missA := 0, missB := 0, hopA := 0, hopB := 0,
    ho := none, claims := [], frozen := [], grants := [], releases := [], idle := [], next := none, fresh := false, dn := [],
    safeTx := false, csVoted := (0, 0, 0), txEnd := [], csSent := [], csPay := [], sent := [], hoDone := 0, oowNext := false, shD := (0, 0), shFirst := false, shAt := 0, shLine := false, shTicks := 0,
    shBlocked := false, shRun := 0 }

def PslSt.reset : PslSt := ⟨0, 0, [], .all [], [], [], []⟩

def PairSt.reset : PairSt :=
  { rx := none, hist := [], count := 0, vseq0 := none, vseq1 := none, noVerdict := 0, peerNamed := false, hseq := 0,
    hseqCycle := none, tbSince := none, digest := 0, take := .all false, health := 0, entitled := false, tTake := 0,
    freeSub := 0, hout := false, burstTx := none, burstRx := none }

def CxSt.reset : CxSt := ⟨0, 0, 0, 0, 0, none, 0, 0, false, false, [], [], none⟩

def DbSt.reset : DbSt :=
  { te := 0, brk := 0, teS := 0, brkS := 0, axes := [], brks := [], sides := [], pairs := [], pulses := [], tpo := 0,
    cmd := 0, armedOnce := false, acq := false, strobeAt := none, resp := .all none, prism := none, pumpS := false,
    pumpD := false, sv24 := true, hist := [], stuckOn := 0, stuckOff := 0, encFlt := 0, encAt := [],
    compAt := 0, offAt := [], epoch := 0, chkAt := none }

def FioSt.reset : FioSt := ⟨[], [], [], [], 0, 0, 0, none, [], 0, [], 0, []⟩

def TimeSt.reset : TimeSt :=
  { now := 0, pll := false, tb2 := 0, v2 := false, acc0 := 0, acc2 := 0, acc3 := 0, ptpGood := 0, ptpMs := 0,
    ptpDelay := 0, domain := 0, capCount := 0, capLimit := 0, capBatch := 0, capLostF := 0, capLoss := false,
    capLostB := 0, latches := [], edges := [], ptpReq := none, ptpAt := 0, pairAt := 0, capRd := [], last := [], dozeNs := 0 }

def RepairSt.reset : RepairSt := ⟨none, none, 0, 0, false, .x, 0, 0, .shut, none⟩

def AonSt.reset : AonSt :=
  { ticks := 0, acc := 0, pair := none, win := none, winEdges := 0, owed := [], armAt := none, armCyc := 0, parkTick := 0,
    parkTb1 := 0, parkTb3 := none, wake := none, luosh := false, rose := true, inPark := false, inWin := false }

def KeeperSt.reset : KeeperSt :=
  { up := false, restart := none, eth := none, pairs := [], toPost := [], posted := [], nPosted := 0, xfers := [],
    objs := [], handle := 0, nonce := none, token := none, policy := 0xB, autostart := 0, progSlot := none,
    safeSlot := none, schedSlot := none, safeId := none, safeNext := none, activated := false, restore := false,
    otp := ⟨0, []⟩, waitItems := [], badItems := [], starting := false, autoDone := false, badReset := false,
    safeSeen := false, views := [], hinge := false, busErrs := 0 }

def BridgeSt.reset : BridgeSt := ⟨[], 0xFFFFFFFF, 0, 0, 0, 0⟩

def DmaSt.reset : DmaSt := ⟨[], []⟩

def JState.reset : JState := ⟨[], none, none, none, [], [], [], [], 0, 0⟩

def JrnlSt.reset : JrnlSt :=
  { up := false, recUp := false, state := JState.reset, half := 0, epoch := 0, pos := 0, recs := 0, queue := [],
    dropNote := false, dropped := 0, optAt := 0, refresh := 0, ckptTai := none, compact := none, after := [], expLen := 0, rseq := 1,
    slots := [], heldN := [], overN := [], lostN := [], lostNow := 0, damaged := 0, fresh := false, snapGen := 0,
    snapAt := none, badCfg := [], backlog := .all [], resync := .all none, prev := .all [], drops := .all 0 }

def HingeSt.reset : HingeSt := ⟨none, none, [], none, 0, [], 0, [], 0, none, none⟩

/-- The module right after reset: RST_N has been applied at power-on and is still low; every register field holds its
reset value, no memory lists anything, and no command waits. -/
def State.reset : State :=
  { pending := [], regs := [], mem := [], modl := Modl.reset, faults := Faults.reset, scan := ScanSt.reset,
    lanes := .all LaneSt.reset, luosh := LuoshSt.reset, psl := PslSt.reset, pair := PairSt.reset, cx := CxSt.reset,
    db := DbSt.reset, fio := FioSt.reset, time := TimeSt.reset, degr := ⟨false, 0, false, false⟩, repair := RepairSt.reset,
    aon := AonSt.reset, keeper := KeeperSt.reset, bridge := BridgeSt.reset, dma := DmaSt.reset, jrnl := JrnlSt.reset,
    hinge := HingeSt.reset, clk := ⟨[], []⟩, marks := ⟨[], none, []⟩, out := [], free := 0 }

end Sys2Proof.Machine
end

