-- ==== Sys2Proof/Machine/Ops.lean ====
section
/-!
DEFINITION. The named operations over memories and registers, and what an answer of a command is.
-/

namespace Sys2Proof.Machine

/-- What a command answers. -/
abbrev Answer := Host.Outcome State Fault Refusal

/-- A command on a part of the module that is not powered, or held in reset by RST_N, has no effect (01 R42, 12 R447, R452):
what is outside the always-on domain lives only in power states RUN and DOZE with RST_N high. -/
def live (s : State) : Bool := !s.modl.rst && (s.modl.power == .run || s.modl.power == .doze)
def whenLive (s : State) (a : Answer) : Answer := if live s then a else .next s

/-- The memories of the module, each at an address base of its own in the one memory list. -/
inductive Region where
  | laneSram (l : Lane) | image (l : Lane) | progStore (l : Lane) | inst (l : Lane) | forceTab (l : Lane)
  | hndQ (l : Lane) | shared | stnHeld | keeperSram | mram | flash | slotTab | stnTab | paramWin | paramArmed | bar2
  | cmdBuf (p : Fin 4) | rspBuf (p : Fin 4) | capData | hostMem | hndTx | msixTab | frozen | nfMap
  deriving DecidableEq, Repr

/-- The number of a region. -/
def Region.idx : Region → Nat
  | .laneSram l => l.idx
  | .image l => 3 + l.idx
  | .progStore l => 6 + l.idx
  | .inst l => 9 + l.idx
  | .forceTab l => 12 + l.idx
  | .hndQ l => 15 + l.idx
  | .shared => 18
  | .keeperSram => 19
  | .mram => 20
  | .flash => 21
  | .slotTab => 22
  | .stnTab => 23
  | .paramWin => 24
  | .paramArmed => 25
  | .bar2 => 26
  | .capData => 27
  | .hostMem => 28
  | .hndTx => 29
  | .msixTab => 38
  | .frozen => 39
  | .nfMap => 40
  | .stnHeld => 41
  | .cmdBuf p => 30 + p.val
  | .rspBuf p => 34 + p.val

/-- Where the image mirror of BAR2 holds its parts (01 R48 gives its two counters, no layout; DESIGN CHOICE, log entry 60):
frozen input image and voted output image, points and words; the last counter. -/
def mirrorIn : Nat := 0x10000
def mirrorOut : Nat := 0x40000
def mirrorEnd : Nat := 0x7FFFC

/-- The size of a region's address space. -/
def regionSpan : Nat := 2 ^ 64

/-- The address of a byte of a region in the memory list. -/
def Region.at (r : Region) (off : Nat) : Nat := r.idx * regionSpan + off % regionSpan

/-- What a byte of memory that nothing has written reads as. DESIGN CHOICE (log entry 4): the spec gives no
power-on content of the memories. -/
def memDefault : Byte := 0

/-- One byte of a memory. -/
def rb (s : State) (r : Region) (off : Nat) : Byte := Tab.get memDefault s.mem (r.at off)

/-- Bytes `a` to `a + n - 1` of the memory list are written: the words hold valid check bits again (04 R158), and a copied block of
the source of a state copy is dirty (04 R185). -/
def MemMarks.touch (m : MemMarks) (a n : Nat) : MemMarks :=
  { m with flips := Tab.clear m.flips (a / 8) ((a + n + 7) / 8),
           dirty := match m.upTo with
             | none => m.dirty
             | some lim => (List.range ((a + n + 255) / 256 - a / 256)).foldl
                 (fun t i => if 256 * (a / 256 + i) < lim then Tab.put false t (a / 256 + i) true else t) m.dirty }

/-- The state with one byte of a memory written. -/
def wb (s : State) (r : Region) (off : Nat) (v : Byte) : State :=
  { s with mem := Tab.put memDefault s.mem (r.at off) v, marks := s.marks.touch (r.at off) 1 }

/-- `n` bytes of a memory from an offset up. -/
def rbs (s : State) (r : Region) (off : Nat) : Nat → List Byte
  | 0 => []
  | n + 1 => rb s r off :: rbs s r (off + 1) n

/-- The state with bytes written from an offset up. -/
def wbs (s : State) (r : Region) (off : Nat) : List Byte → State
  | [] => s
  | b :: bs => wbs (wb s r off b) r (off + 1) bs

/-- A 16-bit little-endian number in a memory. -/
def r16 (s : State) (r : Region) (off : Nat) : Nat := ofLe (rbs s r off 2)

/-- A 32-bit little-endian number in a memory. -/
def r32 (s : State) (r : Region) (off : Nat) : Nat := ofLe (rbs s r off 4)

/-- A 64-bit little-endian number in a memory. -/
def r64 (s : State) (r : Region) (off : Nat) : Nat := ofLe (rbs s r off 8)

/-- The state with a 32-bit little-endian number written. -/
def w32 (s : State) (r : Region) (off v : Nat) : State := wbs s r off (leBytes 4 v)

/-- The state with a 64-bit little-endian number written. -/
def w64 (s : State) (r : Region) (off v : Nat) : State := wbs s r off (leBytes 8 v)

/-- Copies the listed bytes of `n` bytes from one place to another; the destination is first cleared. -/
def copyMem (s : State) (r1 : Region) (o1 : Nat) (r2 : Region) (o2 n : Nat) : State :=
  let src := Tab.range s.mem (r1.at o1) (r1.at o1 + n)
  let base := Tab.clear s.mem (r2.at o2) (r2.at o2 + n)
  { s with mem := src.foldl (fun m e => Tab.put memDefault m (r2.at o2 + (e.1 - r1.at o1)) e.2) base,
           marks := s.marks.touch (r2.at o2) n }

/-- Clears `n` bytes of a memory to what nothing written reads as. -/
def clearMem (s : State) (r : Region) (off n : Nat) : State :=
  { s with mem := Tab.clear s.mem (r.at off) (r.at off + n), marks := s.marks.touch (r.at off) n }

/-- A register field, as wide as it is: of bank `b` (lane, or reader of an RC field; 0 elsewhere) and index `i`. -/
def rd (s : State) (r : Row) (b : Nat := 0) (i : Nat := 0) : Nat :=
  Tab.get r.reset (Tab.get [] (Tab.get [] s.regs r.id) b) i % 2 ^ r.width

/-- The counters of the lane's blocks that are not RC (04 Table 4.7; DEDUCED, log entry 101). -/
def copyCounters : List Row :=
  [R.FORCE_GEN_GEN, R.FORCE_CNT_VALID, R.FORCE_CNT_PEND, R.FORCE_DROP_COUNT, R.HND_COUNT_COUNT, R.SCRUB_STAT_SWEEPS, R.BYTES_COUNT,
   R.LVL_LEVEL, R.SCAN_COUNT_SCAN, R.CYCLE_COUNT_CYCLE, R.SCAN_STAT_SKIP_CONSEC, R.DEG_REMAIN_SECONDS, R.STN_STAT_AGE,
   R.INJ_STAT_INJ_AGE, R.CH_STAT_DMA_TRIG_PEND]

/-- The state copy carries a register field: the RW and RWS fields and the counters of the lane's blocks (04 Table 4.7). -/
def Row.copied (r : Row) : Bool :=
  r.block == .lane && (r.acc == .rw || r.acc == .rws || r.acc == .rc || copyCounters.any (fun c => c.id == r.id))

/-- The address, after those of all memories, of one of the 32 blocks of 256 bytes that hold the register state of a lane (04 Table 4.7).
Which field stands in which block is left open: by its number in the table of fields (DESIGN CHOICE, log entry 138). -/
def regAddr (b n : Nat) : Nat := 42 * regionSpan + 8192 * b + 256 * n

/-- A register field of a bank is written: a copied block of the source of a state copy is dirty (04 R185). -/
def MemMarks.touchReg (m : MemMarks) (r : Row) (b : Nat) : MemMarks :=
  match m.upTo with
  | none => m
  | some lim =>
    let a := regAddr (b % 4) (r.id % 32)
    if r.copied ∧ a < lim then { m with dirty := Tab.put false m.dirty (a / 256) true } else m

/-- The state with a register field set, cut to its width. -/
def wr (s : State) (r : Row) (v : Nat) (b : Nat := 0) (i : Nat := 0) : State :=
  let t := Tab.get [] s.regs r.id
  let u := Tab.put r.reset (Tab.get [] t b) i (v % 2 ^ r.width)
  { s with regs := Tab.put [] s.regs r.id (Tab.put [] t b u), marks := s.marks.touchReg r b }

/-- A field of a lane's block. -/
def rdL (s : State) (r : Row) (l : Lane) (i : Nat := 0) : Nat := rd s r l.idx i

/-- The state with a field of a lane's block set. -/
def wrL (s : State) (r : Row) (l : Lane) (v : Nat) (i : Nat := 0) : State := wr s r v l.idx i

/-- The state with a field set in the blocks of all three lanes. -/
def wrAll (s : State) (r : Row) (v : Nat) (i : Nat := 0) : State :=
  Lane.all.foldl (fun t l => wrL t r l v i) s

/-- The banks of an RC field, one per reader with a state of its own (05 R258): in a block of a lane the lane (its index)
and the Keeper (4 + index); in a common block the lanes (0 to 2) and the Keeper (3); in the Keeper's blocks one. -/
def rcBanks (r : Row) : List Nat :=
  match r.block with
  | .lane => [0, 1, 2, 4, 5, 6]
  | .common => [0, 1, 2, 3]
  | .keeper | .hinge => [0]

/-- A register field of one bank and index as a key of what happens in a clock. -/
def regKey (r : Row) (b i : Nat) : Nat := (r.id * 16 + b) * 65536 + i

/-- Hardware sets bits of a W1C field; a write that clears them in the same clock leaves them set (R17). -/
def setFlag (s : State) (r : Row) (m : Nat := 1) (b : Nat := 0) (i : Nat := 0) : State :=
  let t := wr s r (Nat.lor (rd s r b i) m) b i
  { t with clk := { t.clk with sets := Tab.put 0 t.clk.sets (regKey r b i) (Nat.lor (Tab.get 0 t.clk.sets (regKey r b i)) m) } }

/-- A W1C bit of a lane's block set by hardware. -/
def setFlagL (s : State) (r : Row) (l : Lane) : State := setFlag s r 1 l.idx

/-- Hardware changes one copy of an RC field (R18): a read in the same clock returns the value before. -/
def rcOne (s : State) (r : Row) (f : Nat → Nat) (i b : Nat) : State :=
  let k := regKey r b i
  let x := match Tab.get none s.clk.rc k with
    | some (o, n) => (o, f n)
    | none => (rd s r b i, f r.reset)
  let t := wr s r (f (rd s r b i)) b i
  { t with clk := { t.clk with rc := Tab.put none t.clk.rc k (some x) } }

/-- What a read of an RC field returns, and what it leaves (R18). -/
def rcSeen (s : State) (r : Row) (b i : Nat) : Nat :=
  match Tab.get none s.clk.rc (regKey r b i) with
  | some (o, _) => o
  | none => rd s r b i
def rcClear (s : State) (r : Row) (b i : Nat) : State :=
  match Tab.get none s.clk.rc (regKey r b i) with
  | some (_, n) => { wr s r n b i with clk := { s.clk with rc := Tab.put none s.clk.rc (regKey r b i) none } }
  | none => wr s r r.reset b i

/-- An RC field changed in some banks. -/
def rcMap (s : State) (r : Row) (f : Nat → Nat) (i : Nat) (bs : List Nat) : State := bs.foldl (fun t b => rcOne t r f i b) s

/-- A count that saturates at a field's width (R18). -/
def satAdd (r : Row) (n v : Nat) : Nat := min (v + n) (2 ^ r.width - 1)

/-- Adds to every reader's copy of an RC count, saturating at its width (R18). -/
def rcAdd (s : State) (r : Row) (n : Nat := 1) (i : Nat := 0) : State := rcMap s r (satAdd r n) i (rcBanks r)

/-- Adds to an RC count of a lane's block, saturating, for both of its readers. -/
def rcAddL (s : State) (r : Row) (l : Lane) (n : Nat := 1) (i : Nat := 0) : State :=
  rcMap s r (satAdd r n) i [l.idx, 4 + l.idx]

/-- Raises an RC maximum of a lane's block. -/
def rcMaxL (s : State) (r : Row) (l : Lane) (v : Nat) (i : Nat := 0) : State := rcMap s r (max v) i [l.idx, 4 + l.idx]

/-- Lowers an RC minimum of a lane's block. -/
def rcMinL (s : State) (r : Row) (l : Lane) (v : Nat) (i : Nat := 0) : State := rcMap s r (min v) i [l.idx, 4 + l.idx]

/-- The state of one lane. -/
def lane (s : State) (l : Lane) : LaneSt := s.lanes.get l

/-- The state with one lane changed. -/
def setLane (s : State) (l : Lane) (f : LaneSt → LaneSt) : State := { s with lanes := s.lanes.set l (f (lane s l)) }

/-- A lane by its index. -/
def laneOf (n : Nat) : Option Lane := match n with | 0 => some .x | 1 => some .y | 2 => some .z | _ => none

/-- The clocks of a lane's cores, Tumbler engine and DMA engine run: it is neither fenced (04 R147) nor held in reset (Table 4.6),
and its PLL is locked (12 R446). -/
def laneClocked (s : State) (l : Lane) : Bool := !(lane s l).fenced && !(lane s l).held && !(lane s l).stopped

/-- A lane that acts by its engines (0 to 2) has its clocks; any other agent is not a lane's. -/
def agentUp (s : State) (who : Nat) : Bool := match laneOf who with | some l => laneClocked s l | none => true

/-- A command that a lane's DMA engine carries out, or the Keeper's: without its clocks the lane does nothing (04 R147). -/
def whenAgent (s : State) (who : Nat) (a : Answer) : Answer := if live s && agentUp s who then a else .next s

/-- The cores of a lane run: it is clocked, and no injection run holds them (04 R153). -/
def coreUp (s : State) (who : Nat) : Bool :=
  match laneOf who with | some l => laneClocked s l && !(lane s l).injRun | none => true

/-- A command that a lane's core carries out, or the Keeper's core. -/
def whenCore (s : State) (who : Nat) (a : Answer) : Answer := if live s && coreUp s who then a else .next s

/-- The lanes admitted, in the order X, Y, Z. -/
def admittedLanes (s : State) : List Lane := Lane.all.filter (fun l => (lane s l).admitted)

/-- TB[1] now, 32 bits of ns. -/
def tb1 (s : State) : Nat := rd s R.TB_VAL_NS 0 1

/-- The scan number: freezes taken since power-up (R71). -/
def scanNo (s : State) : Nat := rdL s R.SCAN_COUNT_SCAN .x

/-- A Hinge counter as a key of what happens in a clock. -/
def hingeKey (a : Nat) : Nat := 2 ^ 40 + a

/-- A Hinge counter counts one more, saturating (18 R598): 16 bits, but 32 for FCS at 0x26. A read in the same clock returns the value
before, and the count stays for the next (R18). -/
def hingeCount (s : State) (a : Nat) : State :=
  let cap := if a = 0x26 then 0xFFFFFFFF else 0xFFFF
  let v := Tab.get 0 s.hinge.cnt a
  let x := match Tab.get none s.clk.rc (hingeKey a) with | some (o, n) => (o, satInc cap n) | none => (v, 1)
  { s with hinge := { s.hinge with cnt := Tab.put 0 s.hinge.cnt a (satInc cap v) },
           clk := { s.clk with rc := Tab.put none s.clk.rc (hingeKey a) (some x) } }

/-- What a Hinge read of a count returns, and what it leaves (18 R598). -/
def hingeSeen (s : State) (a : Nat) : Nat :=
  match Tab.get none s.clk.rc (hingeKey a) with | some (o, _) => o | none => Tab.get 0 s.hinge.cnt a
def hingeClear (s : State) (a : Nat) : State :=
  let n := match Tab.get none s.clk.rc (hingeKey a) with | some (_, n) => n | none => 0
  { s with hinge := { s.hinge with cnt := Tab.put 0 s.hinge.cnt a n },
           clk := { s.clk with rc := Tab.put none s.clk.rc (hingeKey a) none } }

/-- What leaves the module is appended in the order in which it leaves. -/
def emit (s : State) (o : Out) : State := { s with out := s.out ++ [o] }

/-- A fresh value the spec leaves open: the counter of the state advances (log entry 3). -/
def fresh (s : State) : Nat × State := (s.free, { s with free := s.free + 1 })

/-! ## Check bits of the lane memories (04 R158 to R160) -/

/-- The 64-bit words of a memory (04 R161, the table of its example). -/
def eccWords : EccMem → Nat
  | .sram => 1048576
  | .image => 40960
  | .prog => 131072
  | .inst => 4096
  | .force => 2048

/-- The memory of a lane. -/
def eccRegion (m : EccMem) (l : Lane) : Region :=
  match m with
  | .sram => .laneSram l
  | .image => .image l
  | .prog => .progStore l
  | .inst => .inst l
  | .force => .forceTab l

/-- How many of the eight bits of a column are 1. -/
def colWeight (c : Nat) : Nat := ((List.range 8).filter (fun i => c.testBit i)).length

/-- The columns of data bits 0 to 63 and of address bits 0 to 19 (index 64 up) that a function gives meet R159: odd weight in the
data columns, even and not zero in the address columns, each distinct from the others of its kind. Data columns have a weight of at
least 3, so that they are distinct from the check columns (DEDUCED from R160: every single-bit error is corrected; log entry 97). -/
def matrixOk (f : Nat → Nat) : Bool :=
  let d := (List.range 64).map f
  let a := (List.range 20).map (fun k => f (64 + k))
  d.all (fun c => decide (c < 256) && colWeight c % 2 == 1 && decide (3 ≤ colWeight c)) && d.eraseDups.length == 64
    && a.all (fun c => decide (c < 256) && colWeight c % 2 == 0 && c != 0) && a.eraseDups.length == 20

/-- A matrix that meets R159: the odd columns of weight 3 or more in rising order, then the even ones. -/
def plainColumn (i : Nat) : Nat :=
  let odd := (List.range 256).filter (fun c => colWeight c % 2 == 1 && decide (3 ≤ colWeight c))
  let even := (List.range 256).filter (fun c => colWeight c % 2 == 0 && c != 0)
  if i < 64 then odd.getD i 0 else even.getD (i - 64) 0

/-- The columns of the check matrix. R159 fixes their properties and not the columns: they are a free value of the
configuration, any that meet R159 (log entry 97). -/
def eccColumn (i : Nat) : Nat := if matrixOk Config.eccColumn then Config.eccColumn i else plainColumn i

/-- The sum of the columns of the 1 bits of a number of `w` bits, from a column up. -/
def columnSum (n base w : Nat) : Nat :=
  (List.range w).foldl (fun c i => if n.testBit i then Nat.xor c (eccColumn (base + i)) else c) 0

/-- The check bits of a word: over its data and its address within the memory (R158). -/
def checkBits (data word : Nat) : Nat := Nat.xor (columnSum data 0 64) (columnSum word 64 20)

/-- The 72 stored bits of a word: data in bits 63 to 0, check bits above. -/
def storedWord (s : State) (m : EccMem) (l : Lane) (word : Nat) : Nat :=
  let d := r64 s (eccRegion m l) (8 * word)
  Nat.xor (d + 2 ^ 64 * checkBits d word) (Tab.get 0 s.marks.flips ((eccRegion m l).at (8 * word) / 8))

/-- What a read finds (R159, R160): the word as stored, the word corrected, or an uncorrectable error with the word as stored. -/
inductive EccRead where
  | good (data : Nat) | corrected (data : Nat) | uncorrectable (data : Nat)
  deriving DecidableEq, Repr

/-- The syndrome of 72 stored bits read at a requested address. -/
def syndrome (stored word : Nat) : Nat := Nat.xor (checkBits (stored % 2 ^ 64) word) (stored / 2 ^ 64 % 256)

/-- The 72 stored bits decoded: a syndrome equal to the column of a data or a check bit is that bit's error. -/
def eccDecode (stored word : Nat) : EccRead :=
  let y := syndrome stored word
  let d := stored % 2 ^ 64
  if y = 0 then .good d
  else match (List.range 64).find? (fun i => eccColumn i == y) with
    | some i => .corrected (Nat.xor d (2 ^ i))
    | none => if colWeight y = 1 then .corrected d else .uncorrectable d

/-- A word read at an address from which the array's differs in the bits of `diff` (R159). A word that nothing has befallen, read at
its address, has syndrome 0. -/
def eccRead (s : State) (m : EccMem) (l : Lane) (word diff : Nat) : EccRead :=
  if diff = 0 ∧ Tab.get 0 s.marks.flips ((eccRegion m l).at (8 * word) / 8) = 0 then .good (r64 s (eccRegion m l) (8 * word))
  else eccDecode (storedWord s m l (Nat.xor word diff)) word

/-- The word that a read delivers (R160): as it is, corrected, or uncorrectable as it is stored. -/
def EccRead.data : EccRead → Nat
  | .good d | .corrected d | .uncorrectable d => d

/-- The bits of a stored word that an upset has changed change. -/
def upsetOne (l : Lane) (s : State) (u : Upset) : State :=
  let k := (eccRegion u.mem l).at (8 * u.word) / 8
  if u.word < eccWords u.mem then
    { s with marks := { s.marks with flips := Tab.put 0 s.marks.flips k (Nat.xor (Tab.get 0 s.marks.flips k) u.flips.toNat) } }
  else s
def upset (s : State) (l : Lane) (us : List Upset) : State := us.foldl (upsetOne l) s

/-- The bits in which the array's address differs in a read of a word. -/
def misread (us : List Upset) (m : EccMem) (word : Nat) : Nat :=
  match us.find? (fun u => u.mem == m && u.word == word) with
  | some u => u.addr
  | none => 0

/-- The memories of a lane all hold valid check bits (04 Table 4.6 step 3, 13 R470). -/
def eccClean (s : State) (l : Lane) : State :=
  let f := [EccMem.sram, .image, .prog, .inst, .force].foldl
    (fun t m => Tab.clear t ((eccRegion m l).at 0 / 8) ((eccRegion m l).at 0 / 8 + eccWords m)) s.marks.flips
  { s with marks := { s.marks with flips := f } }

end Sys2Proof.Machine
end

