-- ==== Sys2Proof/Machine/Flags.lean ====
section
/-!
DEFINITION. Status and fault flags: lane status words, effective field outputs, fault codes and their classes, raising and ending a fault, the immediate safe state.
-/

namespace Sys2Proof.Machine

/-- The condition of a fault has ended for one unit. -/
def endCond (s : State) (code unit : Nat) : State :=
  { s with faults := { s.faults with active := Tab.put false s.faults.active (65536 * code + unit) false } }

/-! ## Effective outputs (08 R337, R340, R344, R350) -/

/-- The channels. -/
def dioIdx : List Nat := List.range 48
def bankIdx : List Nat := List.range 6
def cellIdx : List Nat := List.range 64

/-- The lead of a channel's group (R337). -/
def leadOf (s : State) (n : Nat) : Nat :=
  let k := n / 8
  let q := n % 8 / 4
  let j := n % 8 / 2
  if bitAt (rd s R.BANK_CFG_QUAD 0 k) q = 1 then 8 * k + 4 * q
  else if bitAt (rd s R.BANK_CFG_PAR 0 k) j = 1 then 8 * k + 2 * j
  else n

/-- The channel is an output. -/
def isOut (s : State) (n : Nat) : Bool := bitAt (rd s R.BANK_CFG_DIR 0 (n / 8)) (n % 8) == 1

/-- The cells that hold a lead, and whether one of them drives 0 (Table 8.6, line 3). -/
def holders (s : State) (lead : Nat) : List Nat :=
  cellIdx.filter (fun i => rd s R.RFX3_HOLD 0 i == 1 && leadOf s (rd s R.RFX0_TGT 0 i) == lead)

/-- Lines 2 to 4 of Table 8.6 for a lead. -/
def outBelow (s : State) (lead : Nat) : Bool :=
  let k := lead / 8
  if rd s R.BANK_STAT_FALLBACK_ACT 0 k = 1 then rd s R.BANK_CFG_FALLBACK 0 k == 1 && bitAt s.fio.held lead == 1
  else
    let h := holders s lead
    if h.isEmpty then bitAt s.fio.dioOut lead == 1 else !h.any (fun i => rd s R.RFX0_ACTION 0 i % 2 == 1)

/-- Line 1 of Table 8.6 for a bank, the latches apart. -/
def bankOff (s : State) (k : Nat) : Bool :=
  rd s R.BANK_STAT_PWR 0 k == 0 || rd s R.BANK_STAT_OOS 0 k == 1 || rd s R.BANK_STAT_KA_TRIP 0 k == 1

/-- A latched overload or thermal shutdown of a lead. -/
def latched (s : State) (n : Nat) : Bool := rd s R.CH_STAT_OVL 0 n == 1 || rd s R.CH_STAT_THERM 0 n == 1

/-- The effective output of a channel (Table 8.6); the members of a group follow their lead. -/
def effective (s : State) (n : Nat) : Bool :=
  let l := leadOf s n
  isOut s n && !bankOff s (n / 8) && !latched s l && outBelow s l

def DioSt.zero : DioSt := ⟨0, 0, 0, 0⟩
def dioSt (s : State) (n : Nat) : DioSt := Tab.get DioSt.zero s.fio.dio n
def setDio (s : State) (n : Nat) (f : DioSt → DioSt) : State :=
  { s with fio := { s.fio with dio := Tab.put DioSt.zero s.fio.dio n (f (dioSt s n)) } }

/-- An edge on its way to the capture unit (R362). -/
def edgeTo (s : State) (src : Nat) (rising : Bool) : State := { s with time := { s.time with edges := s.time.edges ++ [(src, rising)] } }

/-- CH_STAT of one channel follows its effective output; RBK and OPEN end as R339 says. -/
def outSync (s : State) (n : Nat) : State :=
  let o := effective s n
  let s1 := if rd s R.CH_STAT_OUT 0 n = b2n o then s
    else wr (setDio s n (fun x => { x with outAt := s.time.now, diffAt := s.time.now })) R.CH_STAT_OUT (b2n o) 0 n
  let s2 := if rd s R.CH_STAT_RBK 0 n = 1 ∧ (!isOut s n ∨ rd s R.CH_STAT_TERM 0 n = b2n o) then
      endCond (wr s1 R.CH_STAT_RBK 0 0 n) 0x0704 n else s1
  if rd s R.CH_STAT_OPEN 0 n = 1 ∧ (!o ∨ rd s R.CH_CFG_OPEN_EN 0 n = 0) then
    endCond (wr s2 R.CH_STAT_OPEN 0 0 n) 0x0705 n else s2

/-- All channels follow. -/
def outSyncAll (s : State) : State := dioIdx.foldl outSync s

def CellSt.zero : CellSt := ⟨0, false, false⟩
def cellSt (s : State) (i : Nat) : CellSt := Tab.get CellSt.zero s.fio.cells i
def setCell (s : State) (i : Nat) (f : CellSt → CellSt) : State :=
  { s with fio := { s.fio with cells := Tab.put CellSt.zero s.fio.cells i (f (cellSt s i)) } }

/-- A cell is disarmed and lets go (R350, R351). -/
def cellOff (s : State) (i : Nat) : State :=
  if rd s R.RFX3_ARMED 0 i = 0 ∧ rd s R.RFX3_HOLD 0 i = 0 then s
  else setCell (wr (wr s R.RFX3_ARMED 0 0 i) R.RFX3_HOLD 0 0 i) i (fun x => { x with edge := false })

/-- The cells whose target lies in a bank. -/
def bankCells (s : State) (k : Nat) : List Nat := cellIdx.filter (fun i => rd s R.RFX0_TGT 0 i / 8 == k)

/-- Every cell of a bank is disarmed. -/
def disarmBank (s : State) (k : Nat) : State := (bankCells s k).foldl cellOff s

/-- One bank goes to its fallback, holding its effective outputs (R344). -/
def fallbackBank (s : State) (k : Nat) : State :=
  if rd s R.BANK_STAT_FALLBACK_ACT 0 k = 1 then s
  else
    let h := (List.range 8).foldl (fun m i => setB m (8 * k + i) (rd s R.CH_STAT_OUT 0 (8 * k + i) == 1)) s.fio.held
    disarmBank (wr { s with fio := { s.fio with held := h } } R.BANK_STAT_FALLBACK_ACT 1 0 k) k

/-- The banks go to their fallback (R344). -/
def fallbackIn (s : State) : State := outSyncAll (bankIdx.foldl fallbackBank s)

/-! ## The image planes and the Penesh connections, which the safe state closes (06 Tables 6.6 and 6.7) -/

/-- Offsets of the image planes from 0x1000_0000 (01 Table 1.6), and of the input staging. -/
def offPrev : Nat := 0x8000
def offDFVal : Nat := 0x10000
def offDFMask : Nat := 0x18000
def offWord : Nat := 0x20000
def offWFVal : Nat := 0x30000
def offWFMask : Nat := 0x40000
def offStageD : Nat := 0x50000
def offStageW : Nat := 0x58000

/-! ## Reserved points and words of the fixed regions (02 Tables 2.3 and 2.5, 04 R175, 08 R334, 09 R378, 11 R437) -/

/-- The reserved bits of the digital image, first and last of each run: they read 0. -/
def rsvPoints : List (Nat × Nat) :=
  [(48, 63), (112, 127), (176, 191), (198, 199), (206, 207), (214, 215), (220, 223), (232, 255), (384, 511), (575, 767), (774, 775),
   (782, 783), (785, 1023), (1027, 2047)]

/-- The bits of a word of the word image that hold something; the others of words 0 to 255 are reserved and read 0. -/
def wordBits (n : Nat) : Nat :=
  if n = 6 then 0xFFFF000F else if n = 7 then 0x07FF07FF else if n < 10 then 0xFFFFFFFF else if n < 16 then 0
  else if n = 16 then 0x00077777 else if n < 22 then 0xFFFFFFFF else if n = 22 then 0x3FFF else if n = 23 then 0
  else if n = 24 then 0xFE00FFFF else if n = 25 then 0xFFFFF000 else if n < 30 then 0xFFFFFFFF
  else if n < 33 then 0 else if n < 48 then 0xFFFFFFFF else if n < 64 then 0
  else if n < 80 then 0xFFFFFFFF else if n < 96 then 0 else if n < 104 then 0xFFFFFFFF else if n < 108 then 0xC000FFFF
  else if n < 128 then 0 else if n < 131 then 0xFFFFFFFF else if n = 131 then 0x1F else if n = 132 then 0xFFFF03FF
  else if n = 133 then 0xFFFF else if n < 160 then 0 else if n < 228 then 0xFFFFFFFF else if n < 256 then 0 else 0xFFFFFFFF

/-- The bits of a byte of a memory that a write can set: in a lane's image, those that are not reserved. -/
def keptBits (r : Region) (o : Nat) : Nat :=
  match r with
  | .image _ =>
    if o < 0x100 then
      (List.range 8).foldl (fun m i => m + (if rsvPoints.any (fun e => decide (e.1 ≤ 8 * o + i ∧ 8 * o + i ≤ e.2)) then 0 else 2 ^ i)) 0
    else if offWord ≤ o ∧ o < offWord + 0x400 then wordBits ((o - offWord) / 4) / 256 ^ (o % 4) % 256
    else 255
  | _ => 255

/-- Bytes as a write leaves them from an offset up. -/
def keptBytes (r : Region) : Nat → List Byte → List Byte
  | _, [] => []
  | o, b :: bs => (b &&& BitVec.ofNat 8 (keptBits r o)) :: keptBytes r (o + 1) bs

/-- The state with bytes written from an offset up, the reserved bits of an image as 0. -/
def wKept (s : State) (r : Region) (o : Nat) (l : List Byte) : State := wbs s r o (keptBytes r o l)

/-- The state with a word of the word image written, forces not regarded; its reserved bits stay 0. -/
def setImgWord (s : State) (l : Lane) (n v : Nat) : State := wKept s (.image l) (offWord + 4 * n) (leBytes 4 v)

/-- The place of a payload in the planes: byte offset and length. -/
def planeArea (word : Bool) (ofs len : Nat) : Nat × Nat := (if word then offWord + 4 * ofs else ofs, len)

/-- A connection that nothing has happened to. -/
def PslConn.fresh : PslConn := ⟨.closed, false, 0, 0, [], 0, 0, 0, false, false, false, [], false⟩

/-- A lane's copy of a connection. -/
def pslGet (s : State) (l : Lane) (c : Nat) : PslConn := Tab.get PslConn.fresh (s.psl.lanes.get l) c

/-- The state with a lane's copy of a connection set. -/
def pslPut (s : State) (l : Lane) (c : Nat) (x : PslConn) : State :=
  { s with psl := { s.psl with lanes := s.psl.lanes.set l (Tab.put PslConn.fresh (s.psl.lanes.get l) c x) } }

/-- The code of a state in the status word (Table 6.7). -/
def PslState.code : PslState → Nat
  | .closed => 0
  | .start => 1
  | .run => 2
  | .error => 3

/-- The status word of a connection (Table 6.7). -/
def PslConn.status (x : PslConn) : Nat :=
  2 ^ 28 * x.st.code + 2 ^ 27 * b2n (x.st == .run && x.valid) + 2 ^ 26 * b2n x.fvPeer + 2 ^ 25 * b2n x.ackReq
    + 2 ^ 16 * x.err + x.rxSeq

/-- The delivered payload of a connection written in a lane's image (R276). -/
def pslDeliver (s : State) (l : Lane) (cfg : PslCfg) (p : List Byte) : State :=
  wbs s (.image l) (planeArea cfg.inW cfg.inOfs cfg.len).1 p

/-- The delivered payload is 0x00 bytes. -/
def pslBlank (s : State) (l : Lane) (cfg : PslCfg) : State := pslDeliver s l cfg (List.replicate cfg.len 0)

/-- Entry to CLOSED (Table 6.6): nothing is sent, no acknowledgement is awaited; error code, RX_SEQ and FV_PEER stay. -/
def PslConn.close (x : PslConn) : PslConn := { x with st := .closed, ackReq := false, valid := false, frame := [], acked := false }

/-- The status word of a connection written in a lane's image (R277). -/
def pslStatus (s : State) (l : Lane) (c : Nat) : State := setImgWord s l (s.psl.statBase + c) (pslGet s l c).status

/-- The connections in ascending index with EN = 1. -/
def pslConns (s : State) : List (Nat × PslCfg) := (s.psl.conns.zipIdx.filter (fun e => e.1.en)).map (fun e => (e.2, e.1))

/-- Every connection is CLOSED (Table 6.6): nothing is delivered, its status word says so. Where a Tumbler pass holds the image of a lane,
that follows at the end of the pass (03 R110). -/
def pslClose (s : State) : State :=
  Lane.all.foldl (fun t l => (pslConns t).foldl (fun u e =>
    let v := endCond (pslPut u l e.1 (pslGet u l e.1).close) 0x0501 e.1
    if rdL s R.TUM_STAT_STATE l = 1 then v else pslStatus (pslBlank v l e.2) l e.1) t) s

/-! ## Lane status words (04 Table 4.5) -/

/-- Vote mode of word 16 bits [17:16]: 0 2oo3, 1 2oo2, 2 none (Table 4.5). -/
def voteMode (s : State) : Nat :=
  if s.modl.prismStop then 2
  else match (admittedLanes s).length with
  | 3 => 0
  | 2 => 1
  | _ => 2

/-- A bit per lane, X in bit 0. -/
def laneMask (s : State) (f : LaneSt → Bool) : Nat := b2n (f s.lanes.x) + 2 * b2n (f s.lanes.y) + 4 * b2n (f s.lanes.z)

/-- Word 16 of Table 4.5. -/
def laneWord16 (s : State) : Nat :=
  laneMask s (·.admitted) + 2 ^ 4 * laneMask s (·.candidate) + 2 ^ 8 * laneMask s (·.fenced) + 2 ^ 12 * laneMask s (·.dbgAct)
    + 2 ^ 16 * voteMode s + 2 ^ 18 * b2n s.degr.expired

/-- The debug ports that 04 R192 and 14 R514 open: in mode SERVICE under a grant of lane debug, a lane whose two neighbours
are both admitted. -/
def portSync (s : State) : State :=
  let ok (l : Lane) : Bool := s.modl.mode == .service && bitAt s.modl.grants 1 == 1
    && Lane.all.all (fun m => m == l || (lane s m).admitted)
  Lane.all.foldl (fun t l => setLane t l (fun y => { y with portOpen := ok l })) s

/-! ## Freeing of captured edges (09 R382, R383), which follows the lanes admitted -/

/-- The oldest unfreed position: the least of the admitted lanes' readers (R382). -/
def capFreed (s : State) : Nat :=
  match (admittedLanes s).map (fun l => Tab.get 0 s.time.capRd l.idx) with
  | [] => s.time.capLimit
  | p :: ps => ps.foldl min p

/-- CAP_STAT.FILL, and the Keeper's pointer where it has fallen behind (R383). -/
def capSync (s : State) : State :=
  let f := capFreed s
  let s1 := wr s R.CAP_STAT_FILL (s.time.capCount - f)
  let k := Tab.get 0 s.time.capRd 3
  if k < f then
    let s2 := rcOne s1 R.CAP_LOST_COUNT (satAdd R.CAP_LOST_COUNT (f - k)) 0 3
    wr { s2 with time := { s2.time with capRd := Tab.put 0 s2.time.capRd 3 f } } R.CAP_RD_IDX_IDX f 3
  else s1

/-- The debug ports, LANE_STAT, PRISM_STAT.VOTE_MODE and DBG_STAT of every lane brought up to date, and what the lanes admitted have
freed of the captured edges. -/
def syncLanes (s0 : State) : State :=
  let s := capSync (portSync s0)
  wrAll (wrAll (wrAll (wrAll s R.LANE_STAT_STATE (laneWord16 s)) R.PRISM_STAT_VOTE_MODE (voteMode s))
    R.DBG_STAT_DBG_ACT (laneMask s (·.dbgAct))) R.DBG_STAT_PORT_OPEN (laneMask s (·.portOpen))

/-- The first admitted lane. -/
def firstLane (s : State) : Option Lane := (admittedLanes s).head?

/-- The Keeper's firmware runs and its mailboxes answer. -/
def keeperUp (s : State) : Bool := s.keeper.up && s.keeper.restart.isNone

/-- A verdict that the lanes, a candidate too, post in a later core pass (03 R134, 04 R180, R188). -/
def lateVerdict (s : State) (slot : Option Nat) (reason : Nat) : State :=
  match slot with
  | none => s
  | some k => (Lane.all.filter (fun l => (lane s l).admitted || (lane s l).candidate)).foldl
      (fun t l => setLane t l (fun x => { x with verdicts := x.verdicts ++ [⟨k, reason⟩] })) s

/-- The scan multiple k (02 Table 2.8). -/
def kSel (s : State) : Nat := 2 ^ rdL s R.SCAN_CTRL_K_SEL .x

/-- The scan period in µs: SCAN_PERIOD of the standalone grid, k cycles of Luosh (02 R52, 13 R475). -/
def scanPeriodUs (s : State) : Nat :=
  if rdL s R.SCAN_CTRL_SRC .x = 1 ∨ s.scan.interim then rdL s R.SCAN_PERIOD_PERIOD_US .x else kSel s * rd s R.LU_CYCLE_CYCLE_US

/-- A program runs: mode RUN, or SERVICE under R196 (04). -/
def programRuns (s : State) : Bool :=
  s.modl.mode == .run || (s.modl.mode == .service && bitAt s.modl.grants 3 == 1
    && (admittedLanes s).all (fun l => rdL s R.TUM_STAT_PROG_VALID l == 1 && rdL s R.TUM_STAT_FACK_PEND l == 0))

/-! ## Output sides of the Deadbolt (07 R289, R293) -/

/-- A field of the armed parameter block. -/
def par (s : State) (o n : Nat) : Nat := ofLe (rbs s .paramArmed o n)

/-- The length of the off test of a side in ns: TE_PW, for a brake side 300 µs (R293, Table 7.8). -/
def offTestNs (s : State) (n : Nat) : Nat := if n < 8 then 1000 * par s 0xC 2 else 300000

/-- The side is off for its test (R293); `offAt` is one more than when that began. -/
def offNow (s : State) (n : Nat) : Bool :=
  let t := Tab.get 0 s.db.offAt n
  t != 0 && decide (s.time.now < t - 1 + offTestNs s n)

/-- A side conducts but for its off tests: its enable and VGD, or found stuck on, and not found stuck off (R289, R293). -/
def sideOn (s : State) (n : Nat) : Bool :=
  let en := if n < 8 then bitAt s.db.teS (n / 2) == 1 && bitAt s.db.te (n / 2) == 1
            else bitAt s.db.brkS ((n - 8) / 2) == 1 && bitAt s.db.brk ((n - 8) / 2) == 1
  bitAt s.db.stuckOn n == 1 || (en && rd s R.DB_STAT_VGD_OK == 1 && bitAt s.db.stuckOff n == 0)

/-- A side conducts (R289, R293). -/
def sideConducts (s : State) (n : Nat) : Bool := sideOn s n && (bitAt s.db.stuckOn n == 1 || !offNow s n)

/-- What the Deadbolt keeps of a brake. -/
def BrkSt.zero : BrkSt := ⟨0, false, false, false, false, false, false, false, 0, 0, 0, 0, 0, 0, 0, false⟩
def brSt (s : State) (b : Nat) : BrkSt := Tab.get BrkSt.zero s.db.brks b
def setBr (s : State) (b : Nat) (f : BrkSt → BrkSt) : State :=
  { s with db := { s.db with brks := Tab.put BrkSt.zero s.db.brks b (f (brSt s b)) } }

/-- A brake is released: both sides conduct, their off tests apart (R289). -/
def brkReleased (s : State) (b : Nat) : Bool := sideOn s (8 + 2 * b) && sideOn s (9 + 2 * b)

/-- The time of a brake's release and of its application follows its sides (R289, R320). -/
def brkNote (s : State) (b : Nat) : State :=
  let on := brkReleased s b
  if on = (brSt s b).rel then s
  else if on then setBr s b (fun x => { x with rel := true, relAt := s.time.now, everRel := true })
  else setBr s b (fun x => { x with rel := false, appAt := s.time.now })

/-- The readback bits of AXIS_STAT, and the brakes' times, follow the sides. -/
def dbReadback (s : State) : State :=
  [0, 1].foldl brkNote <|
  [0, 1, 2, 3].foldl (fun t a => wr (wr t R.AXIS_STAT_TE1_RB (b2n (sideConducts t (2 * a))) 0 a)
    R.AXIS_STAT_TE2_RB (b2n (sideConducts t (2 * a + 1))) 0 a) s

/-! ## Fault codes (11 Table 11.2) -/

/-- The codes of each class (Tables 11.2 and 4.4). -/
def codesF1 : List Nat :=
  [0x0101, 0x0102, 0x030A, 0x030B, 0x0310, 0x0311, 0x0401, 0x0406, 0x0501, 0x0604, 0x0605, 0x0606, 0x0607, 0x0703, 0x0704,
   0x0705, 0x0706, 0x0707, 0x0708, 0x0709, 0x070A, 0x0801, 0x0802, 0x0803, 0x0810, 0x0811, 0x0812, 0x0901, 0x0902, 0x0903,
   0x0905, 0x0906]
def codesF2 : List Nat :=
  [0x0301, 0x0302, 0x0303, 0x0304, 0x0305, 0x0306, 0x0307, 0x0308, 0x0309, 0x030C, 0x0608, 0x0609, 0x060A, 0x060B, 0x060C,
   0x060D, 0x060E, 0x060F, 0x070B, 0x070C, 0x0904]
def codesF3 : List Nat := [0x0103, 0x0313, 0x0405, 0x0804]
def codesF4 : List Nat := [0x0104, 0x0318, 0x0319, 0x031A, 0x031B, 0x031C, 0x0610, 0x0611]

/-- The class of a code; every other code of Table 11.2 is F0. -/
def classOf (code : Nat) : Nat :=
  if codesF4.contains code then 4 else if codesF3.contains code then 3 else if codesF2.contains code then 2
  else if codesF1.contains code then 1 else 0

/-- The number of codes of a class that are present. -/
def presentCount (s : State) (cls : Nat) : Nat := (s.faults.present.filter (fun e => e.2 && classOf e.1 == cls)).length

/-- A fault of a class is present (R417). -/
def classPresent (s : State) (cls : Nat) : Bool := s.faults.present.any (fun e => e.2 && classOf e.1 == cls)

/-- The present flag of a code. -/
def isPresent (s : State) (code : Nat) : Bool := Tab.get false s.faults.present code

/-- The largest fault class present. -/
def fClass (s : State) : Nat := ([4, 3, 2, 1].find? (classPresent s)).getD 0

/-- CSTOP_MAX in ns. -/
def cstopMaxNs (s : State) : Nat := 10000000 * rdL s R.FLT_CFG_CSTOP_MAX .x

/-- The time that a running controlled stop has left, in ns (Table 11.5). -/
def cstopLeft (s : State) : Nat :=
  match s.faults.cstop with
  | some t => cstopMaxNs s - (s.scan.tx - t)
  | none => 0

/-- Word 24 (Table 11.5). -/
def faultWord24 (s : State) : Nat :=
  2 ^ 28 * fClass s + 2 ^ 27 * b2n s.faults.cstop.isSome + 2 ^ 26 * b2n (s.modl.mode == .safe)
    + 2 ^ 25 * b2n s.faults.ackPend + s.faults.total

/-- Words 24 to 63 (Table 11.5). -/
def faultWords (s : State) : List (Nat × Nat) :=
  [(24, faultWord24 s), (25, 2 ^ 16 * s.faults.lastCode + 2 ^ 12 * classOf s.faults.lastCode), (26, s.faults.lastScan),
   (27, 2 ^ 24 * (presentCount s 3 % 256) + 2 ^ 16 * (presentCount s 2 % 256) + presentCount s 1 % 2 ^ 16),
   (28, cstopLeft s / 1000000),
   (29, 2 ^ 16 * (rd s R.BRK_STAT_ALLOW_S 0 1 % 2 ^ 16) + rd s R.BRK_STAT_ALLOW_S 0 0 % 2 ^ 16), (30, 0), (31, 0)]
    ++ (List.range 32).map (fun g => (32 + g, (List.range 32).foldl (fun m n =>
        m + 2 ^ n * b2n (decide (1 ≤ g ∧ g ≤ 15) && isPresent s (256 * g + n))) 0))

/-! ## Raising, ending, acknowledging (11 R416 to R429) -/

/-- Events lost, by severity (17 R586). -/
def loseEvent (s : State) (sev : Nat) : State :=
  { s with jrnl := { s.jrnl with lostN := (List.range 5).map (fun i => s.jrnl.lostN.getD i 0 + b2n (i == sev)),
                                 lostNow := satInc 0xFFFF s.jrnl.lostNow } }

/-- The events that no commit will carry any more: waiting for one, or in the backlog (17 R586). -/
def loseWaiting (s : State) : State :=
  let gone := s.faults.events.filter (fun e => !e.mgmt && e.code / 256 != 9)
  let log : List Delta := match firstLane s with | some l => (s.jrnl.backlog.get l).filter (fun d => d.type == 6) | none => []
  let s0 := gone.foldl (fun t (e : Event) => loseEvent t (classOf e.code)) s
  let s1 := log.foldl (fun t (d : Delta) => loseEvent t (bits d.arg 15 12)) s0
  { s1 with faults := { s1.faults with events := s1.faults.events.filter (fun e => e.mgmt || e.code / 256 == 9) },
            jrnl := { s1.jrnl with backlog := .all [] } }

/-- The immediate safe state (R420): Prism releases nothing more, its enables are 0, PUMP_S stops, every bank is at
its fallback and its cells are disarmed (08 R344), mode SAFE; the program has stopped, so the Penesh connections are CLOSED (06 R274, R276). -/
def safeState (s : State) : State :=
  let s1 := { s with modl := { s.modl with mode := .safe, prismStop := true, nextMode := none, stopWaits := false },
                     faults := { s.faults with stopDue := false, cstop := none },
                     db := { s.db with teS := 0, brkS := 0, pumpS := false } }
  let s2 := dbReadback (syncLanes s1)
  if s.modl.prismStop then s2 else
    pslClose (loseWaiting (fallbackIn s2))

/-- What a class makes the module do beyond the record (R418, R419, R424, R428). -/
def react (s : State) (cls : Nat) : State :=
  if cls = 4 then safeState s
  else if cls = 3 then
    if s.modl.mode = .run then
      if s.faults.cstop.isSome then s else { s with faults := { s.faults with stopDue := true } }
    else { s with faults := { s.faults with ackPend := true } }
  else s

/-- A fault raised: recorded as an event, counted, its present flag set, and its class acted on (R416 to R419). -/
def raise (s : State) (code arg : Nat) : State :=
  let cls := classOf code
  let f := s.faults
  let ev : Event := ⟨code, arg, scanNo s, tb1 s, s.modl.prismStop || cls == 4⟩
  let s1 := { s with
    faults := { f with present := if cls = 0 then f.present else Tab.put false f.present code true,
                       total := satInc 0xFFFF f.total, lastCode := code, lastScan := scanNo s, events := f.events ++ [ev] } }
  react (hingeCount s1 0x21) cls

/-- A fault whose condition lasts, for one unit (R417). -/
def raiseOn (s : State) (code arg unit : Nat) : State :=
  let t := raise s code arg
  { t with faults := { t.faults with active := Tab.put false t.faults.active (65536 * code + unit) true } }

/-- A fault whose condition lasts, recorded where it did not last for the unit before (07 R327). -/
def raiseNew (s : State) (code arg unit : Nat) : State :=
  if Tab.get false s.faults.active (65536 * code + unit) then s else raiseOn s code arg unit

/-- The condition of a code lasts for some unit. -/
def condActive (s : State) (code : Nat) : Bool := s.faults.active.any (fun e => e.2 && e.1 / 65536 == code)

/-- An accepted fault acknowledge (R429, R417): present flags whose condition has ended are cleared, F4 excepted; where no
F3 remains, ACK_PEND is cleared. -/
def faultAck (s : State) : State :=
  let p := s.faults.present.filter (fun e => e.2 && (condActive s e.1 || classOf e.1 == 4))
  let t := { s with faults := { s.faults with present := p } }
  if classPresent t 3 then t else { t with faults := { t.faults with ackPend := false } }

/-- FLT_STAT follows word 24 at a commit (R438). -/
def fltSync (s : State) : State :=
  wrAll (wrAll (wrAll (wrAll (wrAll s R.FLT_STAT_FCLASS (fClass s)) R.FLT_STAT_CSTOP (b2n s.faults.cstop.isSome)) R.FLT_STAT_SAFE
    (b2n (s.modl.mode == .safe))) R.FLT_STAT_ACK_PEND (b2n s.faults.ackPend)) R.FLT_STAT_CSTOP_REM (cstopLeft s / 10000000)

/-- CSTOP_MAX_EXPIRY (R427): CSTOP_MAX has passed and an axis is still RELEASED or STOPPING. -/
def execCstopMaxExpiry (s : State) : Answer := whenLive s <|
  .next (match s.faults.cstop with
    | some t =>
      if cstopMaxNs s ≤ s.scan.tx - t ∧ [0, 1, 2, 3].any (fun a => rd s R.AXIS_STAT_STATE 0 a == 1 || rd s R.AXIS_STAT_STATE 0 a == 2)
      then raise s 0x0104 0 else s
    | none => s)

end Sys2Proof.Machine
end

