-- ==== Sys2Proof/Machine/Operands.lean ====
section
/-!
DEFINITION. What the bytes and words of operands mean: check values, slot and station entries, deltas and headers.
-/

namespace Sys2Proof.Machine

/-! ## Check values (03 R132, 05 R208, R215, 16 R557) -/

/-- One step of a reflected CRC on a bit: `poly` is the reflected polynomial. -/
def crcBit (poly c : Nat) : Nat := if c % 2 = 1 then Nat.xor (c / 2) poly else c / 2

/-- One byte of a reflected CRC. -/
def crcByte (poly c : Nat) (b : Byte) : Nat :=
  let x := Nat.xor c b.toNat
  crcBit poly (crcBit poly (crcBit poly (crcBit poly (crcBit poly (crcBit poly (crcBit poly (crcBit poly x)))))))

/-- A reflected CRC over bytes, before the final XOR. -/
def crcRefl (poly init : Nat) (l : List Byte) : Nat := l.foldl (crcByte poly) init

/-- CRC-64/XZ (R132): polynomial 0x42F0_E1EB_A9EA_3693, reflected, initial and final all ones. -/
def crc64 (l : List Byte) : Nat :=
  Nat.xor (crcRefl 0xC96C5795D7870F42 0xFFFFFFFFFFFFFFFF l) 0xFFFFFFFFFFFFFFFF

/-- CRC-32C (16 R558): polynomial 0x1EDC_6F41, reflected, initial and final all ones. -/
def crc32c (l : List Byte) : Nat := Nat.xor (crcRefl 0x82F63B78 0xFFFFFFFF l) 0xFFFFFFFF

/-- One byte of a CRC-16 with polynomial 0x1021, not reflected. -/
def crc16Byte (c : Nat) (b : Byte) : Nat :=
  (List.range 8).foldl (fun c _ => if c / 2 ^ 15 % 2 = 1 then Nat.xor (c * 2 % 2 ^ 16) 0x1021 else c * 2 % 2 ^ 16)
    (Nat.xor c (b.toNat * 256))

/-- A CRC-16 with polynomial 0x1021 and initial value 0xFFFF. -/
def crc16 (l : List Byte) : Nat := l.foldl crc16Byte 0xFFFF

/-- `n` bytes of a byte string at an offset as a little-endian number; bytes beyond its end read 0. -/
def leAt (l : List Byte) (o n : Nat) : Nat := ofLe ((List.range n).map (fun i => l.getD (o + i) 0))

/-- The CRC-32 of IEEE 802.3: polynomial 0x04C1_1DB7, reflected, initial and final all ones (05 R203, R206). -/
def crc32 (l : List Byte) : Nat := Nat.xor (crcRefl 0xEDB88320 0xFFFFFFFF l) 0xFFFFFFFF

/-! ## Registers by address (00 R15, R18, 05 R258) -/

/-- The index of a register row at an address. -/
def Row.index (r : Row) (addr : Nat) : Option Nat :=
  if r.base ≤ addr ∧ (addr - r.base) % r.stride = 0 ∧ (addr - r.base) / r.stride < r.count then some ((addr - r.base) / r.stride)
  else none

/-- The fields of the register at an address of a kind of block, each with its index. -/
def rowsAt (blk : Block) (addr : Nat) : List (Row × Nat) :=
  R.table.filterMap (fun r => if r.block = blk then (r.index addr).map (fun i => (r, i)) else none)

/-- The value of a register, as a reader sees it: `b` is the bank of its fields, `rc` that of its RC fields; WO fields
read 0. -/
def readWord (s : State) (rows : List (Row × Nat)) (b rc : Nat) : Nat :=
  rows.foldl (fun v e => v + 2 ^ e.1.lo * (match e.1.acc with | .wo => 0 | .rc => rcSeen s e.1 rc e.2 | _ => rd s e.1 b e.2)) 0

/-- A read returns the RC fields of a register to their reset value, for that reader (R18). -/
def clearRc (s : State) (rows : List (Row × Nat)) (rc : Nat) : State :=
  rows.foldl (fun t e => if e.1.acc = .rc then rcClear t e.1 rc e.2 else t) s

/-! ## Schedule tables and frames (05 Tables 5.1 to 5.9) -/

/-- One slot table entry (Table 5.5). -/
structure SlotEnt where
  start : Nat
  slen  : Nat
  kind  : Nat
  dir   : Bool
  dn    : Bool
  owner : Nat
  plen  : Nat
  deriving DecidableEq, Repr

/-- The slot table entry that 16 bytes of a memory spell. -/
def slotAtMem (s : State) (r : Region) (o : Nat) : SlotEnt :=
  let w1 := r32 s r (o + 4)
  let w2 := r32 s r (o + 8)
  ⟨r32 s r o % 2 ^ 24, w1 % 2 ^ 16, bits w2 31 30, bitAt w2 29 = 1, bitAt w2 28 = 1, bits w2 25 16, bits w2 10 0⟩

/-- SLOT_TAB[n]. -/
def slotEnt (s : State) (n : Nat) : SlotEnt := slotAtMem s .slotTab (16 * n)

/-- One station table entry (Table 5.6). -/
structure StnEnt where
  en      : Bool
  spare   : Bool
  inSlot  : Nat
  devType : Nat
  inDofs  : Nat
  inDlen  : Nat
  inWofs  : Nat
  inWlen  : Nat
  outSlot : Nat
  outPos  : Nat
  outDofs : Nat
  outDlen : Nat
  outWofs : Nat
  outWlen : Nat
  deriving DecidableEq, Repr

/-- The station table entry that 32 bytes of a memory spell. -/
def stnAtMem (s : State) (r : Region) (o : Nat) : StnEnt :=
  let w (k : Nat) := r32 s r (o + 4 * k)
  ⟨bitAt (w 0) 31 = 1, bitAt (w 0) 30 = 1, bits (w 0) 27 16, bits (w 0) 15 0, bits (w 1) 30 16, bits (w 1) 10 0,
   bits (w 2) 29 16, bits (w 2) 10 0, bits (w 3) 27 16, bits (w 3) 10 0, bits (w 4) 30 16, bits (w 4) 10 0,
   bits (w 5) 29 16, bits (w 5) 10 0⟩

/-- STN_TAB[n]. -/
def stnEnt (s : State) (n : Nat) : StnEnt := stnAtMem s .stnTab (32 * n)

/-- The station table entries with EN = 1, found by the listed bytes that hold their EN bits. -/
def stations (s : State) : List Nat :=
  let b := Region.stnTab.at 0
  ((Tab.range s.mem b (b + 0x8000)).filter (fun e => (e.1 - b) % 32 == 3 && e.2.getLsbD 7)).map (fun e => (e.1 - b) / 32)

/-- The slots of the schedule in order. -/
def slotNums (s : State) : List Nat := List.range (rd s R.LU_SLOT_CNT_COUNT)

/-! ## Check-value units (16 R557 to R560) -/

/-- `w` bits of a number in reverse order. -/
def reflectBits (w n : Nat) : Nat := (List.range w).foldl (fun m i => m + bitAt n i * 2 ^ (w - 1 - i)) 0

/-- The parameters and the value of a CVU of an engine. -/
def cvuWidth (s : State) (e u : Nat) : Nat := rd s R.CVU_CFG_WIDTH e u
def cvuPoly (s : State) (e u : Nat) : Nat := (rd s R.POLY_LO_POLY e u + 2 ^ 32 * rd s R.POLY_HI_POLY e u) % 2 ^ cvuWidth s e u
def cvuValue (s : State) (e u : Nat) : Nat := (rd s R.VALUE_LO_VALUE e u + 2 ^ 32 * rd s R.VALUE_HI_VALUE e u) % 2 ^ cvuWidth s e u

/-- RESULT (R557). -/
def cvuResult (s : State) (e u : Nat) : Nat :=
  if rd s R.CVU_CFG_FINV e u = 1 then 2 ^ cvuWidth s e u - 1 - cvuValue s e u else cvuValue s e u

/-- RESULT_LO and RESULT_HI follow VALUE. -/
def cvuSync (s : State) (e u : Nat) : State :=
  wr (wr s R.RESULT_LO_RESULT (cvuResult s e u) e u) R.RESULT_HI_RESULT (cvuResult s e u / 2 ^ 32) e u

/-- VALUE set, RESULT following. -/
def cvuSet (s : State) (e u v : Nat) : State :=
  cvuSync (wr (wr s R.VALUE_LO_VALUE v e u) R.VALUE_HI_VALUE (v / 2 ^ 32) e u) e u

/-- One bit of a check value in the direction of REFLECT (R557). -/
def cvuBit (refl : Bool) (w poly c : Nat) (b : Nat) : Nat :=
  if refl then if (c + b) % 2 = 1 then Nat.xor (c / 2) poly else c / 2
  else
    let c2 := c * 2 % 2 ^ w
    if (bitAt c (w - 1) + b) % 2 = 1 then Nat.xor c2 poly else c2

/-- One byte of a check value. -/
def cvuByte (refl : Bool) (w poly c : Nat) (b : Byte) : Nat :=
  (List.range 8).foldl (fun c i => cvuBit refl w poly c (bitAt b.toNat (if refl then i else 7 - i))) c

/-- The check value after bytes fed to a CVU, by its parameters (R557). -/
def cvuAfter (s : State) (e u : Nat) (l : List Byte) : Nat :=
  let refl := rd s R.CVU_CFG_REFLECT e u == 1
  let poly := if refl then reflectBits (cvuWidth s e u) (cvuPoly s e u) else cvuPoly s e u
  l.foldl (cvuByte refl (cvuWidth s e u) poly) (cvuValue s e u)

/-- A register pair of a CVU. -/
def cvuPair (s : State) (e u : Nat) (lo hi : Row) (v : Nat) : State := wr (wr s lo v e u) hi (v / 2 ^ 32) e u


/-- The upper word that a read of VALUE_HI or RESULT_HI returns: the one captured, once (R558). -/
def cvuUpper (s : State) (e u v : Nat) : State × Nat :=
  match Tab.get none s.dma.caps (4 * e + u) with
  | some c => ({ s with dma := { s.dma with caps := Tab.put none s.dma.caps (4 * e + u) none } }, c)
  | none => (s, v / 2 ^ 32)

/-- A read of a low word captures the upper one (R558). -/
def cvuCapture (s : State) (e u v : Nat) : State × Nat :=
  ({ s with dma := { s.dma with caps := Tab.put none s.dma.caps (4 * e + u) (some (v / 2 ^ 32)) } }, v % 2 ^ 32)

/-- A register of a CVU that is read otherwise than by its fields: bits above W read 0 (R557, R558). -/
def cvuReadWord (s : State) (e off : Nat) : Option (State × Nat) :=
  let u := off / 0x40
  let w := 2 ^ cvuWidth s e u
  let seed := (rd s R.INIT_LO_INIT e u + 2 ^ 32 * rd s R.INIT_HI_INIT e u) % w
  match off % 0x40 with
  | 0x08 => some (s, cvuPoly s e u % 2 ^ 32)
  | 0x0C => some (s, cvuPoly s e u / 2 ^ 32)
  | 0x10 => some (s, seed % 2 ^ 32)
  | 0x14 => some (s, seed / 2 ^ 32)
  | 0x18 => some (cvuCapture s e u (cvuValue s e u))
  | 0x1C => some (cvuUpper s e u (cvuValue s e u))
  | 0x20 => some (cvuCapture s e u (cvuResult s e u))
  | 0x24 => some (cvuUpper s e u (cvuResult s e u))
  | _ => none

end Sys2Proof.Machine
end

