-- ==== Sys2Proof/Machine/Tumbler.lean ====
section
/-!
DEFINITION. The process image, the force planes and the Tumbler engine (chapters 2 and 3).
-/

namespace Sys2Proof.Machine

/-! ## The process image and the force planes (02 "Process image", 03 R124 to R131) -/

/-- One bit of a plane of a lane's image memory: bit address a lies in byte a / 8 at position a mod 8. -/
def planeBit (s : State) (l : Lane) (plane a : Nat) : Bool :=
  (rb s (.image l) (plane + a / 8)).getLsbD (a % 8)

/-- The state with one bit of a plane written. -/
def setPlaneBit (s : State) (l : Lane) (plane a : Nat) (v : Bool) : State :=
  let b := rb s (.image l) (plane + a / 8)
  let m : Byte := BitVec.ofNat 8 (2 ^ (a % 8))
  wb s (.image l) (plane + a / 8) (if v then b ||| m else b &&& ~~~ m)

/-- A point of the digital image. -/
def imgBit (s : State) (l : Lane) (a : Nat) : Bool := planeBit s l 0 a

/-- The state with a point of the digital image written, forces not regarded; a reserved point stays 0. -/
def setImgBit (s : State) (l : Lane) (a : Nat) (v : Bool) : State :=
  setPlaneBit s l 0 a (v && bitAt (keptBits (.image l) (a / 8)) (a % 8) == 1)

/-- A word of the word image. -/
def imgWord (s : State) (l : Lane) (n : Nat) : Nat := r32 s (.image l) (offWord + 4 * n)

/-- A point as the force planes filter a store to it (R125). -/
def filterBit (s : State) (l : Lane) (a : Nat) (v : Bool) : Bool :=
  if planeBit s l offDFMask a then planeBit s l offDFVal a else v

/-- A number with the masked bits replaced by the value plane's. -/
def maskMerge (v val mask w : Nat) : Nat :=
  ((BitVec.ofNat w v &&& ~~~ BitVec.ofNat w mask) ||| (BitVec.ofNat w val &&& BitVec.ofNat w mask)).toNat

/-- A word as the force planes filter a store to it (R125). -/
def filterWord (s : State) (l : Lane) (n v : Nat) : Nat :=
  maskMerge v (r32 s (.image l) (offWFVal + 4 * n)) (r32 s (.image l) (offWFMask + 4 * n)) 32

/-- The 64 bits of an output vote word as Prism reads them: every masked bit replaced by the value plane (R125, at commit). The
offset is of the digital image, or of the word image from `offWord` up. -/
def filteredWord (s : State) (l : Lane) (o : Nat) : Nat :=
  let i := Region.image l
  if o < offWord then maskMerge (r64 s i o) (r64 s i (offDFVal + o)) (r64 s i (offDFMask + o)) 64
  else maskMerge (r64 s i o) (r64 s i (offWFVal + (o - offWord))) (r64 s i (offWFMask + (o - offWord))) 64

/-- Output words take their forced values at a commit (R126, 02 R72). -/
def forceOutputs (s : State) (l : Lane) (os : List Nat) : State :=
  os.foldl (fun t o => let v := filteredWord t l o; if r64 t (.image l) o = v then t else wKept t (.image l) o (leBytes 8 v)) s

/-- The force planes applied to the image of a lane: every masked bit is set to the value plane (R125, at freeze).
Only the listed bytes of the mask planes can hold a 1. -/
def applyForces (s : State) (l : Lane) : State :=
  let i := Region.image l
  let d := (Tab.range s.mem (i.at offDFMask) (i.at offDFMask + 0x8000)).foldl
    (fun t e => let o := e.1 - i.at offDFMask
      wKept t i o [(rb t i o &&& ~~~ e.2) ||| (rb t i (offDFVal + o) &&& e.2)]) s
  (Tab.range s.mem (i.at offWFMask) (i.at offWFMask + 0x10000)).foldl
    (fun t e => let o := e.1 - i.at offWFMask
      wKept t i (offWord + o) [(rb t i (offWord + o) &&& ~~~ e.2) ||| (rb t i (offWFVal + o) &&& e.2)]) d

/-- The force entry that word 0 to 3 at an index spell. -/
def forceAt (s : State) (l : Lane) (n : Nat) : ForceEnt :=
  let w := r32 s (.forceTab l) (16 * n)
  ⟨bitAt w 31 = 1, bitAt w 30 = 1, bitAt w 29 = 1, bits w 28 24, bits w 17 0,
   r32 s (.forceTab l) (16 * n + 4), r64 s (.forceTab l) (16 * n + 8)⟩

/-- The bytes of a force entry (Table 3.11). -/
def ForceEnt.bytes (e : ForceEnt) : List Byte :=
  leBytes 4 (2 ^ 31 * b2n e.valid + 2 ^ 30 * b2n e.pend + 2 ^ 29 * b2n e.word + 2 ^ 24 * (e.type % 32)
    + e.addr % 2 ^ 18) ++ leBytes 4 e.value ++ leBytes 8 e.pid

/-- The state with a force entry written. -/
def setForce (s : State) (l : Lane) (n : Nat) (e : ForceEnt) : State := wbs s (.forceTab l) (16 * n) e.bytes

/-- The indices whose entries hold anything: those with a listed byte. -/
def forceIdxs (s : State) (l : Lane) : List Nat :=
  let b := (Region.forceTab l).at 0
  ((Tab.range s.mem b (b + 0x4000)).map (fun e => (e.1 - b) / 16)).eraseDups

/-- Counts of valid and of pending entries (FORCE_CNT). -/
def forceValid (s : State) (l : Lane) : Nat := ((forceIdxs s l).filter (fun n => (forceAt s l n).valid)).length
def forcePend (s : State) (l : Lane) : Nat := ((forceIdxs s l).filter (fun n => (forceAt s l n).pend)).length

/-- FORCE_CNT brought up to date with the table. -/
def forceCount (s : State) (l : Lane) : State :=
  wrL (wrL s R.FORCE_CNT_VALID l (forceValid s l)) R.FORCE_CNT_PEND l (forcePend s l)

/-- A plane pair set for one entry: mask 1 and value where it is valid, mask 0 where it is not (R125, R129). -/
def mergeOne (s : State) (l : Lane) (e : ForceEnt) : State :=
  if e.word then
    let a := e.addr % 2 ^ 14
    w32 (w32 s (.image l) (offWFMask + 4 * a) (if e.valid then 0xFFFFFFFF else 0))
      (.image l) (offWFVal + 4 * a) (if e.valid then e.value else 0)
  else setPlaneBit (setPlaneBit s l offDFMask e.addr e.valid) l offDFVal e.addr (e.valid && bitAt e.value 0 = 1)

/-- FORCE_GEN advances with each change of the table (R131). -/
def forceGenInc (s : State) (l : Lane) : State := wrL s R.FORCE_GEN_GEN l (rdL s R.FORCE_GEN_GEN l + 1)

/-- Step 7 of R58: pending entries are merged into the planes, or removed from them where VALID is 0, and PEND is cleared; then the
planes are applied to the image (R129). A merge that changes the table advances FORCE_GEN once (R131, log entry 98). -/
def forceMerge (s : State) (l : Lane) : State :=
  let ns := (forceIdxs s l).filter (fun n => (forceAt s l n).pend)
  let t := ns.foldl (fun t n => let e := forceAt t l n; setForce (mergeOne t l e) l n { e with pend := false }) s
  forceCount (applyForces (if ns.isEmpty then t else forceGenInc t l) l) l

/-- The index of the entry that the table holds for a kind and address, valid or pending. -/
def forceFind (s : State) (l : Lane) (word : Bool) (addr : Nat) : Option Nat :=
  (forceIdxs s l).find? (fun n => let e := forceAt s l n; (e.valid || e.pend) && e.word == word && e.addr == addr)

/-- The first free index of the force table. -/
def forceFree (s : State) (l : Lane) : Option Nat :=
  let used := (forceIdxs s l).filter (fun n => (forceAt s l n).valid || (forceAt s l n).pend)
  (List.range 1024).find? (fun n => !used.contains n)

/-- An entry of an accepted FORCE_SET written with PEND = 1 into the index of its kind and address, else into a free one (R129);
FORCE_GEN advances with each entry (R131, log entry 98). -/
def forcePut (s : State) (l : Lane) (e : ForceEnt) : State :=
  match (match forceFind s l e.word e.addr with | some n => some n | none => forceFree s l) with
  | some n => forceGenInc (forceCount (setForce s l n { e with pend := true }) l) l
  | none => s

/-- A removal by FORCE_CLEAR, written with VALID = 0 into the index of the entry; an address not held writes nothing (R129). -/
def forceRemove (s : State) (l : Lane) (word : Bool) (addr : Nat) : State :=
  match forceFind s l word addr with
  | some n => forceGenInc (forceCount (setForce s l n { forceAt s l n with valid := false, pend := true }) l) l
  | none => s

/-! ## The register files and the ops of Tumbler (03 R88 to R123) -/

/-- The register files at the start of a pass (R91): all clear but P0. -/
def TumRegs.clear : TumRegs := ⟨0, [], 1⟩

/-- A word register; W0 reads 0 (R90). -/
def TumRegs.word (r : TumRegs) (i : Nat) : Word := if i = 0 then 0 else Tab.get 0 r.w i

/-- A bit register. -/
def TumRegs.bit (r : TumRegs) (i : Nat) : Bool := r.b.getLsbD i

/-- A predicate register; P0 reads 1 (R90). -/
def TumRegs.pred (r : TumRegs) (i : Nat) : Bool := if i = 0 then true else r.p.getLsbD i

/-- A register write that becomes readable at a bundle. -/
inductive TumWrite where
  | bit (i : Nat) (v : Bool)
  | word (i : Nat) (v : Word)
  | pred (i : Nat) (v : Bool)
  deriving DecidableEq, Repr

/-- A register written; W0 and P0 discard (R90). -/
def TumRegs.apply (r : TumRegs) : TumWrite → TumRegs
  | .bit i v => { r with b := if v then r.b ||| BitVec.ofNat 32 (2 ^ i) else r.b &&& ~~~ BitVec.ofNat 32 (2 ^ i) }
  | .word i v => if i = 0 then r else { r with w := Tab.put 0 r.w i v }
  | .pred i v =>
    if i = 0 then r
    else { r with p := if v then r.p ||| BitVec.ofNat 16 (2 ^ i) else r.p &&& ~~~ BitVec.ofNat 16 (2 ^ i) }

/-- R92: the op executes when P[PS] XOR PN = 1. -/
def opRuns (r : TumRegs) (w : Nat) : Bool := xor (r.pred (bits w 30 27)) (bitAt w 31 = 1)

/-- The IMG ops of Table 3.2. -/
inductive ImgOp where
  | ldb (d a : Nat) | edr (d a : Nat) | edf (d a : Nat) | stb (r a : Nat)
  | ldw (d n : Nat) | stw (r n : Nat) | ldwx (d i base : Nat) | stwx (r i base : Nat) | ldp (d a : Nat)
  | reserved
  deriving DecidableEq, Repr

/-- S0 decoded (Table 3.1, Table 3.2). -/
def imgOp (w : Nat) : ImgOp :=
  let d := bits w 22 18
  let a := bits w 17 0
  match bits w 26 23 with
  | 0 => .ldb d a
  | 1 => .edr d a
  | 2 => .edf d a
  | 3 => .stb d a
  | 4 => .ldw d a
  | 5 => .stw d a
  | 6 => .ldwx d (bits w 17 13) (bits w 12 0)
  | 7 => .stwx d (bits w 17 13) (bits w 12 0)
  | 8 => .ldp d a
  | _ => .reserved

/-- A signed number saturated to 32 bits. -/
def sat32 (i : Int) : Word :=
  if i > 0x7FFFFFFF then 0x7FFFFFFF else if i < -0x80000000 then 0x80000000 else BitVec.ofInt 32 i

/-- R97: DIV or REM meets a zero divisor or the one overflowing quotient. -/
def divExc (a b : Word) : Bool := b == 0 || (a == 0x80000000 && b == 0xFFFFFFFF)

/-- The two-operand word ops 0x00 to 0x0F of Table 3.3. -/
def ariWord (opc : Nat) (a b : Word) : Option Word :=
  match opc with
  | 0x00 => some (a + b)
  | 0x01 => some (a - b)
  | 0x02 => some (sat32 (a.toInt + b.toInt))
  | 0x03 => some (sat32 (a.toInt - b.toInt))
  | 0x04 => some (a * b)
  | 0x05 => some (BitVec.ofInt 32 ((a.toInt * b.toInt) / 2 ^ 32))
  | 0x06 =>
    some (if b == 0 then (if a.toInt ≥ 0 then 0x7FFFFFFF else 0x80000000)
      else if divExc a b then 0x7FFFFFFF else BitVec.ofInt 32 (Int.tdiv a.toInt b.toInt))
  | 0x07 => some (if divExc a b then 0 else BitVec.ofInt 32 (Int.tmod a.toInt b.toInt))
  | 0x08 => some (a &&& b)
  | 0x09 => some (a ||| b)
  | 0x0A => some (a ^^^ b)
  | 0x0B => some (a <<< (b.toNat % 32))
  | 0x0C => some (a >>> (b.toNat % 32))
  | 0x0D => some (a.sshiftRight (b.toNat % 32))
  | 0x0E => some (if a.toInt ≤ b.toInt then a else b)
  | 0x0F => some (if a.toInt ≤ b.toInt then b else a)
  | _ => none

/-- The comparisons 0x10 to 0x15 of Table 3.3. -/
def ariCmp (opc : Nat) (a b : Word) : Option Bool :=
  match opc with
  | 0x10 => some (a == b)
  | 0x11 => some (a != b)
  | 0x12 => some (decide (a.toInt < b.toInt))
  | 0x13 => some (decide (a.toInt ≤ b.toInt))
  | 0x14 => some (decide (a.toNat < b.toNat))
  | 0x15 => some (decide (a.toNat ≤ b.toNat))
  | _ => none

/-- The latency of an ARI op (Table 3.3). -/
def ariLatency (opc : Nat) : Nat :=
  if opc = 0x04 ∨ opc = 0x05 then 3
  else if opc = 0x06 ∨ opc = 0x07 then 12
  else if 0x28 ≤ opc ∧ opc ≤ 0x2F then 2
  else 1

/-- A timer or counter instance (Table 3.5). -/
structure Inst where
  w0 : Nat
  w1 : Nat
  w2 : Nat
  w3 : Nat
  deriving DecidableEq, Repr

/-- An instance read from the instance memory. -/
def instAt (s : State) (l : Lane) (i : Nat) : Inst :=
  ⟨r32 s (.inst l) (16 * i), r32 s (.inst l) (16 * i + 4), r32 s (.inst l) (16 * i + 8), r32 s (.inst l) (16 * i + 12)⟩

/-- The state with an instance written. -/
def setInst (s : State) (l : Lane) (i : Nat) (n : Inst) : State :=
  wbs s (.inst l) (16 * i) (leBytes 4 n.w0 ++ leBytes 4 n.w1 ++ leBytes 4 n.w2 ++ leBytes 4 n.w3)

/-- CV kept within 0x8000_0001 to 0x7FFF_FFFF (R118). -/
def cvSat (i : Int) : Nat :=
  ofSigned 32 (if i > 0x7FFFFFFF then 0x7FFFFFFF else if i < -0x7FFFFFFF then -0x7FFFFFFF else i)

/-- The reserved bits of an instance read 0, and CV of a counter stays in its range, whoever has written it (Table 3.5, R118). -/
def Inst.fixed (n : Inst) : Inst :=
  if bits n.w3 27 24 = 8 then ⟨cvSat (toSigned 32 n.w0), n.w1, 0, 2 ^ 29 * bits n.w3 31 29 + 2 ^ 24 * 8⟩
  else { n with w3 := 2 ^ 24 * bits n.w3 31 24 }
def instFix (s : State) (l : Lane) (i : Nat) : State := setInst s l i (instAt s l i).fixed

/-- The instance memory after a load: cleared, with kind and unit of the instance table (R112). -/
def instLoad (s : State) (l : Lane) (es : List (Nat × Bool)) : State :=
  es.zipIdx.foldl (fun t e => setInst t l e.2 ⟨0, 0, 0, 2 ^ 28 * b2n (e.1.1 != 8 && e.1.2) + 2 ^ 24 * (e.1.1 % 16)⟩)
    (clearMem s (.inst l) 0 0x8000)

/-- What a timer holds between scans. -/
structure Timer where
  start   : Nat
  et      : Nat
  q       : Bool
  inPrev  : Bool
  running : Bool
  deriving DecidableEq, Repr

/-- The timer of an instance (Table 3.5). -/
def Inst.timer (n : Inst) : Timer :=
  ⟨n.w0 + 2 ^ 32 * n.w1, n.w2, bitAt n.w3 31 = 1, bitAt n.w3 30 = 1, bitAt n.w3 29 = 1⟩

/-- The instance of a timer, its unit and kind kept. -/
def Inst.withTimer (n : Inst) (t : Timer) : Inst :=
  ⟨t.start % 2 ^ 32, t.start / 2 ^ 32 % 2 ^ 32, t.et,
   2 ^ 31 * b2n t.q + 2 ^ 30 * b2n t.inPrev + 2 ^ 29 * b2n t.running + n.w3 % 2 ^ 29⟩

/-- The kinds of timer op. -/
inductive TimerKind where
  | ton | tof | tp
  deriving DecidableEq, Repr

/-- One execution of a timer op (R116). -/
def timerStep (k : TimerKind) (tx unit : Nat) (inp : Bool) (pt : Nat) (t0 : Timer) : Timer :=
  let t := if t0.start > tx then { t0 with start := tx } else t0
  let elapsed := min ((tx - t.start) / unit) pt
  let u := match k with
    | .ton =>
      if inp then
        let e := if t.running then elapsed else 0
        { t with start := if t.running then t.start else tx, running := true, et := e, q := decide (e ≥ pt) }
      else { t with running := false, et := 0, q := false }
    | .tof =>
      if inp then { t with running := false, et := 0, q := true }
      else
        let e := if t.inPrev then 0 else elapsed
        if t.inPrev || t.running then
          { t with start := if t.inPrev then tx else t.start, running := decide (e < pt), et := e, q := decide (e < pt) }
        else { t with q := false }
    | .tp =>
      let fire := inp && !t.inPrev && !t.running
      let e := if fire then 0 else elapsed
      if fire || t.running then
        { t with start := if fire then tx else t.start, running := decide (e < pt), et := e, q := decide (e < pt) }
      else { t with et := if inp then t.et else 0, q := false }
  { u with inPrev := inp }

/-- CTU or CTD on an instance: the new instance and Q (R118). -/
def counterStep (up : Bool) (inp : Bool) (pv : Nat) (n : Inst) : Inst × Bool :=
  let prev := bitAt n.w3 (if up then 30 else 29) = 1
  let cv := if inp && !prev then cvSat (toSigned 32 n.w0 + (if up then 1 else -1)) else n.w0
  let q := if up then decide (toSigned 32 cv ≥ toSigned 32 pv) else decide (toSigned 32 cv ≤ 0)
  let keep := if up then 2 ^ 29 * bitAt n.w3 29 + 2 ^ 30 * b2n inp else 2 ^ 30 * bitAt n.w3 30 + 2 ^ 29 * b2n inp
  (⟨cv, pv, n.w2, 2 ^ 31 * b2n q + keep + n.w3 % 2 ^ 29⟩, q)

/-- A pass under way: the state, the register files, results not yet readable with the bundle from which they are,
the store issued one bundle ago, and the 64-bit words of the memories of 04 R158 that the pass has read. -/
structure Pass where
  s     : State
  rf    : TumRegs
  due   : List (Nat × TumWrite)
  store : Option (Bool × Nat × Nat)
  seen  : List (EccMem × Nat)

/-- The 64-bit word of a point of a digital plane, and of a word of the word image. -/
def pointWord (plane a : Nat) : EccMem × Nat := (.image, (plane + a / 8) / 8)
def wordWord (n : Nat) : EccMem × Nat := (.image, (offWord + 4 * n) / 8)

/-- The words of the force planes that the filter of a store to a word reads (R125). -/
def maskWords (n : Nat) : List (EccMem × Nat) := [(.image, (offWFMask + 4 * n) / 8), (.image, (offWFVal + 4 * n) / 8)]

/-- The words that the executing op of S1 reads: its instance, or status word 0 for a handoff record. -/
def ariSeen (w : Nat) : List (EccMem × Nat) :=
  let opc := bits w 26 21
  if 0x28 ≤ opc ∧ opc ≤ 0x2F then [(.inst, 2 * bits w 10 0), (.inst, 2 * bits w 10 0 + 1)]
  else if opc = 0x30 then [wordWord 0] else []

/-- The effect of the ARI op of S1 in bundle `i`; `s2` is the S2 word of the bundle. -/
def ariExec (l : Lane) (tx i w s2 : Nat) (p : Pass) : Pass :=
  let opc := bits w 26 21
  let d := bits w 20 16
  let a := bits w 15 11
  let b := bits w 10 6
  let c := bits w 5 1
  let r := p.rf
  let put (t : TumWrite) : Pass := { p with due := p.due ++ [(i + ariLatency opc, t)] }
  match ariWord opc (r.word a) (r.word b) with
  | some v =>
    let q := put (.word d v)
    if (opc = 0x06 ∨ opc = 0x07) ∧ divExc (r.word a) (r.word b) then
      { q with s := rcAddL (setFlagL q.s R.TUM_STAT_DIV0 l) R.DIV0_CNT_COUNT l }
    else q
  | none =>
  match ariCmp opc (r.word a) (r.word b) with
  | some v => put (.bit d v)
  | none =>
  let n := bits w 10 0
  match opc with
  | 0x18 => put (.word d (if r.bit c then r.word a else r.word b))
  | 0x19 => put (.bit d ((r.word a).getLsbD b))
  | 0x1A =>
    put (.word d (if r.bit b then r.word a ||| BitVec.ofNat 32 (2 ^ c) else r.word a &&& ~~~ BitVec.ofNat 32 (2 ^ c)))
  | 0x1B => put (.word d (if r.bit a then 1 else 0))
  | 0x1C => put (.word d (r.word a + (BitVec.ofNat 11 n).signExtend 32))
  | 0x20 => put (.word d (BitVec.ofNat 32 (bits w 15 0)))
  | 0x21 => put (.word d (BitVec.ofNat 32 (2 ^ 16 * bits w 15 0 + (r.word d).toNat % 2 ^ 16)))
  | 0x22 => put (.word d (BitVec.ofNat 32 s2))
  | 0x2E => let m := instAt p.s l n; { p with s := setInst p.s l n { m with w0 := 0 } }
  | 0x2F =>
    let m := instAt p.s l n
    { p with s := setInst p.s l n { m with w0 := cvSat (r.word a).toInt, w1 := (r.word a).toNat } }
  | 0x2C => let (m, q) := counterStep true (r.bit d) (r.word a).toNat (instAt p.s l n)
            { put (.bit d q) with s := setInst p.s l n m }
  | 0x2D => let (m, q) := counterStep false (r.bit d) (r.word a).toNat (instAt p.s l n)
            { put (.bit d q) with s := setInst p.s l n m }
  | 0x30 =>
    let k := rdL p.s R.HND_COUNT_COUNT l
    { p with s := wrL (wbs p.s (.hndQ l) (16 * k) (leBytes 4 (2 ^ 16 * k + n) ++ leBytes 4 (imgWord p.s l 0)
        ++ leBytes 4 (r.word d).toNat ++ leBytes 4 (r.word a).toNat)) R.HND_COUNT_COUNT l (k + 1) }
  | o =>
    match (if o = 0x28 then some TimerKind.ton else if o = 0x29 then some .tof else if o = 0x2A then some .tp else none) with
    | some k =>
      let m := instAt p.s l n
      let t := timerStep k tx (if bitAt m.w3 28 = 1 then 1000000 else 1000) (r.bit d) (r.word a).toNat m.timer
      { put (.bit d t.q) with s := setInst p.s l n (m.withTimer t) }
    | none => p

/-- The result of a LOG op (Table 3.4). -/
def logOp (w : Nat) (r : TumRegs) : Option TumWrite :=
  let d := bits w 20 16
  let x := r.bit (bits w 15 11)
  let y := r.bit (bits w 10 6)
  let z := r.bit (bits w 5 1)
  match bits w 26 21 with
  | 0x00 => some (.bit d x)
  | 0x01 => some (.bit d (!x))
  | 0x02 => some (.bit d (x && y))
  | 0x03 => some (.bit d (x || y))
  | 0x04 => some (.bit d (xor x y))
  | 0x05 => some (.bit d (x && !y))
  | 0x06 => some (.bit d (x || !y))
  | 0x07 => some (.bit d (!(x && y)))
  | 0x08 => some (.bit d (!(x || y)))
  | 0x09 => some (.bit d (!(xor x y)))
  | 0x0A => some (.bit d (x && y && z))
  | 0x0B => some (.bit d (x || y || z))
  | 0x0C => some (.bit d ((x && y) || z))
  | 0x0D => some (.bit d ((x || y) && z))
  | 0x0E => some (.bit d (if z then x else y))
  | 0x0F => some (.bit d true)
  | 0x10 => some (.bit d false)
  | 0x11 => some (.bit d (x || (r.bit d && !y)))
  | 0x12 => some (.bit d (!y && (x || r.bit d)))
  | 0x18 => some (.pred (d % 16) x)
  | 0x19 => some (.pred (d % 16) (!x))
  | 0x1A => some (.pred (d % 16) (x && y))
  | 0x1B => some (.pred (d % 16) (x || y))
  | _ => none

/-- A store that completes at a bundle boundary, filtered by forces; STWX to words 0 to 63 is not performed
(R105, R108, R125). -/
def storeExec (l : Lane) (s : State) : Option (Bool × Nat × Nat) → State
  | none => s
  | some (true, a, v) => setImgWord s l a (filterWord s l a v)
  | some (false, a, v) => setImgBit s l a (filterBit s l a (v = 1))

/-- The image access of S0 in bundle `i` at the boundary after it, and the store it hands on (R105). The store of the
bundle before completes at the same boundary, after the read. -/
def imgExec (l : Lane) (i w : Nat) (runs : Bool) (r : TumRegs) (p : Pass) : Pass :=
  let s := p.s
  let o := imgOp w
  let idx (k base : Nat) : Nat := (2 * base + (r.word k).toNat) % 16384
  let load : List (Nat × TumWrite) :=
    if runs then
      match o with
      | .ldb d a => [(i + 2, .bit d (imgBit s l a))]
      | .edr d a => [(i + 2, .bit d (imgBit s l a && !planeBit s l offPrev a))]
      | .edf d a => [(i + 2, .bit d (planeBit s l offPrev a && !imgBit s l a))]
      | .ldp d a => [(i + 2, .bit d (planeBit s l offPrev a))]
      | .ldw d n => [(i + 2, .word d (BitVec.ofNat 32 (imgWord s l n)))]
      | .ldwx d k base => [(i + 2, .word d (BitVec.ofNat 32 (imgWord s l (idx k base))))]
      | _ => []
    else []
  let seen : List (EccMem × Nat) :=
    if runs then
      match o with
      | .ldb _ a => [pointWord 0 a]
      | .edr _ a | .edf _ a => [pointWord 0 a, pointWord offPrev a]
      | .ldp _ a => [pointWord offPrev a]
      | .ldw _ n => [wordWord n]
      | .ldwx _ k base => [wordWord (idx k base)]
      | .stb _ a => [pointWord offDFMask a, pointWord offDFVal a]
      | .stw _ n => maskWords n
      | .stwx _ k base => if idx k base < 64 then [] else maskWords (idx k base)
      | _ => []
    else []
  let st : Option (Bool × Nat × Nat) :=
    if runs then
      match o with
      | .stb b a => some (false, a, b2n (r.bit b))
      | .stw b n => some (true, n, (r.word b).toNat)
      | .stwx b k base => if idx k base < 64 then none else some (true, idx k base, (r.word b).toNat)
      | _ => none
    else none
  let viol : Bool := runs && (match o with | .stwx _ k base => decide (idx k base < 64) | _ => false)
  let s1 := storeExec l s p.store
  let s2 := if viol then rcAddL (setFlagL s1 R.TUM_STAT_IDX_VIOL l) R.IDX_VIOL_CNT_COUNT l else s1
  { p with s := s2, due := p.due ++ load, store := st, seen := p.seen ++ seen }

/-- One bundle (R88, R92, R98 to R101): results due become readable, the four ops read their sources, and their
effects follow. -/
def bundleStep (l : Lane) (tx i : Nat) (p0 : Pass) : Pass :=
  let rf := (p0.due.filter (fun e => decide (e.1 ≤ i))).foldl (fun r e => r.apply e.2) p0.rf
  let p : Pass := { p0 with rf := rf, due := p0.due.filter (fun e => !decide (e.1 ≤ i)) }
  let w0 := r32 p.s (.progStore l) (16 * i)
  let w1 := r32 p.s (.progStore l) (16 * i + 4)
  let w2 := r32 p.s (.progStore l) (16 * i + 8)
  let w3 := r32 p.s (.progStore l) (16 * i + 12)
  let q1 := if opRuns rf w1 then ariExec l tx i w1 w2 p else p
  let logs := (if bits w1 26 21 = 0x22 then [w3] else [w2, w3]).filterMap
    (fun w => if opRuns rf w then logOp w rf else none)
  let seen := [(EccMem.prog, 2 * i), (EccMem.prog, 2 * i + 1)] ++ (if opRuns rf w1 then ariSeen w1 else [])
  let q2 := { q1 with due := q1.due ++ logs.map (fun t => (i + 1, t)), seen := q1.seen ++ seen }
  imgExec l i w0 (opRuns rf w0) rf q2

/-- `n` bundles from bundle `i` up, each once, in ascending order (R89). -/
def runBundles (l : Lane) (tx : Nat) : Nat → Nat → Pass → Pass
  | 0, _, p => p
  | n + 1, i, p => runBundles l tx n (i + 1) (bundleStep l tx i p)

/-- A pass of `n` bundles: every register file starts clear (R91). -/
def passOf (s : State) (l : Lane) (n : Nat) : Pass :=
  runBundles l (rdL s R.TX_LO_TX l + 2 ^ 32 * rdL s R.TX_HI_TX l) n 0 ⟨s, TumRegs.clear, [], none, []⟩

/-- What a whole pass leaves: every store and result completes within it (R104). -/
def passEnd (p : Pass) (l : Lane) : State :=
  let rf := p.due.foldl (fun r e => r.apply e.2) p.rf
  setLane (storeExec l p.s p.store) l (fun x => { x with tum := rf })

/-- A whole pass of `n` bundles. -/
def tumblerPass (s : State) (l : Lane) (n : Nat) : State := passEnd (passOf s l n) l

/-- The errors that a pass meets (R111): words corrected, each counted once in a pass (log entry 97), and whether a word was
uncorrectable. What Tumbler computes from such a word has no effect: the lane is not voted in that scan and then excluded. -/
def passErrors (s : State) (l : Lane) (us : List Upset) (seen : List (EccMem × Nat)) : Nat × Bool :=
  let rs := seen.eraseDups.map (fun w => eccRead s w.1 l w.2 (misread us w.1 w.2))
  ((rs.filter (fun r => match r with | .corrected _ => true | _ => false)).length,
   rs.any (fun r => match r with | .uncorrectable _ => true | _ => false))

end Sys2Proof.Machine
end

