-- ==== Sys2Proof/Machine/Load.lean ====
section
/-!
DEFINITION. The checks of a program load (03 Table 3.8).
-/

namespace Sys2Proof.Machine

/-! ## Program load checks (03 Table 3.8) -/

/-- The three register files by name. -/
inductive RegFileName where
  | b | w | p
  deriving DecidableEq, Repr

/-- A register: its file and index. -/
abbrev RegRef := RegFileName × Nat

/-- What an op names: the file of its destination field (and whether the op also reads it), of its fields a, b, c,
its latency, and the operand bits it uses below its opcode. -/
structure OpShape where
  dst   : Option RegFileName
  dRead : Bool
  dWrite : Bool
  a     : Option RegFileName
  b     : Option RegFileName
  c     : Option RegFileName
  lat   : Nat
  used  : Nat
  deriving DecidableEq, Repr

/-- The bits of a field [hi:lo] as a number. -/
def fieldMask (hi lo : Nat) : Nat := 2 ^ (hi + 1) - 2 ^ lo

/-- The shape of an op of S1 (Table 3.3); bits outside its operand fields are reserved (DEDUCED, log entry 5). -/
def ariShape (opc : Nat) : Option OpShape :=
  let d := fieldMask 20 16
  let a := fieldMask 15 11
  let b := fieldMask 10 6
  let c := fieldMask 5 1
  let w := some RegFileName.w
  let t := some RegFileName.b
  if opc ≤ 0x0F then some ⟨w, false, true, w, w, none, ariLatency opc, d + a + b⟩
  else if opc ≤ 0x15 then some ⟨t, false, true, w, w, none, 1, d + a + b⟩
  else match opc with
  | 0x18 => some ⟨w, false, true, w, w, t, 1, d + a + b + c⟩
  | 0x19 => some ⟨t, false, true, w, none, none, 1, d + a + b⟩
  | 0x1A => some ⟨w, false, true, w, t, none, 1, d + a + b + c⟩
  | 0x1B => some ⟨w, false, true, t, none, none, 1, d + a⟩
  | 0x1C => some ⟨w, false, true, w, none, none, 1, d + a + fieldMask 10 0⟩
  | 0x20 => some ⟨w, false, true, none, none, none, 1, d + fieldMask 15 0⟩
  | 0x21 => some ⟨w, true, true, none, none, none, 1, d + fieldMask 15 0⟩
  | 0x22 => some ⟨w, false, true, none, none, none, 1, d⟩
  | 0x2E => some ⟨none, false, false, none, none, none, 2, fieldMask 10 0⟩
  | 0x2F => some ⟨none, false, false, w, none, none, 2, a + fieldMask 10 0⟩
  | 0x30 => some ⟨w, true, false, w, none, none, 1, d + a + fieldMask 10 0⟩
  | o => if o = 0x28 ∨ o = 0x29 ∨ o = 0x2A ∨ o = 0x2C ∨ o = 0x2D then
      some ⟨t, true, true, w, none, none, 2, d + a + fieldMask 10 0⟩ else none

/-- The shape of an op of S2 or S3 (Table 3.4). -/
def logShape (opc : Nat) : Option OpShape :=
  let d := fieldMask 20 16
  let a := fieldMask 15 11
  let b := fieldMask 10 6
  let c := fieldMask 5 1
  let t := some RegFileName.b
  let p := some RegFileName.p
  if opc ≤ 0x01 then some ⟨t, false, true, t, none, none, 1, d + a⟩
  else if opc ≤ 0x09 then some ⟨t, false, true, t, t, none, 1, d + a + b⟩
  else if opc ≤ 0x0E then some ⟨t, false, true, t, t, t, 1, d + a + b + c⟩
  else if opc ≤ 0x10 then some ⟨t, false, true, none, none, none, 1, d⟩
  else if opc ≤ 0x12 then some ⟨t, true, true, t, t, none, 1, d + a + b⟩
  else if opc = 0x18 ∨ opc = 0x19 then some ⟨p, false, true, t, none, none, 1, fieldMask 19 16 + a⟩
  else if opc = 0x1A ∨ opc = 0x1B then some ⟨p, false, true, t, t, none, 1, fieldMask 19 16 + a + b⟩
  else none

/-- One op of a program as the verifier sees it. -/
structure OpInfo where
  bundle : Nat
  slot   : Nat
  word   : Nat
  reads  : List RegRef
  write  : Option RegRef
  /-- it has a destination register, W0 too (R104) -/
  dest   : Bool
  lat    : Nat
  deriving DecidableEq, Repr

/-- The NOP word of R94. -/
def nopWord : Nat := 0x80000000

/-- An op decoded for the verifier; `none` is a reserved opcode, a reserved bit or a P0 destination (R96). -/
def opInfo (bundle slot w : Nat) : Option OpInfo :=
  let ps := bits w 30 27
  let pr : List RegRef := if ps = 0 then [] else [(.p, ps)]
  if slot = 0 then
    let d := bits w 22 18
    let base : OpInfo := ⟨bundle, 0, w, pr, none, false, 2⟩
    match imgOp w with
    | .reserved => none
    | .ldb .. | .edr .. | .edf .. | .ldp .. => some { base with write := some (.b, d), dest := true }
    | .stb .. => some { base with reads := pr ++ [(.b, d)] }
    | .ldw .. => some { base with write := if d = 0 then none else some (.w, d), dest := true }
    | .stw .. => some { base with reads := pr ++ [(.w, d)] }
    | .ldwx _ i _ => some { base with reads := pr ++ [(.w, i)], write := if d = 0 then none else some (.w, d), dest := true }
    | .stwx _ i _ => some { base with reads := pr ++ [(.w, d), (.w, i)] }
  else
    let opc := bits w 26 21
    match (if slot = 1 then ariShape opc else logShape opc) with
    | none => none
    | some sh =>
      let d := if sh.dst = some .p then bits w 19 16 else bits w 20 16
      let fld (k : Option RegFileName) (i : Nat) : List RegRef := (k.map (fun f => (f, i))).toList
      if (BitVec.ofNat 21 w &&& ~~~ BitVec.ofNat 21 sh.used) ≠ 0 then none
      else if sh.dst = some .p ∧ d = 0 then none
      else some
        ⟨bundle, slot, w,
         pr ++ (if sh.dRead then fld sh.dst d else []) ++ fld sh.a (bits w 15 11) ++ fld sh.b (bits w 10 6)
           ++ fld sh.c (bits w 5 1),
         if sh.dWrite then (match sh.dst with | some .w => if d = 0 then none else some (.w, d) | some f => some (f, d) | none => none)
         else none, sh.dWrite, sh.lat⟩

/-- The slot words of a bundle that are decoded as ops: NOP words and the constant of LDK are not (R94, R99). -/
def bundleOps (ws : List Nat) (i : Nat) : List (Nat × Nat) :=
  let w (k : Nat) : Nat := ws.getD (4 * i + k) 0
  let ldk := bits (w 1) 26 21 = 0x22
  ([(0, w 0), (1, w 1)] ++ (if ldk then [] else [(2, w 2)]) ++ [(3, w 3)]).filter (fun e => e.2 ≠ nopWord)

/-- Every op of a program with the bundle and slot it stands in; `none` where step 8 fails. -/
def programOps (ws : List Nat) (n : Nat) : Option (List OpInfo) :=
  (List.range n).foldr (fun i acc =>
    match acc, (bundleOps ws i).mapM (fun e => opInfo i e.1 e.2) with
    | some l, some o => some (o ++ l)
    | _, _ => none) (some [])

/-- The point or word that a direct image op names: kind, address (R106). -/
def directAddr (w : Nat) : Option (Bool × Nat) :=
  match imgOp w with
  | .ldb _ a | .edr _ a | .edf _ a | .stb _ a => some (false, a)
  | .ldw _ n | .stw _ n => some (true, n)
  | _ => none

/-- The op is a store (R105). -/
def isStore (w : Nat) : Bool := match imgOp w with | .stb .. | .stw .. | .stwx .. => true | _ => false

/-- The timer or counter op of S1: opcode and instance. -/
def instUse (o : OpInfo) : Option (Nat × Nat) :=
  let opc := bits o.word 26 21
  if o.slot = 1 ∧ 0x28 ≤ opc ∧ opc ≤ 0x2F then some (opc, bits o.word 10 0) else none

/-- Steps 8 to 17 of Table 3.8 on the words of the store; 0 where every step passes, else the reason. -/
def verifyOps (ws : List Nat) (n : Nat) (info : ProgInfo) : Nat :=
  match programOps ws n with
  | none => 0x0F
  | some ops =>
  let img := ops.filter (fun o => o.slot = 0)
  let shadow := ops.any (fun o => match o.write with
    | some r => decide (2 ≤ o.lat) && ops.any (fun x => decide (o.bundle < x.bundle ∧ x.bundle < o.bundle + o.lat) && x.reads.contains r)
    | none => false)
  let imgShadow := img.any (fun o => isStore o.word && (match directAddr o.word with
    | some a => img.any (fun x => x.bundle == o.bundle + 1 && !isStore x.word && directAddr x.word == some a)
    | none => false))
  if shadow || imgShadow then 0x08
  else
  let ends := ops.filterMap (fun o => o.write.map (fun r => (o.bundle + o.lat, r)))
  if decide (ends.eraseDups.length < ends.length) then 0x09
  else
  let divs := ops.filter (fun o => o.slot = 1 ∧ (bits o.word 26 21 = 0x06 ∨ bits o.word 26 21 = 0x07))
  if divs.any (fun o => ops.any (fun x => x.slot == 1 && decide (o.bundle < x.bundle ∧ x.bundle ≤ o.bundle + 11))) then 0x0A
  else if ops.any (fun o => (o.dest || (o.slot == 0 && isStore o.word)) && decide (n < o.bundle + o.lat)) then 0x0B
  else if img.any (fun o => match imgOp o.word with
    | .ldw _ k => decide (16384 ≤ k)
    | .stw _ k => decide (16384 ≤ k) || decide (k < 64)
    | .stb _ a => decide (1024 ≤ a ∧ a < 4096)
    | _ => false) then 0x0C
  else
  let uses := ops.filterMap instUse
  let kindOf (o : Nat) : Nat := if o = 0x28 then 1 else if o = 0x29 then 2 else if o = 0x2A then 3 else 8
  let badKind := info.insts.any (fun e => !([0, 1, 2, 3, 8].contains e.1))
  let badUse := uses.any (fun u => match info.insts[u.2]? with | some e => e.1 != kindOf u.1 | none => true)
  let single := uses.filter (fun u => u.1 ≠ 0x2E ∧ u.1 ≠ 0x2F)
  if badKind || badUse || decide (single.eraseDups.length < single.length) then 0x0D
  else
  let hnds := ops.filter (fun o => o.slot = 1 ∧ bits o.word 26 21 = 0x30)
  let slots := info.hnds.map (·.slot)
  if decide (512 < hnds.length) || hnds.any (fun o => !slots.contains (bits o.word 10 0))
    || decide (slots.eraseDups.length < slots.length) then 0x0E
  else 0

/-- The sections of a package at an address of flash (Tables 3.6 and 3.7). -/
def parseInfo (s : State) (r : Region) (base : Nat) : ProgInfo :=
  let h (o : Nat) := r32 s r (base + o)
  { vars := (List.range (h 0x1C)).map (fun i =>
      let a := base + h 0x18 + 8 * i
      let w := r32 s r a
      ⟨bitAt w 31 = 1, bits w 28 24, bits w 17 0, r32 s r (a + 4) % 2 ^ 16⟩)
    insts := (List.range (h 0x24)).map (fun i => let w := r32 s r (base + h 0x20 + 4 * i); (bits w 27 24, bitAt w 0 = 1))
    hnds := (List.range (h 0x2C)).map (fun i =>
      let a := base + h 0x28 + 8 * i
      let w := r32 s r a
      let v := r32 s r (a + 4)
      ⟨bits w 31 16, bits w 10 0, bits v 29 16, bits v 13 0⟩)
    name := rbs s r (base + 0x40) 64 }

/-- The words of a lane's program store, `n` bundles from bundle 0. -/
def storeWords (s : State) (l : Lane) (n : Nat) : List Nat := (List.range (4 * n)).map (fun k => r32 s (.progStore l) (4 * k))

/-- The bytes over which a lane computes the read-back PROG_ID (R132, R134 step 6): the header from 0x10, the bundles as the store
reads, the sections; none where the header's lengths fit no package (steps 2 and 3). -/
def loadBytes (s : State) (l : Lane) (q : LoadReq) : List Byte :=
  let f := Region.flash
  let h (o : Nat) := r32 s f (q.addr + o)
  let n := h 0x10
  let hEnd := h 0x28 + 8 * h 0x2C
  if n = 0 ∨ 65536 < n ∨ q.len < hEnd ∨ hEnd < 0x100 + 16 * n then []
  else rbs s f (q.addr + 0x10) 0xF0 ++ rbs s (.progStore l) 0 (16 * n) ++ rbs s f (q.addr + 0x100 + 16 * n) (hEnd - 0x100 - 16 * n)

/-- The checks of Table 3.8 in order; `okMode` is the first half of step 1. 0 is a pass, else the reason. -/
def loadCheck (s : State) (l : Lane) (q : LoadReq) (okMode : Bool) : Nat :=
  let f := Region.flash
  let h (o : Nat) := r32 s f (q.addr + o)
  let n := h 0x10
  let vEnd := h 0x18 + 8 * h 0x1C
  let iEnd := h 0x20 + 4 * h 0x24
  let hEnd := h 0x28 + 8 * h 0x2C
  if !okMode || rdL s R.TUM_CTRL_LOAD_EN l = 0 then 0x10
  else if h 0x00 ≠ 0x544D424C ∨ r16 s f (q.addr + 4) ≠ 1 ∨ n = 0 ∨ h 0x18 < 0x100 + 16 * n ∨ h 0x20 < vEnd
    ∨ h 0x28 < iEnd ∨ q.len < hEnd then 0x01
  else if r16 s f (q.addr + 6) > 0x60 ∨ n > 65536 ∨ h 0x24 > 2048 ∨ h 0x2C > 2048 then 0x04
  else
  let id := r64 s f (q.addr + 8)
  if crc64 (rbs s f (q.addr + 0x10) (hEnd - 0x10)) ≠ id then 0x02
  else if id ≠ q.progId then 0x03
  else if crc64 (loadBytes s l q) ≠ id then 0x12
  else if h 0x14 ≠ n then 0x05
  else verifyOps (storeWords s l n) n (parseInfo s f q.addr)

/-- Whether a force entry survives a new variable map (R136). -/
def forceKept (vars : List VarEnt) (e : ForceEnt) : Bool :=
  vars.any (fun v => v.addr == e.addr && v.kind == e.word && v.type == e.type)

end Sys2Proof.Machine
end

