-- ==== Sys2Proof/Machine/Lanes.lean ====
section
/-!
DEFINITION. Lanes, lock-step, injection, scrubbing, exclusion, degraded operation and hot repair (chapter 4).
-/

namespace Sys2Proof.Machine

/-- The remainder of the degraded allowance: that of the first admitted lane (R176 to R178). -/
def remainNow (s : State) : Nat := rdL s R.DEG_REMAIN_SECONDS ((firstLane s).getD .x)

/-- The remainder of the degraded allowance is written to the journal (R178); before the journalled remainder has been restored that one
stands, so that removing power never lengthens the allowance. -/
def journalRemain (s : State) : State :=
  if s.degr.known then { s with degr := { s.degr with journalled := remainNow s, due := true } } else s

/-- The remainder is the module's own from here on: restored, or full (R177, R178). -/
def remainKnown (s : State) : State := { s with degr := { s.degr with known := true } }

/-- A hot repair that ends with a reason: the target is fenced again, and the verdict on its request carries the reason (R180,
R190): the request that waits for its step to end, or the COPY accepted. -/
def repairFail (s : State) (reason : Nat) : State :=
  match s.repair.target with
  | none => s
  | some t =>
    let slot := match s.repair.waiting with
      | some w => some w
      | none => if s.repair.copying || (lane s t).candidate then some s.repair.slot else none
    let s0 := lateVerdict s slot reason
    let s1 := setLane s0 t (fun x => { x with fenced := true, candidate := false, admitted := false, held := false, load := none })
    let s2 := wrAll (wrAll s1 R.REPAIR_STAT_STEP 0xF) R.REPAIR_STAT_REASON reason
    syncLanes { s2 with repair := { s2.repair with target := none, waiting := none, copying := false, win := .shut },
                        marks := { s2.marks with upTo := none, dirty := [] } }

/-- An exclusion recorded (R167): the lane is fenced, EXCL holds cause and scan, an injection run that it owes falls away; a lane
that was copied from takes its repair with it (R190). -/
def excludeRecord (s : State) (l : Lane) (cause : Nat) : State :=
  let s1 := setLane s l (fun x => { x with admitted := false, candidate := false, fenced := true, injDue := false,
                                           exclAt := s.time.now + 1 })
  let s2 := wrAll (wrAll s1 R.EXCL_CAUSE cause l.idx) R.EXCL_SCAN (scanNo s) l.idx
  let s3 := if s2.repair.copying && s2.repair.source == l then repairFail s2 0x45 else s2
  if (lane s l).admitted then journalRemain (syncLanes s3) else syncLanes s3

/-- An exclusion and its fault of Table 11.2 (R167, Table 4.4). -/
def excludeOnly (s : State) (l : Lane) (cause : Nat) : State := raiseOn (excludeRecord s l cause) (0x0300 + cause) l.idx l.idx

/-- An exclusion that leaves fewer than two lanes admitted raises 0x031A (R168). -/
def excludeLane (s : State) (l : Lane) (cause : Nat) : State :=
  if (lane s l).admitted then
    let t := excludeOnly s l cause
    if (admittedLanes t).length < 2 then raise t 0x031A 0 else t
  else s

/-- An error of a lane's own checks: an admitted lane is excluded with the cause, a candidate fails its probation, the
target of a repair its repair (R146 to R149, R190). -/
def laneError (s : State) (l : Lane) (cause : Nat) : State :=
  let x := lane s l
  if x.admitted then excludeLane s l cause
  else if x.candidate then repairFail s 0x46
  else if s.repair.target = some l then repairFail s 0x45
  else syncLanes (setLane s l (fun y => { y with fenced := true }))

/-- The comparator and parity checks of a lane report: not while it is fenced, under debug, held or under an
injection run (R147, R152, R193). -/
def checksLive (s : State) (l : Lane) : Bool :=
  let x := lane s l
  !x.fenced && !x.dbgAct && !x.injRun && !x.held

/-- An error flag is already recorded in CMP_STAT. -/
def cmpHolds (s : State) (l : Lane) : Bool :=
  rdL s R.CMP_STAT_MISCOMPARE l + rdL s R.CMP_STAT_RAIL_FAULT l + rdL s R.CMP_STAT_PAR_ERR l ≠ 0

/-- The error now reported falls in the clock of the first one (R150). -/
def cmpSameClock (s : State) (l : Lane) : Bool := cmpHolds s l && rdL s R.CMP_T_TB1 l == tb1 s

/-- The fault of an exclusion just raised takes another cause (R150): event, present flag, lasting condition and last code. -/
def recode (s : State) (l : Lane) (old new : Nat) : State :=
  let f := s.faults
  let evs := f.events.map (fun e => if e.code == 0x0300 + old && e.arg == l.idx && e.tb1 == tb1 s then { e with code := 0x0300 + new } else e)
  let act := Tab.put false (Tab.put false f.active (65536 * (0x0300 + old) + l.idx) false) (65536 * (0x0300 + new) + l.idx) true
  let still := act.any (fun e => e.2 && e.1 / 65536 == 0x0300 + old)
  let pres := Tab.put false (Tab.put false f.present (0x0300 + old) still) (0x0300 + new) true
  let t := wrAll s R.EXCL_CAUSE new l.idx
  { t with faults := { f with events := evs, active := act, present := pres,
                              lastCode := if f.lastCode = 0x0300 + old then 0x0300 + new else f.lastCode } }

/-- The lane was excluded in this clock. -/
def excludedNow (s : State) (l : Lane) : Bool := (lane s l).exclAt == s.time.now + 1

/-- An error of the comparator or a delay register: recorded where it is the first or in the same clock, then acted
on; the exclusion carries the lowest cause of the clock (R150). -/
def cmpError (s : State) (l : Lane) (cause : Nat) (record : State → State) : State :=
  if cmpSameClock s l && (lane s l).fenced then
    let t := record s
    let old := rdL t R.EXCL_CAUSE l l.idx
    if old > cause ∧ excludedNow t l then recode t l old cause else t
  else if checksLive s l then
    let t := if cmpHolds s l then s else wrL (record s) R.CMP_T_TB1 l (tb1 s)
    laneError t l cause
  else s

/-- The groups of Table 4.1 in which a difference vector holds a 1, G0 in bit 0. -/
def diffGroups (d : BitVec 168) : Nat :=
  b2n (d.extractLsb' 0 32 ≠ 0) + 2 * b2n (d.extractLsb' 32 32 ≠ 0) + 4 * b2n (d.extractLsb' 64 64 ≠ 0)
    + 8 * b2n (d.extractLsb' 128 8 ≠ 0) + 16 * b2n (d.extractLsb' 136 32 ≠ 0)

/-- CMP_CAPT holds the difference vector. -/
def capture (s : State) (l : Lane) (d : BitVec 168) : State :=
  wrL ((List.range 5).foldl (fun t n => wrL t R.CMP_CAPT_DIFF l (d.extractLsb' (32 * n) 32).toNat n) s)
    R.CMP_CAPT5_DIFF l (d.extractLsb' 160 8).toNat

/-- CORE_MISCOMPARE (R146): the vectors of the two cores differ. -/
def execCoreMiscompare (l : Lane) (diff : BitVec 168) (s : State) : Answer := whenLive s <|
  .next (if diff = 0 then s
    else cmpError s l 0x01 (fun t => capture (wrL (wrL t R.CMP_STAT_MISCOMPARE l 1)
      R.CMP_STAT_MIS_GRP l (diffGroups diff)) l diff))

/-- COMPARATOR_RAIL_FAULT (R148): an invalid two-rail code in the groups named. -/
def execComparatorRailFault (l : Lane) (groups : BitVec 5) (s : State) : Answer := whenLive s <|
  .next (if groups = 0 then s
    else cmpError s l 0x02 (fun t => wrL (wrL t R.CMP_STAT_RAIL_FAULT l 1) R.CMP_STAT_RAIL_GRP l groups.toNat))

/-- DELAY_REG_PARITY_ERROR (R149) at a location of Table 4.11; of two in the same clock PAR_LOC keeps the one reported first
(DESIGN CHOICE, log entry 99). -/
def execDelayRegParityError (l : Lane) (loc : Fin 54) (s : State) : Answer := whenLive s <|
  .next (cmpError s l 0x03 (fun t => if rdL t R.CMP_STAT_PAR_ERR l = 1 then t
    else wrL (wrL t R.CMP_STAT_PAR_ERR l 1) R.CMP_STAT_PAR_LOC l loc.val))

/-- The scan number modulo 1,024 at which a lane's periodic injection run falls due (R155). -/
def injScan : Lane → Nat
  | .x => 0
  | .y => 341
  | .z => 682

/-- A lane's main core is idle in the wait state: it dozes, or waits for the next freeze. -/
def coreIdle (s : State) (l : Lane) : Bool :=
  let p := rdL s R.SCAN_STAT_PHASE l
  p == 0 || p == 7 || p == 8

/-- The base vector V_p of a pattern (R151): every byte 0x55 for even p, 0xAA for odd p. -/
def injBase (p : Nat) : BitVec 168 := BitVec.ofNat 168 (ofLe (List.replicate 21 (if p % 2 = 0 then 0x55 else 0xAA)))

/-- F_p (R151): 1 in bits p, p + 64 and p + 128, as far as the vector goes. -/
def injDiff (p : Nat) : BitVec 168 := BitVec.ofNat 168 (2 ^ p + 2 ^ (p + 64) + 2 ^ (p + 128))

/-- The location of Table 4.11 whose parity bit a pattern inverts, as a set (R151): output stage floor(p / 21), byte p mod 21, up to
p = 41; input stage floor((p - 42) / 6), half-word (p - 42) mod 6, up to p = 53. -/
def injParity (p : Nat) : BitVec 54 :=
  if p ≤ 41 then BitVec.ofNat 54 (2 ^ (21 * (p / 21) + p % 21))
  else if p ≤ 53 then BitVec.ofNat 54 (2 ^ (42 + 6 * ((p - 42) / 6) + (p - 42) % 6)) else 0

/-- The two-wire codes of five groups (R148), two bits each from G0 up: (1,0) for those of a set, (0,1) for the others. -/
def railCodes (groups : Nat) : BitVec 10 :=
  BitVec.ofNat 10 ((List.range 5).foldl (fun m g => m + 4 ^ g * (if bitAt groups g = 1 then 2 else 1)) 0)

/-- What a sound comparator reports: each rail compares all bits of main and mirror side, each stage its parity. -/
def soundReport (p : Nat) : InjReport :=
  ⟨railCodes (diffGroups (injBase p ^^^ (injBase p ^^^ injDiff p))), injParity p⟩

/-- The report of a pattern in a run. -/
def injReport (odd : List (Fin 64 × InjReport)) (p : Nat) : InjReport :=
  match odd.find? (fun e => e.1.val == p) with
  | some e => e.2
  | none => soundReport p

/-- A pattern passes (R152): (1,0) from every group that holds a differing bit, (0,1) from every other, a parity error at the inverted
location and at no other. -/
def injPass (r : InjReport) (p : Nat) : Bool := r.codes == railCodes (diffGroups (injDiff p)) && r.parity == injParity p

/-- The first failing pattern of a run. -/
def injFail (odd : List (Fin 64 × InjReport)) : Option Nat := (List.range 64).find? (fun p => !injPass (injReport odd p) p)

/-- A lane admitted waits for its run. -/
def injWaits (s : State) (l : Lane) : Bool := (lane s l).admitted && (lane s l).injDue

/-- The window after the commit of the last scan in which a lane may take its run (R155): no other lane's run takes place in it, it is
not that of another lane's scheduled scan, and no lane earlier in the order waits, but for the lane whose scheduled scan it is. -/
def injWindow (s : State) (l : Lane) : Bool :=
  let n := scanNo s % 1024
  !s.scan.isOpen && coreIdle s l && s.scan.injWin != some (scanNo s)
    && Lane.all.all (fun m => m == l || injScan m != n)
    && (injScan l == n || Lane.all.all (fun m => decide (l.idx ≤ m.idx) || !injWaits s m))

/-- The start-up run of a lane may take place (R154): in INIT, once. -/
def injStartup (s : State) (l : Lane) : Bool :=
  (lane s l).started == none && !(lane s l).fenced && !(lane s l).held && s.repair.target != some l

/-- The run of a repair's self-test (Table 4.6): SELFTEST accepted. -/
def injRepair (s : State) (l : Lane) : Bool :=
  s.repair.target == some l && rdL s R.REPAIR_STAT_STEP .x == 2 && s.repair.waiting.isSome

/-- INJECTION_RUN (R153 to R155): the 64-pattern run starts, at start-up, in the lane's window, or in a repair's self-test; it holds
the lane's cores. -/
def execInjectionRun (l : Lane) (s : State) : Answer := whenLive s <|
  .next (if laneClocked s l && !(lane s l).injRun && (injStartup s l || (injWaits s l && injWindow s l) || injRepair s l) then
      let t := setLane s l (fun y => { y with injRun := true, injAt := s.time.now })
      if injWaits s l then { t with scan := { t.scan with injWin := some (scanNo s) } } else t
    else s)

/-- An interrupt that has waited for the end of a run wakes the lane, if nothing has woken it meanwhile (R153, 07 R303). -/
def irqRelease (s : State) (l : Lane) : State :=
  if (lane s l).irqHeld then
    let t := setLane s l (fun y => { y with irqHeld := false, dozing := false })
    if (lane s l).dozing then wrL t R.SCAN_STAT_PHASE l 1 else t
  else s

/-- INJECTION_RUN_END (R152 to R154, R156): after 256 lane clocks, 213.3 ns; FAIL_PAT takes the first failing pattern. The run of a
repair's self-test is judged at REPAIR_SELFTEST_DONE. -/
def execInjectionRunEnd (l : Lane) (odd : List (Fin 64 × InjReport)) (s : State) : Answer := whenLive s <|
  .next (if (lane s l).injRun ∧ (lane s l).injAt + 213 ≤ s.time.now then
      let s1 := irqRelease (setLane s l (fun y => { y with injRun := false, injDue := false })) l
      match injFail odd with
      | none =>
        let s2 := wrL (wrL (wrL s1 R.INJ_STAT_FAIL_PAT l 0xFF) R.INJ_STAT_INJ_AGE l 0) R.INJ_STAT_LATE l 0
        setLane (endCond s2 0x0310 l.idx) l (fun y => { y with started := some true })
      | some p =>
        let s2 := wrL s1 R.INJ_STAT_FAIL_PAT l p
        if s.repair.target = some l ∧ !(lane s l).candidate then s2
        else if (lane s l).started = none then excludeOnly (setLane s2 l (fun y => { y with started := some false })) l 0x0C
        else laneError s2 l 0x04
    else s)

/-- INJECTION_TEST_LATE (R157). -/
def execInjectionTestLate (l : Lane) (s : State) : Answer := whenLive s <|
  .next (if rdL s R.INJ_STAT_INJ_AGE l ≥ 2048 ∧ rdL s R.INJ_STAT_LATE l = 0 then
    raiseOn (wrL s R.INJ_STAT_LATE l 1) 0x0310 l.idx l.idx else s)

/-- INJECTION_TEST_OVERDUE (R157). -/
def execInjectionTestOverdue (l : Lane) (s : State) : Answer := whenLive s <|
  .next (if rdL s R.INJ_STAT_INJ_AGE l ≥ 8192 then excludeLane s l 0x09 else s)

/-- A word corrected by scrubbing or by a read is counted and recorded (R160, 03 R111): lane SRAM, or a memory of Tumbler. An error of a
candidate fails its probation (R189). -/
def eccCorrected (s : State) (l : Lane) (m : EccMem) : State :=
  let t := setLane s l (fun x => { x with candOk := false })
  if m = .sram then raise (rcAddL (setFlagL t R.ECC_STAT_CORR l) R.ECC_CNT_COUNT l) 0x0312 l.idx
  else raise (rcAddL (setFlagL t R.TUM_STAT_ECC_CORR l) R.ECC_CNT_TUM_COUNT l) 0x0201 l.idx

/-- An uncorrectable word: shown, and cause 0x08 (R160, R161). -/
def eccUnc (s : State) (l : Lane) (m : EccMem) (word : Nat) : State :=
  if m = .sram then laneError (wrL (setFlagL s R.ECC_STAT_UNC l) R.ECC_ADDR_WORD l word) l 0x08
  else laneError (setFlagL s R.TUM_STAT_ECC_UNC l) l 0x08

/-- A core or DMA read of a word of lane SRAM (R160): corrected and counted, or a bus error in both cores and an exclusion. -/
def sramRead (l : Lane) (s : State) (word diff : Nat) : State :=
  match eccRead s .sram l word diff with
  | .good _ => s
  | .corrected _ => eccCorrected s l .sram
  | .uncorrectable _ => eccUnc (setLane s l (fun x => { x with busErrs := x.busErrs + 1 })) l .sram word

/-- A word that the scrubber reads: a corrected word is rewritten (R161). -/
def scrubWord (l : Lane) (s : State) (m : EccMem) (word diff : Nat) : State :=
  if laneClocked s l then
    match eccRead s m l word diff with
    | .good _ => s
    | .corrected d => w64 (eccCorrected s l m) (eccRegion m l) (8 * word) d
    | .uncorrectable _ => eccUnc s l m word
  else s

/-- How many words of a sweep come before a memory, and how many it has (R161). -/
def scrubBase : EccMem → Nat
  | .sram => 0
  | .image => 1048576
  | .prog => 1089536
  | .inst => 1220608
  | .force => 1224704
def scrubTotal : Nat := 1226752

/-- The words of a lane's memories in which the scrubber finds something between two places of its sweep, in address order: those whose
stored bits are not a code word, and those that it misreads. -/
def scrubFinds (s : State) (l : Lane) (us : List Upset) (lo hi : Nat) : List (EccMem × Nat) :=
  [EccMem.sram, .image, .prog, .inst, .force].flatMap (fun m =>
    let b := (eccRegion m l).at 0 / 8
    let bad := (Tab.range s.marks.flips b (b + eccWords m)).map (fun e => e.1 - b)
    let mis := ((us.filter (fun u => u.mem == m && u.addr != 0)).map (·.word)).filter (fun w => !bad.contains w)
    ((List.foldl (fun (t : Tab Nat) w => Tab.insert t w 1) [] (bad ++ mis)).filter (fun e =>
      decide (lo ≤ scrubBase m + e.1 ∧ scrubBase m + e.1 < hi))).map (fun e => (m, e.1)))

/-- The place that the sweep of a lane has reached: one word for each 600 MHz clock of window time (R161). -/
def scrubReach (s : State) (l : Lane) : Nat := min scrubTotal ((lane s l).scrubPos + 3 * (lane s l).scrubNs / 5)

/-- The scrubber may work (R161): from the end of the lane's vote to the next freeze, with its cores idle, not in a copy window. -/
def scrubs (s : State) (l : Lane) : Bool :=
  laneClocked s l && !(lane s l).injRun && (!s.scan.isOpen || s.scan.voted.isSome) && coreIdle s l
    && (match s.repair.win with | .isOpen _ => false | _ => true)

/-- The sweep through the five memories goes on as far as its windows have let it, and meets what lies there (R160, R161). One that has
come through is counted, and the next begins. A sweep that has met an uncorrectable word stops there. -/
def scrubOn (s : State) (l : Lane) (us : List Upset) : State :=
  let n := scrubReach s l
  let s1 := (scrubFinds s l us (lane s l).scrubPos n).foldl (fun t w => scrubWord l t w.1 w.2 (misread us w.1 w.2)) s
  let s2 := setLane s1 l (fun x => { x with scrubPos := n % scrubTotal, scrubNs := 0 })
  if n = scrubTotal ∧ laneClocked s1 l then
    let ms := (s.time.now - (lane s l).scrubAt) / 1000000
    let s3 := wrL (wrL s2 R.SCRUB_STAT_SWEEPS l (rdL s2 R.SCRUB_STAT_SWEEPS l + 1)) R.SCRUB_STAT_SWEEP_MS l (min ms 0xFFFF)
    endCond (setLane s3 l (fun x => { x with scrubAt := s.time.now })) 0x0311 l.idx
  else s2

/-- SCRUB_SWEEP (R161, R160): what the scrubber meets in the window that is open, up to now; the close of the window does the same with
what else has befallen the memories (02 R58). -/
def execScrubSweep (l : Lane) (sram image prog tables : List Upset) (s : State) : Answer := whenLive s <|
  .next (let us := sram ++ image ++ prog ++ tables
    if scrubs s l then scrubOn (upset s l us) l us else s)

/-- A lane's first sweep after a reset or a wake begins (R161, R162). -/
def scrubStart (s : State) (l : Lane) : State := setLane s l (fun x => { x with scrubAt := s.time.now })

/-- SCRUB_LATE (R162): 1 s after the sweep began; one event for the sweep. -/
def execScrubLate (l : Lane) (s : State) : Answer := whenLive s <|
  .next (if laneClocked s l && decide ((lane s l).scrubAt + 1000000000 ≤ s.time.now)
      && !Tab.get false s.faults.active (65536 * 0x0311 + l.idx) then
    raiseOn (setFlagL s R.SCRUB_STAT_LATE l) 0x0311 l.idx l.idx else s)

/-- PRISM_SELF_CHECK_FAULT (R171). -/
def execPrismSelfCheckFault (s : State) : Answer := whenLive s <|
  .next (raise (wrAll s R.PRISM_STAT_SELF_FAULT 1) 0x031B 0)

/-- The word of lane `l` in set `k` of the start-up test (R172): sets 0 to 191 differ in one bit of one lane, 64 sets a lane; in the
last four no two lanes agree. What the other lanes hold is not stated: 0, and three neighbouring numbers (DESIGN CHOICE, log entry 100). -/
def testWord (k : Nat) (l : Lane) : BitVec 64 :=
  if k < 192 then (if k / 64 = l.idx then BitVec.ofNat 64 (2 ^ (k % 64)) else 0) else BitVec.ofNat 64 (3 * (k - 192) + l.idx)

/-- The vote of one word among three lanes (R164): what is released and who is excluded. -/
def vote3 (x y z : BitVec 64) : VoteAnswer :=
  if x = y then ⟨some x, if z = x then none else some .z⟩
  else if x = z then ⟨some x, some .y⟩
  else if y = z then ⟨some y, some .x⟩
  else ⟨none, none⟩

/-- What a set must give: the word of the two lanes that agree, and the third lane excluded; nothing where no two agree. -/
def testExpected (k : Nat) : VoteAnswer :=
  if k < 192 then ⟨some 0, Lane.all.find? (fun l => l.idx == k / 64)⟩ else ⟨none, none⟩

/-- What a voter copy answers to a set. -/
def testAnswer (odd : List (Fin 196 × Bool × VoteAnswer)) (k : Nat) (copy : Bool) : VoteAnswer :=
  match odd.find? (fun e => e.1.val == k && e.2.1 == copy) with
  | some e => e.2.2
  | none => vote3 (testWord k .x) (testWord k .y) (testWord k .z)

/-- PRISM_STARTUP_TEST (R172): before the first commit after start-up, both voter copies answer the 196 word sets. -/
def execPrismStartupTest (odd : List (Fin 196 × Bool × VoteAnswer)) (s : State) : Answer := whenLive s <|
  .next (if s.scan.committed then s
    else if (List.range 196).all (fun k => testAnswer odd k false == testExpected k && testAnswer odd k true == testExpected k) then
      wrAll s R.PRISM_STAT_TEST_PASS 1
    else raise s 0x031C 0)

/-- The degraded allowance counts (R176). -/
def degCounting (s : State) : Bool :=
  decide ((admittedLanes s).length = 2) && Lane.all.all (fun l => !(lane s l).dbgAct)
    && (s.modl.power == .run || s.modl.power == .doze)

/-- DEG_ALLOW_TICK (R176): one second. -/
def execDegAllowTick (s : State) : Answer := whenLive s <|
  .next (if degCounting s then wrAll s R.DEG_REMAIN_SECONDS (remainNow s - 1) else s)

/-- DEG_ALLOW_EXPIRED (R179). -/
def execDegAllowExpired (s : State) : Answer := whenLive s <|
  .next (if (admittedLanes s).length = 2 ∧ remainNow s = 0 ∧ s.degr.expired = false then
    raiseOn (syncLanes { s with degr := { s.degr with expired := true } }) 0x0313 0 0 else s)

/-- DEG_REMAIN_JOURNAL (R178): every 60 s of counting. -/
def execDegRemainJournal (s : State) : Answer := whenLive s <| .next (if degCounting s then journalRemain s else s)

/-- A lane is admitted after probation (R189): it takes part in the vote from the next scan; DBG_ACT clears (R193); with three lanes the
allowance is full (R177). -/
def admitLane (s : State) (l : Lane) : State :=
  let s1 := setLane s l (fun x => { x with admitted := true, candidate := false, fenced := false, held := false,
                                           dbgAct := false, portOpen := false, newIn := true })
  let s2 := raise (wrAll s1 R.REPAIR_STAT_STEP 6) 0x0314 l.idx
  let s3 := { s2 with repair := { s2.repair with target := none, waiting := none } }
  let s4 := if (admittedLanes s3).length = 3 then
      endCond { wrAll s3 R.DEG_REMAIN_SECONDS (rdL s3 R.DEG_ALLOW_HOURS ((firstLane s).getD .x) * 3600)
        with degr := { s3.degr with expired := false, known := true } }
        0x0313 0
    else s3
  let s5 := (List.range 16).foldl (fun t c => endCond t (0x0300 + c) l.idx) s4
  journalRemain (syncLanes s5)

/-- The time limit of the step under way, in ns (Table 4.6): RELOAD 2 s, SELFTEST 200 ms; the others have none in time. -/
def stepLimit (s : State) : Option Nat :=
  if s.repair.waiting.isNone then none
  else match rdL s R.REPAIR_STAT_STEP .x with
  | 1 => some 2000000000
  | 2 => some 200000000
  | _ => none

/-- REPAIR_STEP_TIMEOUT (R180): the step under way has passed its time limit and is failed with reason 0x48. -/
def execRepairStepTimeout (s : State) : Answer := whenLive s <|
  .next (match stepLimit s with
    | some n => if s.repair.since + n ≤ s.time.now then repairFail s 0x48 else s
    | none => s)

/-- RELOAD ends with its verdict: 0 does it, a reason refuses it. -/
def stepDone (s : State) (step reason : Nat) : State :=
  let t := lateVerdict s s.repair.waiting reason
  { wrAll t (if reason = 0 then R.REPAIR_STAT_STEP else R.REPAIR_STAT_REASON) (if reason = 0 then step else reason) with
    repair := { s.repair with waiting := none } }

/-- RELOAD_DONE (R182): once the target's load has ended, the PROG_ID that it has computed over its read-back store is compared with that of
the admitted lanes; a load that has failed its checks leaves none. -/
def execReloadDone (s : State) : Answer := whenLive s <|
  .next (match s.repair.target, s.repair.waiting, admittedLanes s with
    | some t, some _, a :: _ =>
      if rdL s R.REPAIR_STAT_STEP .x = 1 ∧ (lane s t).load.isNone then
        stepDone s 2 (if s.repair.readBack = some (rdL s R.PROG_ID_LO_ID a + 2 ^ 32 * rdL s R.PROG_ID_HI_ID a) then 0 else 0x43)
      else s
    | _, _, _ => s)

/-- REPAIR_SELFTEST_DONE (R180, Table 4.6): the injection run has ended, and passed; the march test of the five memories, which leaves
valid check bits, and the self-test of the MX64 have given `pass`. SELFTEST was accepted by its own verdict (01 R36); a failure is a
second one (Table 4.8). -/
def execRepairSelftestDone (pass : Bool) (s : State) : Answer := whenLive s <|
  .next (match s.repair.target, s.repair.waiting with
    | some t, some _ =>
      if rdL s R.REPAIR_STAT_STEP .x = 2 ∧ !(lane s t).injRun then
        if pass ∧ (lane s t).started = some true then
          let u := wrAll (eccClean s t) R.REPAIR_STAT_STEP 3
          { u with repair := { s.repair with waiting := none } }
        else repairFail s 0x44
      else s
    | _, _ => s)

/-- The blocks of the state copy (Table 4.7). -/
def copyBlocks : Nat := 35296

/-- The registers that the copy carries (Table 4.7): every RW and RWS field and every counter of the lane's blocks, an RC counter in
the lane's own copy and in the Keeper's. -/
def copyRegs (s : State) (src dst : Lane) : State :=
  let one (t : State) (r : Row) (a b : Nat) : State := (List.range r.count).foldl (fun u i => wr u r (rd u r a i) b i) t
  (R.table.filter Row.copied).foldl
    (fun t r => if r.acc = .rc then one (one t r src.idx dst.idx) r (4 + src.idx) (4 + dst.idx) else one t r src.idx dst.idx) s

/-- The shared SRAM partition of a lane (01 Table 1.2). -/
def partOf (l : Lane) : Nat := 0x40000 * (l.idx + 1)

/-- The content of the state copy moved whole (Table 4.7). -/
def copyState (s : State) (src dst : Lane) : State :=
  let s1 := copyMem s (.laneSram src) 0 (.laneSram dst) 0 0x800000
  let s2 := copyMem s1 (.image src) 0 (.image dst) 0 0x50000
  let s3 := copyMem s2 (.inst src) 0 (.inst dst) 0 0x8000
  let s4 := copyMem s3 (.forceTab src) 0 (.forceTab dst) 0 0x4000
  let s5 := copyMem s4 .shared (partOf src) .shared (partOf dst) 0x40000
  let j := s5.jrnl
  copyRegs { s5 with time := { s5.time with capRd := Tab.put 0 s5.time.capRd dst.idx (Tab.get 0 s5.time.capRd src.idx) },
                     psl := { s5.psl with lanes := s5.psl.lanes.set dst (s5.psl.lanes.get src) },
                     jrnl := { j with backlog := j.backlog.set dst (j.backlog.get src), prev := j.prev.set dst (j.prev.get src),
                                      resync := j.resync.set dst (j.resync.get src),
                                      drops := j.drops.set dst (j.drops.get src) } } src dst

/-- The address below which the first `n` blocks of the source lie (Table 4.7, in its order: the regions of a lane stand in the memory list
in this order too, and the blocks of its registers after them). -/
def copyAddr (src : Lane) (n : Nat) : Nat :=
  if n < 32768 then (Region.laneSram src).at (256 * n)
  else if n < 34048 then (Region.image src).at (256 * (n - 32768))
  else if n < 34176 then (Region.inst src).at (256 * (n - 34048))
  else if n < 34240 then (Region.forceTab src).at (256 * (n - 34176))
  else if n < 35264 then Region.shared.at (partOf src + 256 * (n - 34240))
  else regAddr src.idx (n - 35264)

/-- A 256-byte block of the memory list, or of the registers, belongs to the source. -/
def copyOwn (src : Lane) (b : Nat) : Bool :=
  [(Region.laneSram src, 0, 0x800000), (.image src, 0, 0x50000), (.inst src, 0, 0x8000), (.forceTab src, 0, 0x4000),
   (.shared, partOf src, 0x40000)].any (fun r => decide (r.1.at r.2.1 ≤ 256 * b ∧ 256 * b < r.1.at r.2.1 + r.2.2))
    || decide (regAddr src.idx 0 ≤ 256 * b ∧ 256 * b < regAddr src.idx 32)

/-- The dirty blocks (R185), in address order. -/
def dirtyBlocks (s : State) : List Nat := (s.marks.dirty.map (·.1)).filter (copyOwn s.repair.source)

/-- What REPAIR_COPY shows. -/
def copyShow (s : State) : State :=
  wrAll (wrAll s R.REPAIR_COPY_DIRTY (dirtyBlocks s).length) R.REPAIR_COPY_FIRST_KIB ((s.repair.first + 3) / 4)

/-- Blocks that the copy path moves in a time: 9.6 B per ns (R183). -/
def copyRate (ns : Nat) : Nat := 3 * ns / 80

/-- The window closes at the start of a freeze (R184): what it has copied of the first pass and then of the dirty blocks is done. -/
def copyClose (s : State) : State :=
  match s.repair.win with
  | .isOpen t0 =>
    let n := copyRate (s.time.now - t0)
    let first := s.repair.first - n
    let done := (dirtyBlocks s).take (n - s.repair.first)
    copyShow { s with repair := { s.repair with first := first, win := .shut },
                      marks := { s.marks with upTo := some (copyAddr s.repair.source (copyBlocks - first)),
                                              dirty := done.foldl (fun t b => Tab.put false t b false) s.marks.dirty } }
  | _ => { s with repair := { s.repair with win := .shut } }

/-- The source lane's DMA engine has no active channel. -/
def dmaIdle (s : State) (l : Lane) : Bool := rd s R.DMA_STAT_BUSY l.idx == 0

/-- A commit leaves a window free while a copy runs, unless the source's DMA engine is still active, or a program load is in progress
in the source (R184, 03 R134). -/
def copyCommit (s : State) : State :=
  if s.repair.copying then
    let ok := dmaIdle s s.repair.source && rdL s R.TUM_STAT_STATE s.repair.source != 2
    { s with repair := { s.repair with win := if ok then .free else .shut } }
  else s

/-- COPY_WINDOW_OPEN (R184, R190), between the source and the target of the repair under way: in the window that a commit has left free,
once the source's core is idle in the wait state, and no program load is in progress in it. After 256 windows the copy is aborted. -/
def execCopyWindowOpen (source target : Lane) (s : State) : Answer := whenLive s <|
  .next (if s.repair.source == source && s.repair.target == some target && s.repair.copying && s.repair.win == .free
        && !s.scan.isOpen && coreIdle s s.repair.source && dmaIdle s s.repair.source && rdL s R.TUM_STAT_STATE s.repair.source != 2 then
      let w := s.repair.windows + 1
      if 256 < w ∨ !(lane s s.repair.source).admitted then repairFail s 0x45
      else copyShow { wrAll s R.REPAIR_STAT_WINDOWS (min w 0xFF) with
                      repair := { s.repair with windows := w, win := .isOpen s.time.now } }
    else s)

/-- COPY_COMPLETE (R185, R186, R188): in an open window that has lasted long enough for every block of the first pass and every dirty
block; with 2 µs of the window left (`room`) the target is released into the wait state and becomes a candidate; without, in the
next window. -/
def execCopyComplete (room : Bool) (s : State) : Answer := whenLive s <|
  .next (match s.repair.target, s.repair.win with
    | some t, .isOpen t0 =>
      if s.repair.first + (dirtyBlocks s).length ≤ copyRate (s.time.now - t0) ∧ room then
        let s1 := copyState { s with marks := { s.marks with upTo := none, dirty := [] } } s.repair.source t
        let s2 := setLane s1 t (fun x => { x with candidate := true, fenced := false, held := false, candOk := true, done := false,
                                                  dozing := false, invalid := none, posted := [], staged := [], scrubAt := s.time.now })
        let s3 := wrL (wrAll (wrAll s2 R.REPAIR_STAT_STEP 5) R.REPAIR_STAT_PROBATION 0) R.SCAN_STAT_PHASE t 8
        copyShow (syncLanes { s3 with repair := { s3.repair with copying := false, first := 0, win := .shut } })
      else s
    | _, _ => s)

/-! ## Prism's vote of one word (04 R164 to R168) -/

/-- No released word: an F4 fault of the vote. -/
def voteFail (s : State) (code : Nat) : State := raise s code 0

/-- The lanes whose words Prism votes: admitted, not invalid for the scan (01 R29), and not admitted only by the last commit (R189). -/
def votingLanes (s : State) : List Lane := (admittedLanes s).filter (fun l => (lane s l).invalid.isNone && !(lane s l).newIn)

/-- A candidate whose word differs from the released value fails its probation (R188, R189). -/
def candidateWord {α : Type} [DecidableEq α] (s : State) (f : Lane → α) (v : α) : State :=
  Lane.all.foldl (fun t l =>
    if (lane t l).candidate ∧ f l ≠ v then setLane t l (fun x => { x with candOk := false }) else t) s

/-- One thing voted (R164, R165): the state after it and what is released, if anything. -/
def voteOne {α : Type} [DecidableEq α] (s : State) (f : Lane → α) : State × Option α :=
  let release (t : State) (v : α) : State × Option α := (candidateWord t f v, some v)
  if s.modl.prismStop then (s, none)
  else
    match votingLanes s with
    | [a, b, c] =>
      if f a = f b then
        if f c = f a then release s (f a) else release (excludeLane s c 0x05) (f a)
      else if f a = f c then release (excludeLane s b 0x05) (f a)
      else if f b = f c then release (excludeLane s a 0x05) (f b)
      else (voteFail s 0x0318, none)
    | [a, b] => if f a = f b then release s (f a) else (voteFail s 0x0319, none)
    | _ => (s, none)

end Sys2Proof.Machine
end

