-- ==== Sys2Proof/Machine/Params.lean ====
section
/-!
DEFINITION. The parameter block of the Deadbolt and its state (07 Tables 7.1, 7.8, 7.9).
-/

namespace Sys2Proof.Machine

/-! ## Parameters (07 Table 7.8) -/

/-- A little-endian field of a list of bytes. -/
def parAt (l : List Byte) (o n : Nat) : Nat := ofLe ((l.drop o).take n)

def axBase (a : Nat) : Nat := 0x50 + 48 * a
def brkBase (b : Nat) : Nat := 0x110 + 24 * b
def axKind (s : State) (a : Nat) : Nat := par s (axBase a) 1
def axBrk (s : State) (a : Nat) : Nat := par s (axBase a + 1) 1
def axMask (s : State) (a : Nat) : Nat := par s (axBase a + 2) 1
def axGate (s : State) (a : Nat) : Nat := par s (axBase a + 3) 1
def axVss (s : State) (a : Nat) : Nat := par s (axBase a + 16) 4
def pairClass (s : State) (p : Nat) : Nat := par s (0x10 + 8 * p) 1
def pairAnti (s : State) (p : Nat) : Bool := par s (0x10 + 8 * p + 1) 1 == 1
/-- SRC of side `i` (terminal SI_i); before the first arming the block reads 0, SRC, T_FILT, T_DISC, CLASS and ANTI with it (DESIGN
CHOICE, log entry 113). -/
def sideSrc (s : State) (i : Nat) : Nat := par s (0x10 + 8 * (i / 2) + 2 + i % 2) 1
/-- T_FILT of side `i`, in ns. -/
def sideFilt (s : State) (i : Nat) : Nat := 100000 * par s (0x10 + 8 * (i / 2) + 4) 1
def msNs (n : Nat) : Nat := 1000000 * n
/-- TP_P and TP_W in ns; before the first arming their defaults of Table 7.8 (DESIGN CHOICE, log entry 113). -/
def tpP (s : State) : Nat := msNs (if par s 0xA 2 = 0 then 100 else par s 0xA 2)
def tpW (s : State) : Nat := 1000 * (if par s 8 2 = 0 then 400 else par s 8 2)

/-- The own windows of the armed block: DIR, START and WIN_LEN (07 Table 7.8). -/
def shutterWindows (s : State) : List (Bool × Nat × Nat) :=
  (List.range (par s 0x142 2)).map (fun w => let v := par s (0x148 + 8 * w) 4; (bitAt v 31 == 1, v % 2 ^ 24, par s (0x14C + 8 * w) 4))

/-- One range of Table 7.8. -/
def within (l : List Byte) (o n lo hi : Nat) : Bool := let v := parAt l o n; decide (lo ≤ v ∧ v ≤ hi)

/-- Windows of a block: START and WIN_LEN. -/
def winsOf (l : List Byte) : List (Nat × Nat) :=
  (List.range (parAt l 0x142 2)).map (fun w => (parAt l (0x148 + 8 * w) 4 % 2 ^ 24, parAt l (0x14C + 8 * w) 4))

/-- Step 3 of Table 7.9: every field within its range. -/
def paramRanges (l : List Byte) : Bool :=
  let holds (b : Nat) := (List.range 4).any (fun a => parAt l (axBase a) 1 == 2 && parAt l (axBase a + 1) 1 == b)
  within l 4 4 125 100000 && within l 8 2 200 1000 && within l 0xA 2 10 1000 && within l 0xC 2 100 1000
  && (List.range 8).all (fun p => let o := 0x10 + 8 * p
      within l o 1 0 3 && within l (o + 1) 1 0 1 && within l (o + 2) 1 0 4 && within l (o + 3) 1 0 4
        && within l (o + 4) 1 0 50 && within l (o + 6) 2 10 2000)
  && (List.range 4).all (fun a => let o := axBase a
      within l o 1 0 2 && (parAt l o 1 == 0 ||
        (within l (o + 1) 1 0 1 && [1, 2, 4, 8].contains (parAt l (o + 3) 1) && within l (o + 4) 4 0 1000000
          && within l (o + 8) 4 1 10000000 && within l (o + 12) 2 0 1000 && within l (o + 14) 2 10 1000
          && within l (o + 16) 4 0 100000 && within l (o + 20) 2 100 60000 && within l (o + 22) 2 0 500
          && within l (o + 24) 2 0 1000)))
  && (List.range 2).all (fun b => let o := brkBase b
      !holds b || (within l o 2 100 2500 && within l (o + 2) 2 200 2500 && within l (o + 4) 2 10 1000
        && within l (o + 6) 2 100 5000 && within l (o + 10) 1 1 168 && within l (o + 11) 1 0 240
        && within l (o + 12) 1 1 60 && decide (parAt l o 2 < parAt l (o + 2) 2)))
  && within l 0x140 2 0 1023 && within l 0x142 2 1 64
  && (List.range (parAt l 0x142 2)).all (fun w => let v := parAt l (0x148 + 8 * w) 4
      decide (v / 2 ^ 24 % 2 ^ 7 = 0) && decide (v % 2 ^ 24 ≤ 16000000) && within l (0x14C + 8 * w) 4 672 65535)

/-- No two holding axes share a BRK_SEL (step 4). -/
def paramBrakes (l : List Byte) : Bool :=
  (List.range 2).all (fun b =>
    decide (((List.range 4).filter (fun a => parAt l (axBase a) 1 == 2 && parAt l (axBase a + 1) 1 == b)).length ≤ 1))

/-- The windows ascend, do not overlap and lie within P_CHK (step 6). -/
def winsOk (limit : Nat) : List (Nat × Nat) → Bool
  | [] => true
  | [w] => decide (w.1 + w.2 ≤ limit)
  | w :: v :: t => decide (w.1 + w.2 ≤ limit) && decide (w.1 < v.1) && decide (w.1 + w.2 ≤ v.1) && winsOk limit (v :: t)

/-- PERR of the first failing step of Table 7.9, 0 where every step passes. -/
def paramCheck (l : List Byte) : Nat :=
  if l.length ≠ 1024 ∨ parAt l 0 4 ≠ 0x44425031 then 1
  else if crc32c (l.take 0x3FC) ≠ parAt l 0x3FC 4 then 2
  else if !paramRanges l then 3
  else if !paramBrakes l then 4
  else if (List.range 8).any (fun p => let a := parAt l (0x12 + 8 * p) 1; a != 0 && a == parAt l (0x13 + 8 * p) 1) then 5
  else if !winsOk (1000 * parAt l 4 4) (winsOf l) then 6
  else 0

/-! ## Access to the Deadbolt's state -/

def AxisSt.zero : AxisSt := ⟨0, 0, 0, 0, false, false, false, 0, false, false⟩
def SideSt.zero : SideSt := ⟨false, false, false, 0, 0⟩
def SPairSt.zero : SPairSt := ⟨.fromOpen, 0, 0⟩
def PulseSt.zero : PulseSt := ⟨false, 0, 0, 0, 0⟩

def axSt (s : State) (a : Nat) : AxisSt := Tab.get AxisSt.zero s.db.axes a
def setAx (s : State) (a : Nat) (f : AxisSt → AxisSt) : State :=
  { s with db := { s.db with axes := Tab.put AxisSt.zero s.db.axes a (f (axSt s a)) } }
def siSt (s : State) (i : Nat) : SideSt := Tab.get SideSt.zero s.db.sides i
def setSi (s : State) (i : Nat) (f : SideSt → SideSt) : State :=
  { s with db := { s.db with sides := Tab.put SideSt.zero s.db.sides i (f (siSt s i)) } }
def spSt (s : State) (p : Nat) : SPairSt := Tab.get SPairSt.zero s.db.pairs p
def setSp (s : State) (p : Nat) (f : SPairSt → SPairSt) : State :=
  { s with db := { s.db with pairs := Tab.put SPairSt.zero s.db.pairs p (f (spSt s p)) } }
def pulseSt (s : State) (j : Nat) : PulseSt := Tab.get PulseSt.zero s.db.pulses j
def setPulse (s : State) (j : Nat) (f : PulseSt → PulseSt) : State :=
  { s with db := { s.db with pulses := Tab.put PulseSt.zero s.db.pulses j (f (pulseSt s j)) } }

/-- States of the Deadbolt (Table 7.1). -/
def dbReset : Nat := 0
def dbSelftest : Nat := 1
def dbConfig : Nat := 2
def dbArmedSt : Nat := 3
def dbFaultSt : Nat := 0xF
def dbState (s : State) : Nat := rd s R.DB_STAT_STATE
def dbArmed (s : State) : Bool := dbState s == dbArmedSt
/-- The Deadbolt's logic runs: neither in RESET nor in FAULT. -/
def dbLive (s : State) : Bool := dbState s == dbSelftest || dbState s == dbConfig || dbState s == dbArmedSt

/-- States of an axis (Table 7.12). -/
def axSafe : Nat := 0
def axReleased : Nat := 1
def axStopping : Nat := 2
def axLocked : Nat := 3
def axState (s : State) (a : Nat) : Nat := rd s R.AXIS_STAT_STATE 0 a
def axIdx : List Nat := [0, 1, 2, 3]
def brkIdx : List Nat := [0, 1]

/-- Every axis is SAFE. -/
def axesSafe (s : State) : Bool := axIdx.all (fun a => axState s a == axSafe)
/-- No axis is RELEASED or STOPPING (R427). -/
def axesStill (s : State) : Bool := axIdx.all (fun a => axState s a == axSafe || axState s a == axLocked)
/-- |v| of an encoder. -/
def absV (s : State) (a : Nat) : Nat := (toSigned 32 (rd s R.ENC_SPD_V 0 a)).natAbs
def vgdOk (s : State) : Bool := rd s R.DB_STAT_VGD_OK == 1

/-- The holding axis that uses a brake (R319). -/
def brkAxis (s : State) (b : Nat) : Option Nat := axIdx.find? (fun a => axKind s a == 2 && axBrk s a == b)

/-! ## Validity of the bases (09 R365, Table 9.1) -/

/-- Luosh states in which TB[0] is valid. -/
def tb0Driven (s : State) : Bool := decide (2 ≤ rd s R.LU_STAT_STATE)

/-- TB_STAT.VALID follows the conditions of Table 9.1. -/
def timeSync (s : State) : State :=
  let p := s.time.pll
  let b0 := p && tb0Driven s
  wr s R.TB_STAT_VALID (b2n b0 + 2 * b2n p + 4 * b2n (p && s.time.v2)
    + 8 * b2n (p && rd s R.TB3_CTRL_EN == 1 && (rd s R.TB3_CTRL_REF == 1 || b0)))

end Sys2Proof.Machine
end

