-- ==== Sys2Proof/Machine/Luosh.lean ====
section
/-!
DEFINITION. The Luosh network and the Shutter: schedule, links, frames, node states (chapter 5).
-/

namespace Sys2Proof.Machine

/-! ## Schedule objects (14 "Transfers and flash", 05 Tables 5.5 and 5.6) -/

/-- A slot table entry of an object, and whether its reserved bits are 0 (Table 5.5). -/
def slotOf (b : List Byte) : SlotEnt × Bool :=
  let w (k : Nat) := leAt b (4 * k) 4
  (⟨w 0 % 2 ^ 24, w 1 % 2 ^ 16, bits (w 2) 31 30, bitAt (w 2) 29 = 1, bitAt (w 2) 28 = 1, bits (w 2) 25 16, bits (w 2) 10 0⟩,
   bits (w 0) 31 24 == 0 && bits (w 1) 31 16 == 0 && bits (w 2) 27 26 == 0 && bits (w 2) 15 11 == 0 && w 3 == 0)

/-- A station table entry of an object, and whether its reserved bits are 0 (Table 5.6). -/
def stnOf (b : List Byte) : StnEnt × Bool :=
  let w (k : Nat) := leAt b (4 * k) 4
  (⟨bitAt (w 0) 31 = 1, bitAt (w 0) 30 = 1, bits (w 0) 27 16, bits (w 0) 15 0, bits (w 1) 30 16, bits (w 1) 10 0,
    bits (w 2) 29 16, bits (w 2) 10 0, bits (w 3) 27 16, bits (w 3) 10 0, bits (w 4) 30 16, bits (w 4) 10 0,
    bits (w 5) 29 16, bits (w 5) 10 0⟩,
   bits (w 0) 29 28 == 0 && bitAt (w 1) 31 == 0 && bits (w 1) 15 11 == 0 && bits (w 2) 31 30 == 0 && bits (w 2) 15 11 == 0
     && bits (w 3) 31 28 == 0 && bits (w 3) 15 11 == 0 && bitAt (w 4) 31 == 0 && bits (w 4) 15 11 == 0
     && bits (w 5) 31 30 == 0 && bits (w 5) 15 11 == 0 && w 6 == 0 && w 7 == 0)

/-- A schedule object: its header words, slot and station entries. -/
structure SchedObj where
  ctrl   : Nat
  node   : Nat
  cold   : Nat
  cycle  : Nat
  win    : Nat
  timers : Nat
  cnt    : Nat
  id     : Nat
  slots  : List SlotEnt
  stns   : List StnEnt
  /-- the header's, the slot table's and the station table's reserved bits are 0; the object has the length its parts give -/
  hdrOk  : Bool
  slotOk : Bool
  stnOk  : Bool
  lenOk  : Bool

/-- The object that bytes spell (14 "Transfers and flash"). -/
def schedObj (b : List Byte) : SchedObj :=
  let h (k : Nat) := leAt b (4 * k) 4
  let cnt := min (h 6) 4096
  let sl := (List.range cnt).map (fun i => slotOf ((b.drop (64 + 16 * i)).take 16))
  let st := (List.range 1024).map (fun i => stnOf ((b.drop (64 + 16 * cnt + 32 * i)).take 32))
  { ctrl := h 0, node := h 1, cold := h 2, cycle := h 3, win := h 4, timers := h 5, cnt := h 6, id := h 7,
    slots := sl.map (·.1), stns := st.map (·.1),
    hdrOk := bits (h 0) 31 6 == 0 && bitAt (h 0) 3 == 0 && bitAt (h 0) 1 == 0 && h 1 / 2 ^ 10 == 0 && h 3 / 2 ^ 14 == 0
      && h 4 / 2 ^ 9 == 0 && bits (h 5) 23 20 == 0 && bits (h 5) 15 12 == 0 && bits (h 5) 7 6 == 0 && h 6 / 2 ^ 13 == 0
      && ((b.drop 32).take 32).all (· == 0)
    slotOk := sl.all (·.2), stnOk := st.all (·.2), lenOk := b.length == 64 + 16 * cnt + 32768 }

/-- The spare slots in slot order: the place in this list is the spare index (R211). -/
def spareSlots (s : State) : List Nat := (slotNums s).filter (fun n => (slotEnt s n).kind == 2)

/-- The spare index of a slot. -/
def spareIdx (s : State) (slot : Nat) : Option Nat := (spareSlots s).idxOf? slot

/-- The station table entry that maps a spare slot (R213). -/
def spareTemplate (s : State) (slot : Nat) : Option Nat :=
  (stations s).find? (fun n => (stnEnt s n).spare && (stnEnt s n).inSlot == slot)

/-- A spare index is occupied (OCC). -/
def occupied (s : State) (i : Nat) : Bool := bitAt (rd s R.OCC_OCC 0 (i / 32)) (i % 32) = 1

/-- OCC and SPARE_STAT of one spare index; the count of its idle cycles begins anew (R247). -/
def setOcc (s : State) (i : Nat) (occ : Bool) (node : Nat) : State :=
  let w := rd s R.OCC_OCC 0 (i / 32)
  let w' := if occ then (if bitAt w (i % 32) = 1 then w else w + 2 ^ (i % 32))
            else (if bitAt w (i % 32) = 1 then w - 2 ^ (i % 32) else w)
  let t := wr (wr (wr s R.OCC_OCC w' 0 (i / 32)) R.SPARE_STAT_OCC (b2n occ) 0 i) R.SPARE_STAT_OCCUPANT
    (if occ then node else rd s R.SPARE_STAT_OCCUPANT 0 i) 0 i
  { t with luosh := { t.luosh with idle := Tab.put 0 t.luosh.idle i 0 } }

/-- T_C in ns. -/
def cycleNs (s : State) : Nat := 1000 * rd s R.LU_CYCLE_CYCLE_US

/-- T_UC and T_D of the schedule, in ns after the cycle start (R212). -/
def tUC (s : State) : Nat :=
  (slotNums s).foldl (fun m n => let e := slotEnt s n; if e.dn then m else max m (e.start + e.slen)) 0
def tDn (s : State) : Nat :=
  match (slotNums s).find? (fun n => (slotEnt s n).dn) with
  | some n => (slotEnt s n).start
  | none => cycleNs s

/-- Wire time of a payload in ns (R209). -/
def wireNs (plen : Nat) : Nat := 8 * (max (plen + 34) 64 + 20)

/-- The line of a port: ports 0 and 1 on A, 2 and 3 on B (R197); true is line B. -/
def portLine (p : Fin 4) : Bool := decide (2 ≤ p.val)

/-- The other port of the same line. -/
def otherPort (p : Fin 4) : Fin 4 :=
  match p with
  | 0 => 1
  | 1 => 0
  | 2 => 3
  | 3 => 2

/-- Index of a line in LINE_CNT. -/
def lineIdx (b : Bool) : Nat := b2n b

/-- The port may forward and originate: link up and measured (R205), its line selected in LU_CTRL.LINES. -/
def portReady (s : State) (p : Fin 4) : Bool :=
  rd s R.PORT_LINK 0 p.val == 1 && bitAt (rd s R.LU_CTRL_LINES) (lineIdx (portLine p)) == 1

/-- All four ports. -/
def allPorts : List (Fin 4) := [0, 1, 2, 3]

/-- Node states of Table 5.10. -/
def luOff : Nat := 0
def luListen : Nat := 1
def luStartup : Nat := 2
def luSync : Nat := 3
def luActive : Nat := 4
def luMaster : Nat := 5

/-- LU_STAT.STATE. -/
def luState (s : State) : Nat := rd s R.LU_STAT_STATE

/-- The own node ID. -/
def ownNode (s : State) : Nat := rd s R.LU_NODE_NODE_ID

/-- The coldstart nodes in ascending order (LU_COLD). -/
def coldNodes (s : State) : List Nat :=
  [rd s R.LU_COLD_COLD0, rd s R.LU_COLD_COLD1, rd s R.LU_COLD_COLD2].take (rd s R.LU_COLD_COUNT)

/-- The succession position under a master: 0 master, 1 or 2, 3 not a coldstart node (R239). -/
def position (s : State) (master : Nat) : Nat :=
  if ownNode s = master then 0
  else match ((coldNodes s).filter (· ≠ master)).idxOf? (ownNode s) with
  | some i => i + 1
  | none => 3

/-- The bases that the Luosh controller drives follow its state (09 Table 9.1). -/
def luReady (s : State) : State := timeSync s

/-- D of each line is taken by the Shutter, or rejected (R255); HOP is that of the last CS frame, 0 where there was none (DESIGN CHOICE, log
entry 149). -/
def shutterD (s : State) : State :=
  let ok (d hop : Nat) : Bool := decide ((d : Int) - 320 * hop ≤ 16 * hop + 100 ∧ 320 * (hop : Int) - d ≤ 16 * hop + 100)
  let a := rd s R.LU_PATH_A_D_NS
  let b := rd s R.LU_PATH_B_D_NS
  let okA := ok a s.luosh.hopA
  let okB := ok b s.luosh.hopB
  let s1 := if okA then s else rcAdd s R.SH_REJ_D_REJ
  let s2 := if okB then s1 else rcAdd s1 R.SH_REJ_D_REJ
  { s2 with luosh := { s2.luosh with shD := (if okA then a else s.luosh.shD.1, if okB then b else s.luosh.shD.2) } }

/-- The node enters a state (Table 5.10): in LISTEN the listen timeout begins to count (R235, R236), and at each entry to ACTIVE the
Shutter takes D (R255). Grants, releases and the count of idle cycles are the master's (R245 to R247). -/
def luEnter (s : State) (st : Nat) : State :=
  let t := luReady (wr { (if st = luMaster then s else endCond s 0x0405 0) with
    luosh := { s.luosh with grants := [], releases := [], idle := [] } } R.LU_STAT_STATE st)
  if st = luListen then { t with luosh := { t.luosh with listenAt := t.time.now } } else if st = luActive then shutterD t else t

/-- The master register and the own position. -/
def setMaster (s : State) (m late : Nat) : State :=
  wr (wr (wr s R.LU_MASTER_MASTER_ID m) R.LU_MASTER_LATE_NS late) R.LU_STAT_POSITION (position s m)

/-- Network time moved to a value; TB[0] shows it modulo 2³² in steps of 4 ns (R218, 09 R366, R369). -/
def setNet (s : State) (n : Nat) : State :=
  let v := n % 2 ^ 64
  { wr s R.TB_VAL_NS (v % 2 ^ 32 - v % 4) 0 0 with luosh := { s.luosh with net := v } }

/-- TB[0] set to network time, STEP0 counted (09 R369). -/
def tb0Set (s : State) (n : Nat) : State := let t := setNet s n; wr t R.TB_STAT_STEP0 (rd s R.TB_STAT_STEP0 + 1)

/-- S_0 of the current cycle. -/
def s0 (s : State) : Nat := rd s R.LU_TIME_LO_TIME + 2 ^ 32 * rd s R.LU_TIME_HI_TIME

/-- S_0 of the next cycle (R218). -/
def s0Next (s : State) : Nat := s0 s + cycleNs s

/-- The start of a slot of the current cycle in network time (R218). -/
def slotTime (s : State) (n : Nat) : Nat := s0 s + (slotEnt s n).start

/-- Network time has come to a point, and lies at most 8 ns beyond it (R219). -/
def atNet (s : State) (due : Int) : Bool := decide (due ≤ s.luosh.net ∧ (s.luosh.net : Int) ≤ due + 8)

/-- A line restored by a valid frame (R231). -/
def lineUp (s : State) (b : Bool) : State :=
  let row := if b then R.LU_STAT_LINE_B else R.LU_STAT_LINE_A
  if rd s row = 1 then s else luReady (endCond (raise (wr s row 1) 0x0402 (b2n b)) 0x0401 (b2n b))

/-- A frame has come on a line that keeps the line from being lost: a valid CS frame, for the master any valid frame (R231). -/
def lineSeen (s : State) (b : Bool) : State :=
  lineUp { s with luosh := if b then { s.luosh with seenB := true } else { s.luosh with seenA := true } } b

/-- A node leaves to LISTEN (Table 5.10). -/
def luToListen (s : State) : State := luEnter { s with luosh := { s.luosh with taken := none, mute := false, oow := false, oowNext := false } } luListen

/-- Departure after drift (R229). -/
def luLeave (s : State) : State :=
  raise (rcAdd (luToListen { wr s R.LU_STAT_OOW_RUN 0 with luosh := { s.luosh with holdoff := true, holdAt := s.time.now } })
    R.LU_EVT_REJOIN) 0x0406 (ownNode s)

/-- An out-of-window event of the cycle under way, counted once (R228); after the third such cycle in a row the node leaves (R229). -/
def oowNow (s : State) : State :=
  if s.luosh.oow then s
  else
    let n := rd s R.LU_STAT_OOW_RUN + 1
    let t := { wr s R.LU_STAT_OOW_RUN n with luosh := { s.luosh with oow := true } }
    if n ≥ 3 then luLeave t else t

/-- An out-of-window event of a node in ACTIVE, one for a cycle (R228, R229); once the next cycle has begun by the own clock it is that
cycle's. -/
def oowEvent (s : State) : State :=
  if s0Next s ≤ s.luosh.net then { s with luosh := { s.luosh with oowNext := true } } else oowNow s

/-! ## The schedule in use (R216, R217) -/

/-- The measurement of a port (R205). -/
def portSt (s : State) (p : Fin 4) : PortSt := Tab.get ⟨false, 0, 0, 0, 0⟩ s.luosh.ports p.val

/-- The state with the measurement of a port set. -/
def setPort (s : State) (p : Fin 4) (v : PortSt) : State :=
  { s with luosh := { s.luosh with ports := Tab.put ⟨false, 0, 0, 0, 0⟩ s.luosh.ports p.val v } }

/-! ## Frames (R206 to R209) -/

/-- Bytes 0 to 11 of the Luosh header, big-endian (Table 5.1); `resv` holds its reserved bits from byte 0 on. -/
def headerBytes (f : Frame) : List Byte :=
  [BitVec.ofNat 8 (16 * (f.ver % 16) + f.kind % 16),
   BitVec.ofNat 8 (128 * b2n f.ov + 64 * b2n f.repeat_ + 32 * b2n f.dir + bits f.resv 25 21)]
    ++ beBytes 2 (1024 * bits f.resv 20 15 + f.node % 1024) ++ beBytes 2 (4096 * bits f.resv 14 11 + f.slot % 4096)
    ++ beBytes 4 f.cycle ++ beBytes 2 (2048 * bits f.resv 10 6 + f.plen % 2048)

/-- The bytes of a frame from the destination address to the last before the FCS (R206, R207). -/
def frameBytes (f : Frame) : List Byte :=
  beBytes 6 f.dst ++ beBytes 6 f.src ++ beBytes 2 f.etype ++ headerBytes f ++ beBytes 2 f.hchk
    ++ beBytes 2 (1024 * bits f.resv 5 0 + f.hop % 1024) ++ f.body

/-- The header check (R208) and the frame check sequence that a frame's bytes give. -/
def hchkOf (f : Frame) : Nat := crc16 (headerBytes f)
def fcsOf (f : Frame) : Nat := crc32 (frameBytes f)

/-- HCHK right; FCS right. -/
def hchkOk (f : Frame) : Bool := f.hchk == hchkOf f
def fcsOk (f : Frame) : Bool := f.fcs == fcsOf f

/-- The payload of a frame. -/
def payloadOf (f : Frame) : List Byte := f.body.take f.plen

/-- A frame of a node as it leaves: addresses and EtherType of R206, HOP 0, pad bytes up to 64 B, both checks. -/
def nodeFrame (node kind slot cycle : Nat) (dir ov rep : Bool) (payload : List Byte) : Frame :=
  let f : Frame :=
    { dst := 0x034C53000000, src := 0x024C53000000 + node, etype := 0x88B5, ver := 1, kind := kind, ov := ov, repeat_ := rep, dir := dir,
      node := node, slot := slot, cycle := cycle, plen := payload.length, hchk := 0, hop := 0, resv := 0,
      body := payload ++ List.replicate (30 - payload.length) 0, fcs := 0 }
  let g := { f with hchk := hchkOf f }
  { g with fcs := fcsOf g }

/-- A frame of the own node in the current cycle. -/
def ownFrame (s : State) (kind slot : Nat) (dir ov rep : Bool) (payload : List Byte) : Frame :=
  nodeFrame (ownNode s) kind slot (rd s R.LU_CYCLE_NUM_CYCLE) dir ov rep payload

/-- After the cycle in which PARK_ARM was set the controller sends nothing (12 R451). -/
def parkQuiet (s : State) : Bool :=
  rd s R.PWR_STAT_PARK_ARM == 1 && !(decide (luSync ≤ luState s) && s.luosh.cyc == s.aon.armCyc && decide (s.luosh.net < s0Next s))

/-- A frame leaves on a port, which is busy with it up to its end (R204). -/
def portSend (s : State) (p : Fin 4) (f : Frame) : State :=
  if parkQuiet s then s
  else
  let t := { s with luosh := { s.luosh with txEnd := Tab.put 0 s.luosh.txEnd p.val (s.time.now + wireNs f.plen - 96) } }
  emit t (.luosh p f)

/-- The port is originating a frame (R204). -/
def portBusy (s : State) (p : Fin 4) : Bool := decide (s.time.now < Tab.get 0 s.luosh.txEnd p.val)

/-! ## The Shutter (R253 to R256) -/

/-- A cycle of the Shutter's slot timer, in ns of the module's own time: 20 MHz ticks, scaled by the cycle measured (R254). -/
def shutterCycle (s : State) : Int := if s.luosh.shTicks = 0 then cycleNs s else 50 * s.luosh.shTicks

/-- How far now lies from a time `rel` ns after a cycle start, by the Shutter's timer: the nearest such time of any cycle (R254). -/
def shutterOff (s : State) (rel : Int) : Int :=
  let c := shutterCycle s
  let due := rel * c / (cycleNs s : Int)
  ((s.time.now : Int) - s.luosh.shAt - due + c / 2) % c - c / 2

/-- D that the Shutter holds for a line. -/
def shutterPath (s : State) (b : Bool) : Nat := if b then s.luosh.shD.2 else s.luosh.shD.1

/-- The due start of a window on a line, from the cycle start that the Shutter's timer restarted at, S_0 + D of its line (R219, R220):
the cycle-start frame leaves at S + D by every port. -/
def windowDue (s : State) (b : Bool) (w : Bool × Nat × Nat) : Int :=
  let d : Int := shutterPath s b
  w.2.1 + (if w.1 ∨ w.2.1 = (slotEnt s 0).start then d else -d) - shutterPath s s.luosh.shLine

/-- A window that opens 500 ns before its due start and closes 500 ns after due start + WIN_LEN takes in a frame that starts now (R253). -/
def shutterOpen (s : State) (b : Bool) (ns : Nat) (w : Bool × Nat × Nat) : Bool :=
  let x := shutterOff s (windowDue s b w)
  decide (-500 ≤ x ∧ x + ns ≤ 500 + w.2.2)

/-- The Shutter lets a frame of a slot leave on a line (R253): within a window of the armed parameters. The first cycle start after reset
is always taken, where slot 0 has a window (R254). -/
def shutterAllows (s : State) (slot : Nat) (b : Bool) : Bool :=
  s.db.armedOnce && (if s.luosh.shFirst then
      (shutterWindows s).any (shutterOpen s b (wireNs (if slot = 0 then 128 else (slotEnt s slot).plen)))
    else slot == 0 && (shutterWindows s).any (fun w => w.2.1 == (slotEnt s 0).start))

/-- A blocked transmission (R253, R256): counted for the lines of the ports; as master the third consecutive blocked cycle raises
F3 0x0405, whose condition lasts until a cycle passes without a blocked frame or the node is master no more (11 R417); as a station it is an
out-of-window event. -/
def shutterBlock (s : State) (ports : List (Fin 4)) (csOrDn : Bool) : State :=
  let s1 := ports.foldl (fun t p => rcAdd t R.LINE_SH_BLOCK 1 (lineIdx (portLine p))) s
  if ports.isEmpty then s
  else if luState s = luMaster then
    if csOrDn then
      let s2 := { s1 with luosh := { s1.luosh with shBlocked := true } }
      if s.luosh.shRun ≥ 2 ∧ s.luosh.shBlocked = false then raiseNew s2 0x0405 0 0 else s2
    else s1
  else if luState s = luActive then oowEvent s1 else s1

/-- The Shutter's timer restarts at a cycle start on a line, or rejects one more than 2 µs off where D of that line puts it; a second one
in its cycle is not the first (R254). -/
def shutterStart (s : State) (b : Bool) : State :=
  let other : Int := shutterPath s b - shutterPath s s.luosh.shLine
  let x := shutterOff s other
  let d : Int := (s.time.now : Int) - s.luosh.shAt - other
  let n : Int := (d + shutterCycle s / 2) / shutterCycle s
  if !s.luosh.shFirst then
    wr (wr (wr { s with luosh := { s.luosh with shFirst := true, shAt := s.time.now, shLine := b } } R.SH_STAT_SYNC 1) R.SH_STAT_MASTER
      (b2n (luState s == luMaster))) R.SH_STAT_TICKS 0
  else if x > 2000 ∨ x < -2000 then rcAdd s R.SH_REJ_CS_REJ
  else if n ≤ 0 then s
  else
    let ticks := (d / (50 * n)).toNat
    wr (wr { s with luosh := { s.luosh with shAt := s.time.now, shLine := b, shTicks := ticks } } R.SH_STAT_MASTER
      (b2n (luState s == luMaster))) R.SH_STAT_TICKS ticks

/-- For the first 2 ms after its link has come up a port transmits freely (R253). -/
def linkFree (s : State) (p : Fin 4) : Bool := decide (s.time.now < (portSt s p).upAt + 2000000)

/-! ## Link measurement (R205) -/

/-- The payload of a LINK frame (Table 5.4). -/
def linkPayload (turn : Nat) (response : Bool) : List Byte := beBytes 4 turn ++ beBytes 1 (b2n response) ++ beBytes 3 0

/-- A LINK frame leaves, through the Shutter. -/
def linkSend (s : State) (p : Fin 4) (turn : Nat) (response : Bool) : State :=
  if linkFree s p then portSend s p (nodeFrame (ownNode s) 6 0 0 false false false (linkPayload turn response)) else shutterBlock s [p] false

/-- The exchange of 16 LINK frames starts on a port whose link is up. -/
def linkStart (s : State) (p : Fin 4) : State :=
  linkSend (wr (setPort s p ⟨true, 0, 0, s.time.now, s.time.now⟩) R.PORT_LINK 0 0 p.val) p 0 false

/-- LINK_UP (R205, R253): the exchange starts; in OFF nothing is transmitted (Table 5.10). -/
def execLinkUp (p : Fin 4) (s : State) : Answer := whenLive s <|
  .next (if luState s = luOff then setPort s p ⟨true, 0, 0, s.time.now, 0⟩ else linkStart s p)

/-- VER, KIND and HCHK right. -/
def headerOk (f : Frame) : Bool := f.ver == 1 && hchkOk f && decide (1 ≤ f.kind ∧ f.kind ≤ 6)

/-- A frame with a wrong FCS on a line (Table 5.18, 18 Table 18.2). -/
def fcsCount (s : State) (b : Bool) : State := hingeCount (rcAdd s R.LINE_FCS_ERR 1 (lineIdx b)) 0x26

/-- LINK_FRAME_RX (R205): a request is answered with the own turn-around time; a response gives one sample, the round trip less the
neighbour's turn-around. -/
def execLinkFrameRx (p : Fin 4) (f : Frame) (sub : Fin 4) (turn : Nat) (s : State) : Answer := whenLive s <|
  .next (let q := portSt s p
    let d := payloadOf f
    if luState s = luOff ∨ q.up = false then s
    else if !fcsOk f then fcsCount s (portLine p)
    else if !headerOk f ∨ f.kind ≠ 6 then rcAdd s R.LINE_HCHK_ERR 1 (lineIdx (portLine p))
    else if d.getD 4 0 = 1 then
      if q.samples < 16 then
        let t := setPort s p { q with samples := q.samples + 1, sum := q.sum + (s.time.now + sub.val - q.reqAt - ofBe (d.take 4)),
                                      reqAt := s.time.now }
        if q.samples + 1 < 16 then linkSend t p 0 false else t
      else s
    else linkSend s p turn true)

/-- LINK_MEASURED (R205): after 16 samples the port may forward and originate; the mean of half their sum, to the nearest ns (DESIGN
CHOICE, log entry 32). -/
def execLinkMeasured (p : Fin 4) (s : State) : Answer := whenLive s <|
  .next (let q := portSt s p
    if luState s ≠ luOff ∧ q.up = true ∧ q.samples = 16 then
      wr (wr s R.PORT_LINK 1 0 p.val) R.PORT_LINK_NS ((q.sum + 16) / 32) 0 p.val
    else s)

/-- PORT_LINK_DOWN (R201, R205): the node becomes an end of the line. -/
def execPortLinkDown (p : Fin 4) (s : State) : Answer := whenLive s <|
  .next (wr (setPort s p ⟨false, 0, 0, 0, 0⟩) R.PORT_LINK 0 0 p.val)

/-- LU_CTRL.EN has changed, or the scan source (Table 5.10, R217): the controller leaves OFF for LISTEN and measures its links, or
stops. With the standalone source it takes no part. -/
def luEnable (s : State) : State :=
  if rd s R.LU_CTRL_EN = 1 ∧ rdL s R.SCAN_CTRL_SRC .x = 0 then
    if luState s = luOff then
      let t := luEnter s luListen
      allPorts.foldl (fun u p => if (portSt u p).up then linkStart u p else u) t
    else s
  else if luState s = luOff then s else luEnter s luOff

/-- A schedule object written to registers and tables (R216). -/
def schedUse (s : State) (b : List Byte) : State :=
  let o := schedObj b
  let put (t : State) (a v : Nat) : State := (rowsAt .common a).foldl (fun u e => wr u e.1 (bits v e.1.hi e.1.lo) 0 e.2) t
  let s1 := [(0x20060000, o.ctrl), (0x20060008, o.node), (0x2006000C, o.cold), (0x20060010, o.cycle), (0x20060014, o.win),
    (0x20060018, o.timers), (0x20060020, o.cnt), (0x2006001C, o.id)].foldl (fun t e => put t e.1 e.2) s
  let s2 := wbs (clearMem s1 .slotTab 0 0x10000) .slotTab 0 ((b.drop 64).take (16 * o.cnt))
  let s3 := wbs (clearMem s2 .stnTab 0 0x8000) .stnTab 0 ((b.drop (64 + 16 * o.cnt)).take 32768)
  let s4 := { s3 with luosh := { s3.luosh with next := none } }
  luEnable (if luState s4 = luOff then s4 else setMaster s4 (rd s4 R.LU_MASTER_MASTER_ID) (rd s4 R.LU_MASTER_LATE_NS))

/-- A cycle is running by the own clock. -/
def inCycle (s : State) : Bool := decide (luSync ≤ luState s)

/-- An accepted schedule (R216): used from the cycle after the commit; at once where no cycle runs (DESIGN CHOICE, log entry 36). -/
def schedApply (s : State) (b : List Byte) : State :=
  if inCycle s then { s with luosh := { s.luosh with next := some b } } else schedUse s b

/-- The SCHED_ID of the next cycle. -/
def schedNext (s : State) : Nat := match s.luosh.next with | some b => (schedObj b).id | none => rd s R.LU_SCHED_ID_ID

/-- The cycles by which the count of cycles advances at a cycle start: one, or as many as have passed since the last (02 R81). -/
def cycleStep (s : State) : Nat := max 1 ((s.time.now - s.luosh.cycAt + cycleNs s / 2) / cycleNs s)

/-- A cycle starts: misses of the cycle before are counted (Tables 5.17 and 5.18, R231), a cycle without an out-of-window event ends
their run (R228), the marks are cleared, the cycle number and S_0 advance, and an accepted schedule comes into use (R216). -/
def newCycle (s : State) (cycle t0 : Nat) : State :=
  let lu := s.luosh
  let s1 := (stations s).foldl (fun t n =>
    if (stnEnt s n).spare then t
    else
      let t1 := if lu.rx.contains (n, false) then t else rcAdd t R.STN_CNT0_MISS_A 1 n
      if lu.rx.contains (n, true) then t1 else rcAdd t1 R.STN_CNT0_MISS_B 1 n) s
  let s2 := if lu.seenA then s1 else rcAdd s1 R.LINE_CS_MISS 1 0
  let s3 := if lu.seenB then s2 else rcAdd s2 R.LINE_CS_MISS 1 1
  let run := if luState s = luMaster ∨ lu.seenA ∨ lu.seenB then 0 else min 15 (rd s R.LU_STAT_CS_RUN + 1)
  let s4 := wr (wr (wr (wr s3 R.LU_STAT_CS_RUN run) R.LU_CYCLE_NUM_CYCLE cycle) R.LU_TIME_LO_TIME (t0 % 2 ^ 32))
    R.LU_TIME_HI_TIME (t0 / 2 ^ 32)
  let spare := (spareSlots s).zipIdx.filter (fun e => occupied s e.2)
  let heard (i : Nat) : Bool := lu.rx.any (fun x => x.1 == rd s R.SPARE_STAT_OCCUPANT 0 i)
  let idle := if luState s = luMaster then spare.foldl (fun t e => Tab.put 0 t e.2 (if heard e.2 then 0 else Tab.get 0 t e.2 + 1)) lu.idle
    else lu.idle
  let s5 := if rdL s R.SCAN_CTRL_SRC .x = 0 ∧ !s.scan.interim then wrAll s4 R.CYCLE_COUNT_CYCLE (rdL s4 R.CYCLE_COUNT_CYCLE .x + 1) else s4
  let s6 := if lu.oow then s5 else wr s5 R.LU_STAT_OOW_RUN 0
  let u := { s6 with luosh := { lu with
    rx := [], slots := [], mute := false, oow := false, atStart := luState s, cyc := lu.cyc + cycleStep s, cycAt := s.time.now,
    missA := if lu.seenA then 0 else lu.missA + 1, missB := if lu.seenB then 0 else lu.missB + 1, seenA := false, seenB := false,
    idle := idle, fresh := false, safeTx := s.modl.prismStop, csSent := [], oowNext := false, shRun := if lu.shBlocked then lu.shRun + 1 else 0, shBlocked := false } }
  let u1 := if lu.shBlocked then u else endCond u 0x0405 0
  let v := if lu.oowNext ∧ luState s = luActive then oowNow u1 else u1
  match lu.next with
  | some b => schedUse v b
  | none => v

/-! ## Checks of a frame (R219, R224, R225, R227) -/

/-- The own D of a port's line. -/
def ownD (s : State) (p : Fin 4) : Nat := if portLine p then rd s R.LU_PATH_B_D_NS else rd s R.LU_PATH_A_D_NS

/-- The port faces the reference point (R200). -/
def isInward (s : State) (p : Fin 4) : Bool := rd s R.PORT_INWARD 0 p.val == 1

/-- The start of a frame that begins to arrive `sub` ns after the clock, referred to the inward port: on the outward port the own hold
time is added (R202, R219). -/
def arrival (s : State) (p : Fin 4) (sub : Fin 4) : Int :=
  (s.luosh.net : Int) + sub.val + (if isInward s (otherPort p) then 320 - (rd s R.PORT_LINK_NS 0 (otherPort p).val : Int) else 0)

/-- Where in the cycle a frame falls: its slot, its start less its due time, and whether the slot is one of the next cycle. -/
structure Fall where
  slot : Nat
  off  : Int
  next : Bool

/-- The path of a CS or STARTUP frame and the own D it gives (R221, Table 5.9). -/
def csAt (f : Frame) (o n : Nat) : Nat := ofBe ((f.body.drop o).take n)
def csOrigD (f : Frame) : Nat := csAt f 0x14 4
def csCorr (f : Frame) : Int := toSigned 32 (csAt f 0x18 4)
def csPath (f : Frame) : Int := 320 * (f.hop : Int) + csCorr f
def csOwnD (f : Frame) : Int := if f.dir then csOrigD f + csPath f else csOrigD f - csPath f

/-- A port of the line faces the reference point. -/
def facing (s : State) (p : Fin 4) : Bool := isInward s p || isInward s (otherPort p)

/-- The slot in which a frame of a start time falls (R219, R224): what comes in on the inward port travels outward and is due at S + D,
what comes in on the outward port is due at S − D; a cycle start with DIR 0 left at S + ORIG_D and is due |D − ORIG_D| after that. On a
line without an inward port, where no cycle start has given D yet, a cycle start gives its own. -/
def fallOf (s : State) (p : Fin 4) (f : Frame) (t : Int) : Option Fall :=
  let w : Int := rd s R.LU_WIN_WACC_NS
  let start := f.kind == 1 || f.kind == 2
  let d : Int := if start && !facing s p then csOwnD f else ownD s p
  let pos := (if start && !f.dir then t + d - 2 * csOrigD f else if start || isInward s p then t - d else t + d) - s0 s
  let next := decide ((cycleNs s : Int) - w ≤ pos)
  let q := if next then pos - cycleNs s else pos
  ((slotNums s).find? (fun n => decide ((slotEnt s n).start - w ≤ q ∧ q < (slotEnt s n).start + (slotEnt s n).slen - w))).map
    (fun n => ⟨n, q - (slotEnt s n).start, next⟩)

/-- The start lies in its window: W_ACC to either side of the due time, in slot 0 with a LATE of 0, 1,000 or 2,000 ns (R224, R239). -/
def inWindowOf (s : State) (x : Fall) : Bool :=
  let w : Int := rd s R.LU_WIN_WACC_NS
  (if x.slot = 0 then [0, 1000, 2000] else [0]).any (fun late => decide (-w ≤ x.off - late ∧ x.off - late ≤ w))

/-- The outcome of the checks on a frame (Table 5.8). -/
inductive FrameCheck where
  | ok | window | header | owner | long
  deriving DecidableEq, Repr

/-- The longest frame of a slot, from the destination address to the FCS (R209). -/
def frameMax (e : SlotEnt) : Nat := max (e.plen + 34) 64

/-- The kinds of frame that a slot carries (R210, R243). -/
def kindFits (e : SlotEnt) (kind : Nat) : Bool :=
  match e.kind with
  | 0 => kind == 1 || kind == 2
  | 1 => kind == 3
  | _ => kind == 3 || kind == 4

/-- The sender of a slot's frame: a coldstart node in slot 0, the master in a DN slot, the owner in a data slot; spare slots are not
checked (Tables 5.5 and 5.8). -/
def nodeFits (s : State) (slot node : Nat) : Bool :=
  let e := slotEnt s slot
  if e.kind = 2 then true else if e.kind = 0 then (coldNodes s).contains node
  else if e.dn then node == rd s R.LU_MASTER_MASTER_ID else node == e.owner

/-- The checks of Table 5.8 on a frame that falls in a slot. -/
def slotCheck (s : State) (p : Fin 4) (f : Frame) (x : Fall) : FrameCheck :=
  let e := slotEnt s x.slot
  let cycle := (rd s R.LU_CYCLE_NUM_CYCLE + b2n x.next) % 2 ^ 32
  if !inWindowOf s x then .window
  else if e.kind = 2 ∧ f.kind ≠ 4 ∧ !((spareIdx s x.slot).any (occupied s)) then .window
  else if !headerOk f ∨ !kindFits e f.kind then .header
  else if f.slot ≠ x.slot ∨ (if e.kind = 0 then facing s p ∧ f.dir ≠ isInward s p else f.dir ≠ e.dir) ∨ f.cycle ≠ cycle
    ∨ f.plen ≠ (if f.kind = 4 then 16 else e.plen) ∨ !nodeFits s x.slot f.node ∨ f.body.length < f.plen then .owner
  else if frameMax e < f.body.length + 34 then .long
  else .ok

/-- The checks of Table 5.8 on a frame by its start time. -/
def frameCheck (s : State) (p : Fin 4) (f : Frame) (t : Int) : FrameCheck :=
  match fallOf s p f t with
  | none => .window
  | some x => slotCheck s p f x

/-- A check that fails is counted for the line (Table 5.18); a frame that runs on beyond its slot counts as a PLEN mismatch. -/
def countCheck (s : State) (b : Bool) (c : FrameCheck) : State :=
  match c with
  | .ok => s
  | .header => rcAdd s R.LINE_HCHK_ERR 1 (lineIdx b)
  | .window => rcAdd s R.LINE_OOW 1 (lineIdx b)
  | .owner | .long => rcAdd s R.LINE_OWNER_ERR 1 (lineIdx b)

/-- An invalid frame is discarded and counted for its line (R227, Tables 5.17 and 5.18). -/
def countBad (s : State) (b : Bool) (f : Frame) (c : FrameCheck) : State :=
  let t := countCheck s b c
  if c = .window then rcAdd t R.STN_CNT1_OOW 1 (f.node % 1024) else t

/-- The byte of a frame, from the destination address on, from which a forwarder cuts it (R225, Table 5.8). -/
def cutFrom (s : State) (p : Fin 4) (f : Frame) (t : Int) (c : FrameCheck) : Option Nat :=
  match c with
  | .ok => none
  | .window => some 0
  | .header | .owner => some 30
  | .long => (fallOf s p f t).map (fun x => frameMax (slotEnt s x.slot))

/-- The signed correction field of a CS or STARTUP payload with a change added (R221). -/
def addCorr (l : List Byte) (d : Int) : List Byte :=
  l.take 0x18 ++ beBytes 4 (ofSigned 32 (toSigned 32 (ofBe ((l.drop 0x18).take 4)) + d)) ++ l.drop 0x1C

/-- The frame as a forwarder sends it: HOP one more, CORR corrected by the hop delay achieved, the FCS recomputed, or its ones'
complement where the received FCS was wrong (R203, R208, R221). -/
def forwarded (f : Frame) (hopNs : Int) : Frame :=
  let g := { f with hop := min 1023 (f.hop + 1),
                    body := if f.kind = 1 ∨ f.kind = 2 then addCorr f.body (hopNs - 320) else f.body }
  { g with fcs := if fcsOk f then fcsOf g else 2 ^ 32 - 1 - fcsOf g }

/-- FRAME_FORWARD (R201 to R204, R225, R226, R253): by cut-through out of the other port of the line; not while that port sends a frame
of its own, nor in the 2 ms after its link came up; a hold of less than 200 ns does not pass the Shutter. In ACTIVE and MASTER a
frame that fails a check is cut. -/
def execFrameForward (p q : Fin 4) (f : Frame) (sub : Fin 4) (hopNs : Int) (s : State) : Answer := whenLive s <|
  .next (let o := otherPort p
    let b := portLine p
    let t := arrival s p sub
    if q ≠ o ∨ luState s = luOff ∨ f.kind = 6 ∨ portReady s p = false ∨ portReady s o = false ∨ linkFree s o = true then s
    else if portBusy s o then rcAdd s R.LINE_OWNER_ERR 1 (lineIdx b)
    else if rd s R.PORT_LINK_NS 0 o.val > 120 then shutterBlock s [o] false
    else if luState s = luActive ∨ luState s = luMaster then
      let c := frameCheck s p f t
      let u := if c = .ok then s else rcAdd (countCheck s b c) R.LINE_CUT 1 (lineIdx b)
      emit u (.forward o (forwarded f hopNs) (cutFrom s p f t c))
    else emit s (.forward o (forwarded f hopNs) none))

/-! ## Cycle start and node states (R222, R228 to R239) -/

/-- The fields of a CS or STARTUP payload (Table 5.9). -/
def csTime (f : Frame) : Nat := csAt f 0 8
def csSched (f : Frame) : Nat := csAt f 0x0C 4
def csMaster (f : Frame) : Nat := csAt f 0x10 2
def csLate (f : Frame) : Nat := csAt f 0x12 2
def csHo (f : Frame) : Option (Nat × Nat) := if csAt f 0x20 4 = 0 then none else some (csAt f 0x20 4, csAt f 0x24 2)

/-- The due time of a CS frame on the own network-time clock (R222). -/
def csDue (f : Frame) : Int := csTime f + csOrigD f + csLate f + csPath f

/-- D and HOP of the frame's line taken over. -/
def takeD (s : State) (b : Bool) (f : Frame) : State :=
  let d := ofSigned 20 (csOwnD f)
  if b then { wr s R.LU_PATH_B_D_NS d with luosh := { s.luosh with hopB := f.hop } }
  else { wr s R.LU_PATH_A_D_NS d with luosh := { s.luosh with hopA := f.hop } }

/-- The inward port of a line: the port a DIR 1 copy came in on (R200). -/
def setInward (s : State) (p : Fin 4) (f : Frame) : State :=
  let inn := if f.dir then p else otherPort p
  wr (wr s R.PORT_INWARD 1 0 inn.val) R.PORT_INWARD 0 0 (otherPort inn).val

/-- The correction of R222: offset, rate within ±200 ppm, and network time less e. -/
def correct (s : State) (e : Int) : State :=
  let rate := toSigned 32 (rd s R.LU_RATE_PPB) - e * 1000000 / (rd s R.LU_CYCLE_CYCLE_US : Int)
  let lim := if rate > 200000 then 200000 else if rate < -200000 then -200000 else rate
  setNet (wr (wr s R.LU_OFFSET_E_NS (ofSigned 32 e)) R.LU_RATE_PPB (ofSigned 32 lim)) (ofSigned 64 ((s.luosh.net : Int) - e))

/-- The spare occupancy that a CS frame shows (Tables 5.9, 5.16 and 5.17): OCC bits, and the node of each grant. -/
def takeOcc (s : State) (f : Frame) : State :=
  let t := (List.range 16).foldl (fun u j => wr u R.OCC_OCC (ofLe ((f.body.drop (0x40 + 4 * j)).take 4)) 0 j) s
  let u := (spareSlots s).zipIdx.foldl (fun v e => wr v R.SPARE_STAT_OCC (b2n (occupied v e.2)) 0 e.2) t
  (List.range 4).foldl (fun v g => let w := csAt f (0x28 + 4 * g) 4
    if bitAt w 31 = 1 then wr v R.SPARE_STAT_OCCUPANT (w % 2 ^ 10) 0 (bits w 24 16) else v) u

/-- A CS or STARTUP frame is taken: the cycle it opens, its sender, its handover announcement, the spare slots it shows. -/
def takeStart (s : State) (f : Frame) : State :=
  let t := newCycle s f.cycle (csTime f)
  let u := setMaster { t with luosh := { t.luosh with taken := some (f.cycle, f.kind, f.node), ho := csHo f } } (csMaster f) (csLate f)
  let v := if f.kind = 1 then takeOcc u f else u
  if csLate f ≠ 0 then rcAdd v R.LU_EVT_SUCC else v

/-- A node joins from a frame whose line now has its inward port: LISTEN or STARTUP to SYNC, network time set so that the frame started
at its due time (Table 5.10, R222, 09 R369). -/
def joinFrom (s : State) (p : Fin 4) (f : Frame) (sub : Fin 4) : State :=
  luEnter (tb0Set (takeStart s f) (ofSigned 64 ((s.luosh.net : Int) - (arrival s p sub - csDue f)))) luSync

/-- The frame continues the last one taken: cycle number one more, same SCHED_ID, in its window (R224, Table 5.10). -/
def continues (s : State) (f : Frame) (e : Int) : Bool :=
  let w : Int := rd s R.LU_WIN_WACC_NS
  csSched f == schedNext s && decide (-w ≤ e ∧ e ≤ w)
    && (match s.luosh.taken with | some (c, _, _) => f.cycle == (c + 1) % 2 ^ 32 | none => false)

/-- A frame fit for cycle-start use: FCS, header, kind, slot and length of a CS or STARTUP frame (R227). The checks of Table 5.8 that
need a time shared with the sender are made where there is one, in SYNC, ACTIVE and MASTER (DEDUCED, log entry 104). -/
def startOk (s : State) (p : Fin 4) (f : Frame) (kind : Nat) : Bool :=
  luState s != luOff && fcsOk f && headerOk f && f.kind == kind && f.slot == 0 && f.plen == 128 && f.body.length == 128
    && rd s R.PORT_LINK 0 p.val == 1

/-- A frame not fit for cycle-start use is counted for its line. -/
def startBad (s : State) (p : Fin 4) (f : Frame) : State :=
  if luState s = luOff then s
  else if !fcsOk f then fcsCount s (portLine p)
  else if !headerOk f then rcAdd s R.LINE_HCHK_ERR 1 (lineIdx (portLine p))
  else rcAdd s R.LINE_OWNER_ERR 1 (lineIdx (portLine p))

/-- The same cycle's frame was already taken from the other line (R230). -/
def secondCopy (s : State) (f : Frame) : Bool :=
  match s.luosh.taken with
  | some (c, k, n) => c == f.cycle && k == f.kind && n == f.node
  | none => false

/-- A line that has no inward port gets it from a cycle start (R200). -/
def lineFaced (s : State) (p : Fin 4) (f : Frame) : State := if facing s p then s else setInward s p f

/-- A valid cycle-start frame has come: counted, and its line in use (R231). Only a CS frame keeps the line of a node other than the
master from being lost. -/
def startSeen (s : State) (p : Fin 4) (kind : Nat) : State :=
  let t := rcAdd s R.LINE_RX_OK 1 (lineIdx (portLine p))
  if kind = 1 ∨ luState s = luMaster then lineSeen t (portLine p) else lineUp t (portLine p)

/-- A CS frame taken in ACTIVE (R222, R228): it opens the cycle and corrects the clock; where e exceeds W_ACC, an event, and nothing is
originated for the rest of the cycle. -/
def activeCs (s : State) (f : Frame) (e : Int) : State :=
  let w : Int := rd s R.LU_WIN_WACC_NS
  let t := correct (takeStart s f) e
  if (e < -w ∨ w < e) ∧ luState t = luActive then oowNow { t with luosh := { t.luosh with mute := true } } else t

/-- A node without a time of its own takes a cycle start of its schedule, in STARTUP of a lower node, and joins; any other only restarts
its listen timeout (Table 5.10, R229, R236, R238). -/
def idleStart (s : State) (p : Fin 4) (f : Frame) (sub : Fin 4) (kind : Nat) : State :=
  let t := startSeen s p kind
  let join := if luState s = luListen then csSched f == schedNext s && !s.luosh.holdoff
    else decide (f.node < ownNode s) && (kind == 1 || decide (s.luosh.startups < 3))
  if join then joinFrom (setInward (takeD t (portLine p) f) p f) p f sub
  else if luState s = luListen then { t with luosh := { t.luosh with listenAt := t.time.now } } else t

/-- A frame that continues the cycle a SYNC node has taken: a STARTUP frame of the node it follows, or a CS frame, the second of which
makes the armed node ACTIVE (Table 5.10, R234, R235). -/
def syncStart (s : State) (f : Frame) (kind : Nat) (e : Int) : State :=
  let t := correct (takeStart s f) e
  if kind = 1 ∧ s.luosh.taken.any (fun x => x.2.1 == 1) ∧ s.db.armedOnce then luEnter t luActive else t

/-- The sender and direction of a cycle start, and its cycle (Table 5.8). -/
def startFits (s : State) (p : Fin 4) (f : Frame) (cycle : Nat) : Bool :=
  f.cycle == cycle && nodeFits s 0 f.node && (!facing s p || f.dir == isInward s p)

/-- A CS or STARTUP frame received (R222, R227, R228, R234, Table 5.10). -/
def csTaken (s : State) (p : Fin 4) (f : Frame) (sub : Fin 4) (kind : Nat) : State :=
  if startOk s p f kind = false then startBad s p f
  else if luState s < luSync then idleStart s p f sub kind
  else
    let b := portLine p
    let u := lineFaced s p f
    let c := frameCheck s p f (arrival u p sub)
    let e := arrival u p sub - csDue f
    let seen := takeD (startSeen u p kind) b f
    if luState s = luMaster then
      if c ≠ .ok then countBad s b f c else if f.node < ownNode s then luToListen (startSeen s p kind) else startSeen s p kind
    else if secondCopy s f then (if c = .ok then seen else countBad s b f c)
    else if luState s = luSync then
      if c = .ok ∧ continues s f e ∧ (kind = 1 ∨ s.luosh.taken.any (fun x => x.2.2 == f.node)) then syncStart seen f kind e
      else luToListen (if c = .ok then startSeen s p kind else countBad s b f c)
    else if kind = 2 then (if c = .ok then startSeen s p kind else countBad s b f c)
    else if startFits s p f ((rd s R.LU_CYCLE_NUM_CYCLE + 1) % 2 ^ 32) = false then countBad s b f .owner
    else if csSched f ≠ schedNext s then luToListen (if c = .ok then startSeen s p kind else countBad s b f c)
    else activeCs (if c = .ok then seen else takeD (countBad u b f c) b f) f e

/-- CS_FRAME_RX (R222, R227, R228, R234). The Shutter takes its cycle start from EtherType, KIND and HCHK alone (R254). -/
def execCsFrameRx (p : Fin 4) (f : Frame) (sub : Fin 4) (s : State) : Answer := whenLive s <|
  .next (if luState s != luMaster && f.dir && f.etype == 0x88B5 && f.kind == 1 && hchkOk f && rd s R.PORT_LINK 0 p.val == 1 then
      csTaken (shutterStart s (portLine p)) p f sub 1
    else csTaken s p f sub 1)

/-- STARTUP_FRAME_RX (R238, Table 5.10); any valid frame restores its line (R231). -/
def execStartupFrameRx (p : Fin 4) (f : Frame) (sub : Fin 4) (s : State) : Answer := whenLive s <| .next (csTaken s p f sub 2)

/-- The last moment at which a CS or STARTUP frame of the next cycle can begin to arrive in its window (R224, R239). -/
def csLast (s : State) : Nat :=
  s0Next s + max (rd s R.LU_PATH_A_D_NS) (rd s R.LU_PATH_B_D_NS) + 2000 + rd s R.LU_WIN_WACC_NS

/-- CS_FRAME_MISSING (R234, R231): no frame has come for the next cycle: a SYNC node returns to LISTEN; an ACTIVE node goes on by its
own clock, the cycle counted as one without a CS frame. -/
def execCsFrameMissing (s : State) : Answer := whenLive s <|
  .next (if s.luosh.net ≤ csLast s then s
    else if luState s = luSync then luToListen s
    else if luState s = luActive then newCycle s (rd s R.LU_CYCLE_NUM_CYCLE + 1) (s0Next s)
    else s)

/-- LINE_LOST (R231, R232): CS_LOSS consecutive cycles without a valid CS frame, for the master without any valid frame, on the line;
a node other than the master that has lost both lines returns to LISTEN. -/
def execLineLost (b : Bool) (s : State) : Answer := whenLive s <|
  .next (let row := if b then R.LU_STAT_LINE_B else R.LU_STAT_LINE_A
    let miss := if b then s.luosh.missB else s.luosh.missA
    if rd s row = 0 ∨ miss < rd s R.LU_TIMERS_CS_LOSS then s
    else
      let t := luReady (raiseOn (wr s row 0) 0x0401 (b2n b) (b2n b))
      if rd t R.LU_STAT_LINE_A = 0 ∧ rd t R.LU_STAT_LINE_B = 0 ∧ (luState s = luActive ∨ luState s = luSync) then luToListen t else t)

/-- REJOIN_HOLDOFF_END (R229): 8 cycles of the own clock have been ignored. -/
def execRejoinHoldoffEnd (s : State) : Answer := whenLive s <|
  .next (if s.luosh.holdAt + 8 * cycleNs s ≤ s.time.now then { s with luosh := { s.luosh with holdoff := false } } else s)

/-- T_LISTEN in ns (R236). -/
def listenNs (s : State) : Nat := rd s R.LU_TIMERS_LISTEN_BASE * cycleNs s + ownNode s * (slotEnt s 0).slen

/-! ## Check points (07 R297) -/

/-- The standalone grid runs: it is the scan source, or serves until the Luosh grid does (13 R475). -/
def standalone (s : State) : Bool := rdL s R.SCAN_CTRL_SRC .x == 1 || s.scan.interim

/-- ns since the last point of the grid. -/
def gridSpan (s : State) : Nat := (tb1 s + 2 ^ 32 - s.scan.tFreeze) % 2 ^ 32

/-- The check point of the cycle under way lies at most `lead` ns ahead: COMMIT_OFS after the grid point, or the start of the downstream
phase (07 R297). -/
def checkCome (s : State) (lead : Nat) : Bool :=
  if standalone s then s.scan.gridOn && s.scan.gridPer != 0 && decide (1000 * rdL s R.COMMIT_OFS_OFS_US .x ≤ gridSpan s + lead)
  else inCycle s && decide (s0 s + tDn s ≤ s.luosh.net + lead)

/-- A number that tells the cycle under way, of either source, from those before. -/
def cycleSerial (s : State) : Nat :=
  if standalone s then 2 * rdL s R.CYCLE_COUNT_CYCLE .x else 2 * s.luosh.cyc + 1

/-- The check point of the cycle under way still lies ahead. -/
def checkAhead (s : State) : Bool := s.db.chkAt != some (cycleSerial s)

/-! The place in a cascade, which the start of a member's own network depends on (10 R405, R408). -/

/-- The module is a cascade member; its position; the number of members. -/
def cxOn (s : State) : Bool := rdL s R.CX_CTRL_EN .x == 1
def cxPos (s : State) : Nat := rdL s R.CX_STAT_POS .x
def cxN (s : State) : Nat := rdL s R.CX_CTRL_N_MEMB .x + 1

/-- How far a time of TB[1] lies from the nearest of the master's freeze points, which the last SYNC gave (10 R407, R408). -/
def cxOff (s : State) (t : Nat) : Option Int :=
  s.cx.syncAt.map (fun a => let p : Int := 1000 * s.cx.syncUs
    ((((t : Int) - a + 2 ^ 31) % 2 ^ 32 - 2 ^ 31) + p / 2) % p - p / 2)

/-- Within ±100 ns of a freeze point of the master (10 R408). -/
def cxNear (s : State) (t : Nat) : Bool :=
  match cxOff s t with
  | some o => decide (-100 ≤ o ∧ o ≤ 100)
  | none => false

/-- A cycle that starts now gives freeze points aligned to the SYNC received, where the module is a member other than the master
(10 R408). -/
def startAligned (s : State) : Bool := !cxOn s || cxPos s == 0 || cxNear s (tb1 s + tUC s)

/-- LISTEN_TIMEOUT (R229, R235, R236, 10 R408): after T_LISTEN without a valid cycle start a coldstart node enters STARTUP with network time 0 and cycle 0. -/
def execListenTimeout (s : State) : Answer := whenLive s <|
  .next (if luState s = luListen ∧ (coldNodes s).contains (ownNode s) ∧ s.db.armedOnce ∧ s.luosh.listenAt + listenNs s ≤ s.time.now
      ∧ s.luosh.holdoff = false ∧ startAligned s then
      let s1 := { s with luosh := { s.luosh with startups := 0, taken := none, hoDone := 0, hopA := 0, hopB := 0 } }
      let s2 := [R.LU_CYCLE_NUM_CYCLE, R.LU_TIME_LO_TIME, R.LU_TIME_HI_TIME, R.LU_PATH_A_D_NS, R.LU_PATH_B_D_NS].foldl
        (fun t r => wr t r 0) s1
      luEnter (tb0Set (allPorts.foldl (fun u p => wr u R.PORT_INWARD 0 0 p.val) s2) 0) luStartup
    else s)

/-! ## Frames the module sends (R219, R220, R233, R237, R249, R250) -/

/-- The mode code of CS frames (Table 5.9). -/
def modeCode : Mode → Nat
  | .init => 0
  | .stop => 1
  | .run => 2
  | .service => 3
  | .safe => 4

/-- A GRANT field as it stands in the CS frame (Table 5.9). -/
def grantWord (s : State) (g : Nat) : Nat :=
  if s.luosh.safeTx then 0
  else
    let x := Tab.get ⟨0, 0, 0⟩ s.luosh.grants g
    if x.left = 0 then 0 else 2 ^ 31 + 2 ^ 16 * x.spare + x.node

/-- The CS or STARTUP payload (Table 5.9) with a LATE value; the voted part is that of the last commit, or the safe
content from the first cycle start after an F4 fault (R250, 11 R421). -/
def csPayload (s : State) (late d : Nat) : List Byte :=
  let (m, k, o) := s.luosh.csVoted
  let ho := rd s R.LU_HO_CYCLE_CYCLE
  beBytes 8 (s0 s) ++ beBytes 4 (rd s R.LU_CYCLE_CYCLE_US) ++ beBytes 4 (rd s R.LU_SCHED_ID_ID)
    ++ beBytes 2 (ownNode s) ++ beBytes 2 late ++ beBytes 4 d ++ beBytes 4 0
    ++ beBytes 1 (if s.luosh.safeTx then 4 else m) ++ beBytes 1 k ++ beBytes 1 o ++ beBytes 1 0
    ++ beBytes 4 ho ++ beBytes 2 (if ho = 0 then 0 else rd s R.LU_HO_NODE_NODE) ++ beBytes 2 0
    ++ ((List.range 4).map (fun g => beBytes 4 (grantWord s g))).flatten ++ beBytes 8 0
    ++ ((List.range 16).map (fun j => leBytes 4 (rd s R.OCC_OCC 0 j))).flatten

/-- The Shutter passes a frame of a slot on a port: in an own window, or while the port transmits freely (R253). -/
def shutterPass (s : State) (slot : Nat) (p : Fin 4) : Bool := linkFree s p || shutterAllows s slot (portLine p)

/-- The ports with a link on given lines. -/
def linePorts (s : State) (lines : List Bool) : List (Fin 4) :=
  (allPorts.filter (portReady s)).filter (fun p => lines.contains (portLine p))

/-- A CS or STARTUP frame of a payload out of every port of some lines that the Shutter lets through (R220, R230, R253): DIR 1 on outward
ports, 0 on the inward port, ORIG_D that of the line. -/
def sendStart (s : State) (kind : Nat) (pay : List Byte) (lines : List Bool) : State :=
  ((linePorts s lines).filter (shutterPass s 0)).foldl (fun t p => portSend t p (ownFrame s kind 0 (!isInward s p) false false
    (pay.take 0x14 ++ beBytes 4 (ownD s p) ++ pay.drop 0x18))) s

/-- The OCC bits that a CS frame shows for the first time with its grants (R246). -/
def grantsShow (s : State) : State :=
  s.luosh.grants.foldl (fun t e => if e.2.left = 3 ∧ !s.luosh.safeTx then setOcc t e.2.spare true e.2.node else t) s

/-- The GRANT fields after a CS frame has been sent: one of the three is less to send (R245, R246). -/
def grantsSent (s : State) : State :=
  s.luosh.grants.foldl (fun t e =>
    let t2 := wr t R.GRANT_LAST_GRANT (grantWord s e.1) 0 e.1
    { t2 with luosh := { t2.luosh with grants := Tab.put ⟨0, 0, 0⟩ t2.luosh.grants e.1 { e.2 with left := e.2.left - 1 } } }) s

/-- The ports of some lines on which the Shutter blocks a cycle start. -/
def startShut (s : State) (lines : List Bool) : List (Fin 4) := (linePorts s lines).filter (fun p => !shutterPass s 0 p)

/-- A cycle's first cycle-start frame of the own node, through the Shutter, whose timer restarts with it (R254). -/
def sendCycleStart (s : State) (kind late : Nat) (lines : List Bool) : State :=
  let pay := csPayload s late 0
  let t := shutterBlock (sendStart { s with luosh := { s.luosh with csSent := lines, csPay := pay } } kind pay lines) (startShut s lines) true
  if startShut s lines = [] then shutterStart t (lines.headD false) else t

/-- A cycle's first CS frame of the own node with a LATE value. -/
def sendCs (s : State) (late : Nat) (lines : List Bool) : State :=
  if startShut s lines = [] then grantsSent (sendCycleStart (grantsShow s) 1 late lines) else sendCycleStart s 1 late lines

/-- D of a line; the lines that have a port with a link; those of them whose copy of a cycle start is due, at S_0 + D + LATE (R220). -/
def lineD (s : State) (b : Bool) : Nat := if b then rd s R.LU_PATH_B_D_NS else rd s R.LU_PATH_A_D_NS
def startLines (s : State) : List Bool := [false, true].filter (fun b => (linePorts s [b]).length ≠ 0)
def linesDue (s : State) (t0 late : Nat) (ls : List Bool) : List Bool := ls.filter (fun b => atNet s (t0 + lineD s b + late))

/-- The lines by which the master times its cycle start: those with a link; without any, line A. -/
def csLines (s : State) : List Bool := if startLines s = [] then [false] else startLines s

/-- The copies of the cycle start under way that now leave on lines whose S_0 + D + LATE comes later (R220, R230). -/
def sendCsCopies (s : State) (lines : List Bool) : State :=
  shutterBlock (sendStart { s with luosh := { s.luosh with csSent := s.luosh.csSent ++ lines } } 1 s.luosh.csPay lines) (startShut s lines) true

/-- STARTUP_FRAME_TX (R218, R237): at the start of each of cycles 0, 1 and 2 of the own time, which is 0 at the first; after the third
the node is master. -/
def execStartupFrameTx (s : State) : Answer := whenLive s <|
  .next (let n := s.luosh.startups
    if luState s = luStartup ∧ n < 3 ∧ n * cycleNs s ≤ s.luosh.net then
      let s1 := newCycle (if n = 0 then setNet s 0 else s) n (n * cycleNs s)
      let s2 := sendCycleStart { s1 with luosh := { s1.luosh with startups := n + 1 } } 2 0 [false, true]
      if n + 1 = 3 then setMaster (luEnter s2 luMaster) (ownNode s) 0 else s2
    else s)

/-- The master of a pair yields at the next cycle start: the verdict in force at its last freeze named the peer (10 R403). -/
def yieldDue (s : State) : Bool := rdL s R.PAIR_CFG_EN .x == 1 && luState s == luMaster && s.pair.peerNamed

/-- The handover announced and not carried out yet: by the own registers as master, else by the last CS frame (R241; that an announcement
acts once: DESIGN CHOICE, log entry 139). -/
def handover (s : State) : Option (Nat × Nat) :=
  (if luState s = luMaster then
    (if rd s R.LU_HO_CYCLE_CYCLE = 0 then none else some (rd s R.LU_HO_CYCLE_CYCLE, rd s R.LU_HO_NODE_NODE))
  else s.luosh.ho).filter (fun x => x.1 != s.luosh.hoDone)

/-- The next cycle is that of a handover to another node, or comes after it (R241). -/
def handedOver (s : State) : Bool :=
  (handover s).any (fun x => decide (x.1 ≤ rd s R.LU_CYCLE_NUM_CYCLE + 1) && x.2 != ownNode s)

/-- CS_FRAME_TX (R220, R230, R241, 10 R403): the master's cycle-start frame of the next cycle, on each line at S_0 + D; a copy of the
cycle's frame on the other line when its time comes. -/
def execCsFrameTx (cycle : Nat) (s : State) : Answer := whenLive s <|
  .next (let now := linesDue s (s0 s) (rd s R.LU_MASTER_LATE_NS) ((startLines s).filter (fun b => !s.luosh.csSent.contains b))
    if luState s ≠ luMaster then s
    else if cycle = (rd s R.LU_CYCLE_NUM_CYCLE + 1) % 2 ^ 32 ∧ !yieldDue s ∧ !handedOver s ∧ linesDue s (s0Next s) 0 (csLines s) ≠ [] then
      let t := newCycle s (rd s R.LU_CYCLE_NUM_CYCLE + 1) (s0Next s)
      sendCs (wr (setMaster t (ownNode s) 0) R.LU_OFFSET_E_NS 0) 0 (linesDue s (s0Next s) 0 (csLines s))
    else if cycle = rd s R.LU_CYCLE_NUM_CYCLE ∧ s.luosh.csSent ≠ [] ∧ now ≠ [] then sendCsCopies s now
    else s)

/-- The lines that are not lost (R231); the first of them times a succession (DEDUCED, log entry 150). -/
def linesUp (s : State) : List Bool :=
  (startLines s).filter (fun b => rd s (if b then R.LU_STAT_LINE_B else R.LU_STAT_LINE_A) == 1)

/-- SUCCESSION_TIMEOUT (R239): no CS frame of the next cycle has come by S_0 + D + p × 1,000 ns, on the first of the lines not lost at which
that time comes; the coldstart node sends the cycle start late and becomes master. -/
def execSuccessionTimeout (s : State) : Answer := whenLive s <|
  .next (let p := position s (rd s R.LU_MASTER_MASTER_ID)
    if luState s = luActive ∧ s.luosh.atStart = luActive ∧ (p = 1 ∨ p = 2) ∧ linesDue s (s0Next s) (1000 * p) (linesUp s) ≠ [] then
      let t := newCycle s (rd s R.LU_CYCLE_NUM_CYCLE + 1) (s0Next s)
      sendCs (setMaster (luEnter t luMaster) (ownNode s) (1000 * p)) (1000 * p) (linesDue s (s0Next s) (1000 * p) (startLines s))
    else s)

/-- HANDOVER_CYCLE (R241): at the start of cycle h the named node is master and the former master is ACTIVE; positions count against the
named node from then on. -/
def execHandoverCycle (s : State) : Answer := whenLive s <|
  .next (match handover s with
    | none => s
    | some (h, n) =>
      let t := { s with luosh := { s.luosh with hoDone := h } }
      if rd s R.LU_CYCLE_NUM_CYCLE + 1 < h ∨ s.luosh.net < s0Next s ∨ luState s < luActive then s
      else if n = ownNode s then (if luState s = luActive ∧ (coldNodes s).contains n then setMaster (luEnter t luMaster) n 0 else s)
      else if luState s = luMaster then setMaster (luEnter t luActive) n 0
      else setMaster t n 0)

/-- Outputs are valid in DN frames: the last commit sent output words (R250, R86). -/
def outputsValid (s : State) : Bool := !s.modl.prismStop && !s.luosh.safeTx && s.scan.outs

/-- The payload of a DN slot: the output areas of every enabled station entry (R249) from bytes by image offset; other bytes are 0x00
(R214). -/
def dnOf (s : State) (slot : Nat) (byte : Nat → Byte) : List Byte :=
  let t : Tab Byte := (stations s).foldl (fun m k =>
    let e := stnEnt s k
    if e.outSlot = slot ∧ e.outDlen + e.outWlen ≠ 0 then
      let m1 := (List.range e.outDlen).foldl (fun a i => Tab.put 0 a (e.outPos + i) (byte (e.outDofs + i))) m
      (List.range e.outWlen).foldl (fun a i => Tab.put 0 a (e.outPos + e.outDlen + i) (byte (offWord + 4 * e.outWofs + i))) m1
    else m) []
  (List.range (slotEnt s slot).plen).map (fun i => Tab.get 0 t i)

/-- The payload of a DN slot from the voted output image. -/
def dnPayload (s : State) (slot : Nat) : List Byte := dnOf s slot (fun o => Tab.get 0 s.scan.held o)

/-! ## Transmit staging (01 Table 1.2, 02 R69, R249)

A lane's partition of the shared SRAM holds its downstream staging at the image offsets of the output areas, and the payloads of
the module's own upstream slots one after the other in slot order (DESIGN CHOICE, log entry 103). -/

def stageBase (l : Lane) : Nat := 0x40000 + 0x40000 * l.idx
def stageDown (l : Lane) (o : Nat) : Nat := stageBase l + 0x20000 + (if o < offWord then o else o - offWord + 0x8000)
def stageOwn (s : State) (l : Lane) (slot : Nat) : Nat :=
  stageBase l + 0x38000 + ((slotNums s).filter (fun n => decide (n < slot) && (slotEnt s n).kind == 1 && !(slotEnt s n).dn
    && (slotEnt s n).owner == ownNode s)).foldl (fun m n => m + (slotEnt s n).plen) 0 % 0x8000

/-- Each lane, a candidate too (04 R188), copies its output areas into its downstream staging at a commit, with the force planes applied
(R249, 03 R125). -/
def stageOutputs (s : State) : State :=
  let areas := (stations s).flatMap (fun k => let e := stnEnt s k
    [(e.outDofs, e.outDlen), (offWord + 4 * e.outWofs, e.outWlen)])
  (Lane.all.filter (fun l => (lane s l).admitted || (lane s l).candidate)).foldl (fun t l => areas.foldl (fun u a =>
    wbs u .shared (stageDown l a.1) ((List.range a.2).map (fun i =>
      (BitVec.ofNat 64 (filteredWord s l ((a.1 + i) / 8 * 8))).extractLsb' (8 * ((a.1 + i) % 8)) 8))) t) s

/-- The payload of a DN slot, and of an own upstream slot, that a lane has staged. -/
def dnStaged (s : State) (l : Lane) (slot : Nat) : List Byte := dnOf s slot (fun o => rb s .shared (stageDown l o))
def ownStaged (s : State) (l : Lane) (slot : Nat) : List Byte := rbs s .shared (stageOwn s l slot) (slotEnt s slot).plen

/-- The due time of an own slot on a port (R219). An upstream slot whose time comes before its cycle's CS frame is due in the next
cycle (R234). -/
def dueAt (s : State) (slot : Nat) (p : Fin 4) : Int × Nat :=
  let e := slotEnt s slot
  let c := rd s R.LU_CYCLE_NUM_CYCLE
  if e.dir then (s0 s + e.start + ownD s p, c)
  else
    let d : Int := s0 s + e.start - ownD s p
    if d + cycleNs s ≤ s.luosh.net then (d + cycleNs s, (c + 1) % 2 ^ 32) else (d, c)

/-- The ports on which a slot's frame leaves: ready, and leading in its direction (R219, R230). -/
def slotPorts (s : State) (slot : Nat) : List (Fin 4) :=
  allPorts.filter (fun p => portReady s p && !isInward s p == (slotEnt s slot).dir)

/-- The time of a slot of a cycle has come on a port, which does not send (R204, R219). -/
def slotNow (s : State) (slot : Nat) (p : Fin 4) (cycle : Nat) : Bool :=
  (slotPorts s slot).contains p && cycle == (dueAt s slot p).2 && atNet s (dueAt s slot p).1 && !portBusy s p

/-- The DATA frame of a slot out of a port, through the Shutter (R230, R253). -/
def sendData (s : State) (slot : Nat) (p : Fin 4) (ov rep : Bool) (payload : List Byte) : State :=
  let e := slotEnt s slot
  if shutterPass s slot p then
    portSend s p (nodeFrame (ownNode s) 3 slot (dueAt s slot p).2 e.dir ov rep payload)
  else shutterBlock s [p] e.dn

end Sys2Proof.Machine
end

