-- ==== Sys2Proof/Machine/Pair.lean ====
section
/-!
DEFINITION. Fail-over pairs and cascades (chapter 10).
-/

namespace Sys2Proof.Machine

/-! ## Pairs (10 R385 to R404) -/

/-- The module is a pair member. -/
def isPair (s : State) : Bool := rdL s R.PAIR_CFG_EN .x == 1

/-- Entitled to send outputs: no pair member, or the Hasp was held at the last commit (R388). -/
def entitled (s : State) : Bool := !isPair s || s.pair.entitled

/-- CRC-16 of R208 with an initial value. -/
def crc16i (init : Nat) (l : List Byte) : Nat := l.foldl crc16Byte init

/-- A slot that carries the own health word (R386). -/
def isHealthSlot (s : State) (slot : Nat) : Bool :=
  isPair s && (rdL s R.PAIR_SLOT_HEALTH_OUT .x == slot || (rdL s R.PAIR_SLOT_HEALTH_IN .x == slot && slot != 0))

/-- The peer's health word arrives in PEER_SLOT: the first valid copy of a cycle counts (R387). -/
def pairFrame (s : State) (f : Frame) : State :=
  if isPair s && rdL s R.PAIR_PEER_PEER_SLOT .x == f.slot && !s.pair.rx.any (fun r => r.1 == s.luosh.cyc) then
    { s with pair := { s.pair with rx := some (s.luosh.cyc, payloadOf f) } }
  else s

/-- The health word as it is sent: HSEQ and CHK filled (R395); from the first cycle start after an F4 fault ROLE 0, FIT 0, MODE 4,
FCLASS 4 (R421). -/
def healthWord (s : State) (hseq : Nat) : Nat :=
  let h := s.pair.health
  let base := if s.luosh.safeTx then
      2 ^ 60 * bits h 63 60 + 2 ^ 48 * (bits h 56 48) + 2 ^ 44 * 4 + 2 ^ 40 * 4 + 2 ^ 16 * bits h 31 16
    else h
  let w := base + 2 ^ 32 * (hseq % 256)
  w + crc16i (rdL s R.PAIR_CFG_PAIR_ID .x) ((beBytes 8 w).take 6)

/-- The health word for one of its slots; HSEQ advances once a cycle (R386, R395). -/
def sendHealth (s : State) : State × List Byte :=
  let c := rd s R.LU_CYCLE_NUM_CYCLE
  let q := if s.pair.hseqCycle = some c then s.pair.hseq else (s.pair.hseq + 1) % 256
  let w := healthWord s q
  let t := wrAll (wrAll { s with pair := { s.pair with hseq := q, hseqCycle := some c } } R.HEALTH_TX_HI_WORD (w / 2 ^ 32))
    R.HEALTH_TX_LO_WORD (w % 2 ^ 32)
  (t, beBytes 8 w)

/-- The output areas of all staged downstream payloads, in slot order (R397). -/
def dnAreas (s : State) : List Byte :=
  ((slotNums s).filter (fun n => (slotEnt s n).dn)).foldr (fun n acc =>
    let es := (stations s).filter (fun k => (stnEnt s k).outSlot == n && (stnEnt s k).outDlen + (stnEnt s k).outWlen != 0)
    let pay := dnPayload s n
    (List.range (slotEnt s n).plen).filterMap (fun i =>
      if es.any (fun k => let e := stnEnt s k; decide (e.outPos ≤ i ∧ i < e.outPos + e.outDlen + e.outWlen)) then pay[i]?
      else none) ++ acc) []

/-- FIT as a lane finds it (R396). -/
def pairFit (s : State) (l : Lane) : Bool :=
  s.modl.mode == .run && rdL s R.TUM_STAT_PROG_VALID l == 1 && decide (2 ≤ (admittedLanes s).length)
    && Lane.all.all (fun l => !(lane s l).dbgAct) && !s.degr.expired && !classPresent s 3 && !classPresent s 4
    && dbArmed s && rd s R.DB_STAT_LIVE_OK == 1 && rd s R.HASP_STAT_PAIR_ACT == 1 && rd s R.HASP_STAT_LINE_OK == 1
    && (luState s == luActive || luState s == luMaster) && (rd s R.LU_STAT_LINE_A == 1 || rd s R.LU_STAT_LINE_B == 1)
    && (admittedLanes s).all (fun l => decide (rdL s R.INJ_STAT_INJ_AGE l < 2048))
    && (admittedLanes s).all (fun l => rdL s R.SCRUB_STAT_LATE l == 0)

/-- TAKEBACK clears as soon as one of its conditions lapses; the time they have held is kept on TX (R399). -/
def takebackCheck (s : State) : State :=
  let ok := rdL s R.PAIR_CFG_PREF .x == 1 && rdL s R.PAIR_STAT_ROLE .x == 1 && rdL s R.PAIR_STAT_FIT .x == 1
    && rdL s R.PAIR_STAT_SHADOW_OK .x == 1
  if ok then { s with pair := { s.pair with tbSince := some (s.pair.tbSince.getD s.scan.tx) } }
  else wrAll { s with pair := { s.pair with tbSince := none } } R.PAIR_STAT_TAKEBACK 0

/-- The health word of a commit as a lane has it (Table 10.1). -/
def healthOf (s : State) (l : Lane) : Nat :=
  let f (r : Row) : Nat := rdL s r l
  2 ^ 60 * 0xA + 2 ^ 58 * f R.PAIR_STAT_ROLE + 2 ^ 57 * f R.PAIR_STAT_FIT + 2 ^ 56 * f R.PAIR_CFG_PREF
    + 2 ^ 55 * f R.PAIR_STAT_TAKEBACK + 2 ^ 54 * rd s R.HASP_STAT_HELD + 2 ^ 53 * rd s R.HASP_STAT_PEER_HELD
    + 2 ^ 52 * f R.PAIR_STAT_SHADOW_OK + 2 ^ 49 * (laneWord16 s % 8) + 2 ^ 44 * modeCode s.modl.mode
    + 2 ^ 40 * fClass s + 2 ^ 16 * s.pair.digest

/-- The 64 comparisons of R398 begin anew; SHADOW_OK, where it was 1, falls to 0, which records the F1 event. -/
def shadowRestart (s : State) : State :=
  let t := { s with pair := { s.pair with count := 0 } }
  if rdL s R.PAIR_STAT_SHADOW_OK .x = 1 then raise (wrAll t R.PAIR_STAT_SHADOW_OK 0) 0x0801 (rdL s R.PAIR_STAT_SHADOW_MISS .x) else t

/-- The Deadbolt's report at a commit: whether it holds the Hasp (R388); at its loss the shadow comparisons begin anew (R398). -/
def haspReport (s : State) : State :=
  if isPair s = false then s
  else
    let held := rd s R.HASP_STAT_HELD == 1
    let t := if s.pair.entitled && !held then shadowRestart s else s
    { t with pair := { t.pair with entitled := held } }

/-- FIT, voted as lane status at the commit, and the role it gives (R396). -/
def commitFit (s : State) : State :=
  match voteOne s (pairFit s) with
  | (t, some fit) => wrAll (wrAll t R.PAIR_STAT_FIT (b2n fit)) R.PAIR_STAT_ROLE (if s.pair.entitled then 2 else if fit then 1 else 0)
  | (t, none) => t

/-- The health word of the commit, voted (01 R30, R395). -/
def commitHealth (s : State) : State :=
  match voteOne s (healthOf s) with
  | (t, some h) => { t with pair := { t.pair with health := h } }
  | (t, none) => t

/-- What the commit does for a pair after the Hasp has acted: role, fitness, digest and health word (R395 to R397). -/
def commitPair (s : State) : State :=
  if isPair s = false then s
  else
    let s1 := commitFit s
    commitHealth (takebackCheck { s1 with pair := { s1.pair with digest := crc16 (dnAreas s1) } })

/-- One byte of a station's frozen input area in a lane's image. -/
def areaByte (s : State) (l : Lane) (n i : Nat) : Byte :=
  let e := stnEnt s n
  if i < e.inDlen then rb s (.image l) (e.inDofs + i) else rb s (.image l) (offWord + 4 * e.inWofs + (i - e.inDlen))

/-- The verdict a referee has in its input area at the freeze, as a lane reads it, where it is valid (R400). -/
def verdictOf (s : State) (l : Lane) (n : Nat) (prev : Option Nat) : Option Nat :=
  let pos := rdL s R.REF_CFG_REF_POS .x
  let bs := (List.range 8).map (fun i => areaByte s l n (pos + i))
  let v := ofBe bs
  let id := rdL s R.PAIR_CFG_PAIR_ID .x
  if rdL s R.STN_STAT_VALID .x n = 1 ∧ rdL s R.STN_STAT_AGED .x n = 0 ∧ bits v 63 60 = 0xB ∧ bits v 31 16 = id
    ∧ bits v 15 0 = crc16i id (bs.take 6) ∧ (bits v 59 50 = 0 ∨ bits v 59 50 = 1 ∨ bits v 59 50 = 0x3FF)
    ∧ prev ≠ some (bits v 47 40) then some v else none

/-- VSEQ in a referee's input area, as the first admitted lane has it. -/
def vseqOf (s : State) (n : Nat) : Nat := (areaByte s ((firstLane s).getD .x) n (rdL s R.REF_CFG_REF_POS .x + 2)).toNat

/-- The peer's health word at the freeze (R387). -/
def freezePeer (s : State) : State :=
  let rx := match s.pair.rx with
    | some (c, l) => if c = s.luosh.cyc then some l else none
    | none => none
  let ok := match rx with
    | some l => (ofBe l / 2 ^ 60 == 0xA) && l.length == 8
        && crc16i (rdL s R.PAIR_CFG_PAIR_ID .x) (l.take 6) == ofBe l % 2 ^ 16
    | none => false
  let w := match rx with | some l => ofBe l | none => 0
  let t := if ok then wrAll (wrAll s R.HEALTH_RX_HI_WORD (w / 2 ^ 32)) R.HEALTH_RX_LO_WORD (w % 2 ^ 32) else s
  wrAll { t with pair := { t.pair with rx := none } } R.PAIR_STAT_PEER_OK (b2n ok)

/-- The shadow comparison of a module that is not entitled (R398). -/
def freezeShadow (s : State) : State :=
  if entitled s then s
  else
    let w := 2 ^ 32 * rdL s R.HEALTH_RX_HI_WORD .x + rdL s R.HEALTH_RX_LO_WORD .x
    if rdL s R.PAIR_STAT_PEER_OK .x = 1 ∧ bits w 59 58 = 2 then
      let h := ((bits w 31 16 != s.pair.digest) :: s.pair.hist).take 64
      let n := min 64 (s.pair.count + 1)
      let miss := (h.filter id).length
      let ok := n == 64 && decide (miss ≤ rdL s R.PAIR_TIME_SH_TOL .x)
      let t := wrAll (wrAll { s with pair := { s.pair with hist := h, count := n } } R.PAIR_STAT_SHADOW_MISS miss)
        R.PAIR_STAT_SHADOW_OK (b2n ok)
      if rdL s R.PAIR_STAT_SHADOW_OK .x = 1 ∧ ok = false then raise t 0x0801 miss else t
    else s

/-- The verdicts of both referees as a lane reads them. -/
def verdictsOf (s : State) (l : Lane) : Option Nat × Option Nat :=
  (verdictOf s l (rdL s R.REF_CFG_REF0_NODE .x) s.pair.vseq0,
   if rdL s R.REF_CFG_REF1_EN .x = 1 then verdictOf s l (rdL s R.REF_CFG_REF1_NODE .x) s.pair.vseq1 else none)

/-- The node that a verdict names. -/
def verdictNode (v : Nat) : Nat := bits v 59 50

/-- The verdict in force among two: one that no other verdict contradicts (R400). -/
def verdictForce : Option Nat × Option Nat → Option Nat
  | (some a, some b) => if verdictNode a = verdictNode b then some a else none
  | (some a, none) => some a
  | (none, b) => b

/-- HASP_CTRL.TAKE as a lane sets it (R402). -/
def takeOf (s : State) (l : Lane) : Bool :=
  let force := verdictForce (verdictsOf s l)
  if rd s R.HASP_STAT_HELD = 1 then
    s.modl.mode == .run && !classPresent s 3 && !classPresent s 4
      && !(force.any (fun v => verdictNode v == rdL s R.PAIR_CFG_PEER_NODE .x))
  else force.any (fun v => verdictNode v == ownNode s) && rdL s R.PAIR_STAT_FIT .x == 1

/-- The verdict in force at the freeze and the TAKE it gives (R400, R402). -/
def freezeVerdict (s : State) : State :=
  let vs := verdictsOf s ((firstLane s).getD .x)
  let force := verdictForce vs
  let clash := vs.1.isSome && vs.2.isSome && force.isNone
  let two := rdL s R.REF_CFG_REF1_EN .x == 1
  let bad := b2n vs.1.isNone + b2n (two && vs.2.isNone) + b2n clash
  let s1 := Lane.all.foldl (fun t l => rcAddL t R.PAIR_EVT_VERD_ERR l bad) s
  let s2 := if clash then raise s1 0x0802 0 else s1
  let s3 := wrAll s2 R.PAIR_STAT_VERD_OK (b2n force.isSome)
  let s4 := match force with
    | some v => endCond (wrAll (wrAll (wrAll s3 R.PAIR_STAT_NAMED (verdictNode v)) R.VERDICT_HI_WORD (v / 2 ^ 32)) R.VERDICT_LO_WORD
        (v % 2 ^ 32)) 0x0803 0
    | none => s3
  { s4 with pair := { s4.pair with
    vseq0 := some (vseqOf s (rdL s R.REF_CFG_REF0_NODE .x)),
    vseq1 := if two then some (vseqOf s (rdL s R.REF_CFG_REF1_NODE .x)) else none,
    noVerdict := if force.isSome then 0 else s.pair.noVerdict + 1,
    take := ⟨takeOf s .x, takeOf s .y, takeOf s .z⟩,
    peerNamed := force.any (fun v => verdictNode v == rdL s R.PAIR_CFG_PEER_NODE .x) } }

/-- What a freeze does for a pair module. -/
def freezePair (s : State) : State :=
  if isPair s then takebackCheck (freezeVerdict (freezeShadow (freezePeer s))) else s

/-- Release of the Hasp: HASP_OUT stops (R392). -/
def haspRelease (s : State) : State :=
  if rd s R.HASP_STAT_HELD = 1 then
    raise (wr { s with pair := { s.pair with hout := false } } R.HASP_STAT_HELD 0) 0x0806 0
  else s

/-- A voted write to HASP_CTRL (R415): PAIR changes only where every axis is SAFE (`safe`); else the change is ignored with PAIR_REF. -/
def haspWrite (s : State) (safe : Bool) (v : Nat) : State :=
  let s1 := wr (wr s R.HASP_CTRL_PREF (bitAt v 2)) R.HASP_CTRL_TAKE (bitAt v 0)
  if bitAt v 1 = rd s R.HASP_CTRL_PAIR then s1
  else if safe then wr (wr (wr s1 R.HASP_CTRL_PAIR (bitAt v 1)) R.HASP_STAT_PAIR_ACT (bitAt v 1)) R.HASP_STAT_PAIR_REF 0
  else wr s1 R.HASP_STAT_PAIR_REF 1

/-- The voted HASP_CTRL at a commit (R391, R392). -/
def haspCommit (s1 : State) : State :=
  let take := rd s1 R.HASP_CTRL_TAKE = 1
  let on := rd s1 R.HASP_STAT_PAIR_ACT = 1
  if rd s1 R.HASP_STAT_HELD = 1 then
    if take ∧ on then s1 else haspRelease s1
  else if take then
    if on ∧ dbArmed s1 ∧ rd s1 R.DB_STAT_LIVE_OK = 1 ∧ 30 ≤ rd s1 R.HASP_STAT_FREE_US ∧ rd s1 R.HASP_STAT_PEER_HELD = 0 then
      let t := rcAdd (wr (wr { s1 with pair := { s1.pair with tTake := s1.time.now, hout := true } } R.HASP_STAT_HELD 1)
        R.HASP_STAT_TAKE_REF 0) R.HASP_EVT_TAKES
      raise (Lane.all.foldl (fun u l => rcAddL u R.PAIR_EVT_TAKES l) t) 0x0805 0
    else wr s1 R.HASP_STAT_TAKE_REF 1
  else s1

/-- A test burst has come within the last 2.5 s (R394). -/
def burstHeard (s : State) : Bool := s.pair.burstRx.any (fun t => decide (s.time.now < t + 2500000000))

/-- HASP_IN_FREE (R390, R394): no period has ended for 30 µs; FREE_US counts from now (Table 10.7). -/
def execHaspInFree (s : State) : Answer := whenLive s <|
  .next (if rd s R.HASP_STAT_PEER_HELD = 1 then
      wr (wr (wr { s with pair := { s.pair with freeSub := 0 } } R.HASP_STAT_PEER_HELD 0) R.HASP_STAT_FREE_US 0)
        R.HASP_STAT_LINE_OK (b2n (burstHeard s))
    else s)

/-- HASP_TEST_BURST (R394): one period on HASP_OUT, once every 1 s. -/
def execHaspTestBurst (s : State) : Answer := whenLive s <|
  .next (if rd s R.HASP_STAT_PAIR_ACT = 1 ∧ rd s R.HASP_STAT_HELD = 0 ∧ s.pair.burstTx.all (fun t => decide (t + 1000000000 ≤ s.time.now)) then
      emit { s with pair := { s.pair with burstTx := some s.time.now } } .haspBurst
    else s)

/-- HASP_BURST_RX (R394). -/
def execHaspBurstRx (s : State) : Answer := whenLive s <|
  .next (wr (rcAdd { s with pair := { s.pair with burstRx := some s.time.now } } R.HASP_EVT_TESTS_RX) R.HASP_STAT_LINE_OK 1)

/-- HASP_LINE_LOSS (R394): no burst within 2.5 s, and HASP_IN not held. -/
def execHaspLineLoss (s : State) : Answer := whenLive s <|
  .next (if rd s R.HASP_STAT_PEER_HELD = 1 ∨ burstHeard s then s else wr s R.HASP_STAT_LINE_OK 0)

/-- REFEREE_LOST (R400): no verdict in force for 8 consecutive freezes. -/
def execRefereeLost (s : State) : Answer := whenLive s <|
  .next (if isPair s ∧ 8 ≤ s.pair.noVerdict then raiseOn s 0x0803 0 0 else s)

/-- TAKEBACK_SET (R399): the conditions have held for HOLD_OFF, measured on TX. -/
def execTakebackSet (s : State) : Answer := whenLive s <|
  .next (let h := rdL s R.PAIR_TIME_HOLD_OFF .x
    match s.pair.tbSince with
    | some t => if isPair s ∧ h ≠ 0 ∧ h * 1000000000 ≤ s.scan.tx - t then wrAll s R.PAIR_STAT_TAKEBACK 1 else s
    | none => s)

/-- MASTER_YIELD (R403): at the start of the next cycle the master sends no CS frame and is ACTIVE. -/
def execMasterYield (s : State) : Answer := whenLive s <|
  .next (if yieldDue s && decide (s0Next s ≤ s.luosh.net) then luEnter s luActive else s)

/-! ## Cascades (10 R405 to R413) -/

/-- CL_UP (bit 0) or CL_DN (bit 1) is up. -/
def cxLink (s : State) (dn : Bool) : Bool := bitAt (rdL s R.CX_STAT_LINK .x) (b2n dn) == 1

/-- The link state of CL_UP or CL_DN set. -/
def setCxLink (s : State) (dn up : Bool) : State :=
  let l0 := if dn then cxLink s false else up
  let l1 := if dn then up else cxLink s true
  wrAll s R.CX_STAT_LINK (b2n l0 + 2 * b2n l1)

/-- The bytes of a cascade link frame up to its CRC: the big-endian header, then the data (Table 10.3). -/
def cxBytes (f : CxFrame) : List Byte :=
  [BitVec.ofNat 8 (16 * (f.ver % 16) + f.kind % 16), BitVec.ofNat 8 (64 * (f.src % 4) + 16 * (f.dst % 4) + bits f.resv 11 8),
   BitVec.ofNat 8 f.frag, BitVec.ofNat 8 f.frags] ++ beBytes 4 f.num ++ beBytes 2 f.dlen ++ beBytes 2 f.wlen
    ++ [BitVec.ofNat 8 f.state, BitVec.ofNat 8 f.resv] ++ beBytes 2 f.data.length ++ f.data

/-- A frame of a kind whose CRC is right (Table 10.3, R412). -/
def cxGood (f : CxFrame) (kind : Nat) : Bool :=
  f.ver == 1 && f.kind == kind && decide (f.data.length ≤ 256) && f.crc == crc32c (cxBytes f)

/-- A frame with its CRC. -/
def cxSealed (f : CxFrame) : CxFrame := { f with crc := crc32c (cxBytes f) }

/-- The STATE byte: mode and highest fault class (Table 10.3). -/
def cxState (s : State) : Nat := modeCode s.modl.mode + 16 * fClass s

/-- A SYNC or an MBOX frame of the own position; what Table 10.3 gives to DATA frames only is 0. -/
def cxOwn (s : State) (kind dst num : Nat) (data : List Byte) : CxFrame :=
  cxSealed ⟨1, kind, cxPos s, dst, 0, 0, num, 0, 0, cxState s, 0, data, 0⟩

/-- An MBOX frame leaves for a position (14 R489). -/
def cxMbox (s : State) (dst : Nat) (bytes : List Byte) : State :=
  emit s (.cx (decide (cxPos s < dst)) (cxOwn s 3 dst 0 bytes))

/-- SYNC_OK falls (R408). -/
def cxUnsync (s : State) : State :=
  if rdL s R.CX_STAT_SYNC_OK .x = 1 then
    raiseOn (wrAll { s with cx := { s.cx with ownGrid := true } } R.CX_STAT_SYNC_OK 0) 0x0811 0 0
  else s

/-- SYNC_OK is met (R408). -/
def cxSynced (s : State) : State := endCond (wrAll s R.CX_STAT_SYNC_OK 1) 0x0811 0

/-- CASCADE_LINK_UP (R406): the far end reports its position; the link stays down on a mismatch. -/
def execCascadeLinkUp (dn : Bool) (farPos : Fin 4) (delayNs : Nat) (s : State) : Answer := whenLive s <|
  .next (let ok := if dn then farPos.val == cxPos s + 1 else farPos.val + 1 == cxPos s
    if ok then
      endCond (setCxLink { s with cx := if dn then { s.cx with delayDn := delayNs } else { s.cx with delayUp := delayNs } } dn true)
        0x0810 (b2n dn)
    else raiseOn (setCxLink s dn false) 0x0810 farPos.val (b2n dn))

/-- CASCADE_LINK_DOWN (R408): the cascade master loses SYNC_OK with CL_DN. -/
def execCascadeLinkDown (dn : Bool) (s : State) : Answer := whenLive s <|
  .next (let t := setCxLink s dn false
    if cxOn s ∧ dn = true ∧ cxPos s = 0 then cxUnsync t else t)

/-- The SYNC frame of the cascade master: its scan period in µs and DELAY in ns, 4 B each, big-endian (R407). -/
def cxSyncFrame (s : State) (num delay : Nat) : CxFrame := cxOwn s 1 0 num (beBytes 4 (scanPeriodUs s) ++ beBytes 4 delay)

/-- SYNC leaves the cascade master at a freeze point, with the number of that point (R407). -/
def cxSyncTx (s : State) : State :=
  if cxOn s && cxPos s == 0 then
    let num := (s.cx.syncNum + 1) % 2 ^ 32
    let t := { s with cx := { s.cx with syncNum := num } }
    if cxLink s true then cxSynced (emit t (.cx true (cxSyncFrame t num ((tb1 s + 2 ^ 32 - s.scan.tFreeze) % 2 ^ 32)))) else cxUnsync t
  else s

/-- The correction of a member's grid by one SYNC (R408): standalone, a shift of the next point by at most 1 µs, one in a scan; with
Luosh, the rate of its own network as its master, within ±200 ppm. -/
def cxCorrect (s : State) (off : Int) : State :=
  if s.cx.ownGrid then s
  else if rdL s R.SCAN_CTRL_SRC .x = 1 then
    if s.cx.shifted then s else { s with cx := { s.cx with shift := max (-1000) (min 1000 (-off)), shifted := true } }
  else if luState s = luMaster then
    wr s R.LU_RATE_PPB (ofSigned 32 (max (-200000) (min 200000 (off * 1000000 / (s.cx.syncUs : Int)))))
  else s

/-- SYNC as a member takes it: number, period, and the master's freeze point, which is the start of the frame less DELAY (R407). -/
def cxTakeSync (s : State) (f : CxFrame) (sub : Fin 4) : State :=
  { s with cx := { s.cx with syncNum := f.num, syncUs := ofBe (f.data.take 4), since := 0,
                             syncAt := some ((tb1 s + sub.val + 2 ^ 32 - ofBe (f.data.drop 4) % 2 ^ 32) % 2 ^ 32) } }

/-- SYNC as it is forwarded: the hold that it gets and the link delay added to DELAY (R407). -/
def cxForwardSync (s : State) (f : CxFrame) (holdNs : Nat) : CxFrame :=
  cxSealed { f with data := f.data.take 4 ++ beBytes 4 (ofBe (f.data.drop 4) + holdNs + s.cx.delayUp) }

/-- CASCADE_SYNC_RX (R407, R408): the master's SYNC arrives on CL_UP. -/
def execCascadeSyncRx (dn : Bool) (f : CxFrame) (sub : Fin 4) (holdNs : Nat) (s : State) : Answer := whenLive s <|
  .next (if !dn && cxOn s && cxPos s != 0 && cxLink s false && cxGood f 1 && f.data.length == 8 then
      let t := cxTakeSync s f sub
      let u := if cxLink s true then emit t (.cx true (cxForwardSync s f holdNs)) else t
      match cxOff u u.scan.tFreeze with
      | some o => if !u.scan.gridOn then u
                  else if cxNear u u.scan.tFreeze then cxSynced (cxCorrect u o) else cxUnsync (cxCorrect u o)
      | none => u
    else s)

/-- SYNC_OK does not hold (R408): a member's freeze points outside the limit, or no SYNC within the last 3 scans; the master without a
running grid or without CL_DN. -/
def cxLapsed (s : State) : Bool :=
  if cxPos s = 0 then !s.scan.gridOn || !cxLink s true
  else !s.scan.gridOn || decide (3 < s.cx.since) || !cxNear s s.scan.tFreeze

/-- CASCADE_UNSYNC (R408). -/
def execCascadeUnsync (s : State) : Answer := whenLive s <| .next (if cxOn s && cxLapsed s then cxUnsync s else s)

/-- The cascade number of the freeze at hand (R409): the master's own; for a member that of the SYNC of this freeze point, which the last
SYNC gives by the periods that have passed since. -/
def cxNumber (s : State) : Nat :=
  if cxPos s = 0 then s.cx.syncNum
  else match s.cx.syncAt with
    | some a => let p := 1000 * s.cx.syncUs
      (s.cx.syncNum + ((s.scan.tFreeze + p / 2 + 2 ^ 32 - a) % 2 ^ 32) / p) % 2 ^ 32
    | none => (s.cx.num + 1) % 2 ^ 32

/-- The block of a member that is being received or held. -/
def cxBlk (s : State) (m : Nat) : CxBlock := Tab.get ⟨0, 0, [], 0, 0, 0⟩ s.cx.blocks m

/-- A block of a member is complete for a cascade number (R412). -/
def cxComplete (s : State) (m num : Nat) : Bool :=
  let b := cxBlk s m
  b.frags != 0 && b.num == num && (List.range b.frags).all (fun i => b.got.contains i)
    && b.dlen == rdL s R.CX_MEMB0_IN_DLEN .x m && b.wlen == rdL s R.CX_MEMB1_IN_WLEN .x m

/-- The other members of the cascade. -/
def cxMembers (s : State) : List Nat := (List.range (cxN s)).filter (· ≠ cxPos s)

/-- The number of a freeze's blocks: that of the freeze before (R411). -/
def cxPrev (num : Nat) : Nat := (num + 2 ^ 32 - 1) % 2 ^ 32

/-- A member whose block was complete at the last freeze has none complete yet for the freeze of number `num` (R411). -/
def cxIncomplete (s : State) (num : Nat) : Bool :=
  cxOn s && (cxMembers s).any (fun m => bitAt (rdL s R.CX_STAT_PRESENT .x) m == 1 && !cxComplete s m (cxPrev num))

/-- The place of a member's block in the common partition of the shared SRAM: 16 KiB for each of the three other members (01 Table 1.2;
the layout is log entry 103). -/
def cxHome (s : State) (m : Nat) : Nat := 0x4000 * (if m < cxPos s then m else m - 1)

/-- A DATA frame taken into its block (R412). -/
def cxStore (s : State) (f : CxFrame) : State :=
  if cxGood f 2 && (cxMembers s).contains f.src && decide (f.frag < f.frags) && decide (f.frags ≤ 64) then
    let b0 := cxBlk s f.src
    let b := if b0.num = f.num ∧ b0.frags = f.frags ∧ b0.dlen = f.dlen ∧ b0.wlen = f.wlen then b0
             else ⟨f.num, f.frags, [], f.dlen, f.wlen, f.state⟩
    let b' := { b with got := f.frag :: b.got, state := f.state }
    wbs { s with cx := { s.cx with blocks := Tab.put ⟨0, 0, [], 0, 0, 0⟩ s.cx.blocks f.src b' } } .shared
      (cxHome s f.src + 256 * f.frag) f.data
  else s

/-- Bytes written to the digital or word plane of every lane's image. -/
def toImages (s : State) (off : Nat) (l : List Byte) : State := Lane.all.foldl (fun t n => wbs t (.image n) off l) s

/-- A bit written to the digital image of every lane. -/
def bitToImages (s : State) (a : Nat) (v : Bool) : State := Lane.all.foldl (fun t n => setImgBit t n a v) s

/-- The substitute planes' base in lane SRAM (R83). -/
def substBase (s : State) (l : Lane) : Nat := 2 ^ 17 * rdL s R.SUBST_BASE_BASE l

/-- Input areas filled with substitute values (R83): digital bytes and words of a lane. -/
def substitute (s : State) (dofs dlen wofs wlen : Nat) : State :=
  Lane.all.foldl (fun t l =>
    copyMem (copyMem t (.laneSram l) (substBase t l + dofs) (.image l) dofs dlen)
      (.laneSram l) (substBase t l + 0x8000 + 4 * wofs) (.image l) (offWord + 4 * wofs) wlen) s

/-- The place of a lane's held input values, at image offsets: as the last freeze wrote them. -/
def heldAt (l : Lane) (o : Nat) : Nat := 0x20000 * l.idx + (if o < offWord then o else o - offWord + 0x8000)

/-- Input areas of the image written in every lane, and kept for a hold; `from_` gives where in a lane's memories an area's values
stand (02 R82). -/
def areasIn (s : State) (as : List (Nat × Nat)) (from_ : Lane → Nat → Region × Nat) : State :=
  Lane.all.foldl (fun t l => as.foldl (fun u a =>
    let r := from_ l a.1
    copyMem (copyMem u r.1 r.2 (.image l) a.1 a.2) r.1 r.2 .stnHeld (heldAt l a.1) a.2) t) s

/-- The values of the last freeze written into the image again, whatever the program has stored there since (02 R82, 03 R109). -/
def areasHold (s : State) (as : List (Nat × Nat)) : State :=
  Lane.all.foldl (fun t l => as.foldl (fun u a => copyMem u .stnHeld (heldAt l a.1) (.image l) a.1 a.2) t) s

/-- The two areas of a member's block in the image (R412). -/
def cxIn (s : State) (m : Nat) : List (Nat × Nat) :=
  [(rdL s R.CX_MEMB0_IN_DOFS .x m, rdL s R.CX_MEMB0_IN_DLEN .x m),
   (offWord + 4 * rdL s R.CX_MEMB1_IN_WOFS .x m, rdL s R.CX_MEMB1_IN_WLEN .x m)]

/-- PRESENT of a position. -/
def cxPresent (s : State) (m : Nat) (p : Bool) : State :=
  let w := rdL s R.CX_STAT_PRESENT .x
  wrAll s R.CX_STAT_PRESENT (if bitAt w m = b2n p then w else if p then w + 2 ^ m else w - 2 ^ m)

/-- Qualifier bits of a position and its CX_MSTAT (R412). -/
def cxShow (s : State) (m : Nat) (valid aged : Bool) (age : Nat) : State :=
  let q := rdL s R.CX_QUAL_QUAL_BASE .x + 2 * m
  let t := bitToImages (bitToImages s q valid) (q + 1) aged
  wrAll (wrAll (wrAll t R.CX_MSTAT_AGE age m) R.CX_MSTAT_AGED (b2n aged) m) R.CX_MSTAT_VALID (b2n valid) m

/-- Step 5 of R58 for one other member (R411, R412); a return is recorded where the loss was. -/
def freezeMember (num : Nat) (s : State) (m : Nat) : State :=
  let was := bitAt (rdL s R.CX_STAT_PRESENT .x) m == 1
  let seen := Tab.get false s.cx.seen m
  if cxComplete s m (cxPrev num) then
    let home := cxHome s m
    let dlen := rdL s R.CX_MEMB0_IN_DLEN .x m
    let s1 := areasIn s (cxIn s m) (fun _ o => (.shared, if o < offWord then home else home + dlen))
    let s2 := wrAll (cxShow s1 m true false 0) R.CX_MSTAT_STATE (cxBlk s m).state m
    let s3 := { s2 with cx := { s2.cx with seen := Tab.put false s2.cx.seen m true } }
    cxPresent (if was ∨ !Tab.get false s.faults.active (65536 * 0x0812 + m) then s3 else endCond (raise s3 0x0813 m) 0x0812 m) m true
  else
    let age := min 15 (rdL s R.CX_MSTAT_AGE .x m + 1)
    let hold := seen && decide (age ≤ rdL s R.CX_CTRL_CX_HOLD .x)
    let s1 := if hold then areasHold s (cxIn s m)
      else substitute s (rdL s R.CX_MEMB0_IN_DOFS .x m) (rdL s R.CX_MEMB0_IN_DLEN .x m) (rdL s R.CX_MEMB1_IN_WOFS .x m)
        (rdL s R.CX_MEMB1_IN_WLEN .x m)
    let s2 := Lane.all.foldl (fun t l => rcAddL t R.CX_MSTAT_MISS l 1 m) (cxShow s1 m hold seen age)
    cxPresent (if was then raiseOn s2 0x0812 m m else s2) m false

/-- The exchange at a freeze (R411, R412): the cascade number, the other members, the own qualifier bits. -/
def freezeCx (s : State) (waitNs : Nat) : State :=
  if cxOn s = false then s
  else
    let num := cxNumber s
    let t := (cxMembers s).foldl (freezeMember num) s
    let q := rdL s R.CX_QUAL_QUAL_BASE .x + 2 * cxPos s
    let t1 := cxPresent (bitToImages (bitToImages t q true) (q + 1) false) (cxPos s) true
    let t2 := Lane.all.foldl (fun u l => rcMaxL u R.CX_WAIT_MAX_NS l waitNs) (wrAll t1 R.CX_WAIT_NS_NS waitNs)
    { t2 with cx := { t2.cx with num := num, waiting := none, since := t2.cx.since + 1, shifted := false } }

/-- The exchange block of a commit in mode RUN, sent at once on both links (R409). -/
def commitCx (s : State) (block : List Byte) : State :=
  if cxOn s && s.modl.mode == .run then
    let n := (block.length + 255) / 256
    let frame (i : Nat) : CxFrame := cxSealed ⟨1, 2, cxPos s, 0, i, n, s.cx.num, rdL s R.CX_OUT_D_DLEN .x, rdL s R.CX_OUT_W_WLEN .x,
      cxState s, 0, (block.drop (256 * i)).take 256, 0⟩
    (List.range n).foldl (fun t i => [false, true].foldl (fun u d => if cxLink s d then emit u (.cx d (frame i)) else u) t) s
  else s

/-- The bytes of the exchange block in a lane's image (R409). -/
def cxBlockOf (s : State) (l : Lane) : List Byte :=
  if cxOn s then
    rbs s (.image l) (rdL s R.CX_OUT_D_OUT_DOFS .x) (rdL s R.CX_OUT_D_DLEN .x)
      ++ rbs s (.image l) (offWord + 4 * rdL s R.CX_OUT_W_OUT_WOFS .x) (rdL s R.CX_OUT_W_WLEN .x)
  else []

end Sys2Proof.Machine
end

