-- ==== Sys2Proof/Machine/LuoshData.lean ====
section
/-!
DEFINITION. Luosh data: slots sent and received, spare slots, the commit (chapter 5).
-/

namespace Sys2Proof.Machine

/-- The 64-bit words of a byte string, padded with zero bytes (R163). -/
def words64 (l : List Byte) : List Nat := (List.range ((l.length + 7) / 8)).map (fun i => ofLe ((l.drop (8 * i)).take 8))

/-- Prism votes a list of 64-bit words lane by lane as they are read (R164, R165): the released words, as far as the
vote releases them. -/
def voteWords (s : State) : Nat → PerLane (List Nat) → State × Option (List Nat)
  | 0, _ => (s, some [])
  | n + 1, w =>
    match voteOne s (fun l => (w.get l).headD 0) with
    | (t, none) => (t, none)
    | (t, some v) =>
      match voteWords t n ⟨w.x.tail, w.y.tail, w.z.tail⟩ with
      | (u, some vs) => (u, some (v :: vs))
      | (u, none) => (u, none)

/-- A byte string of each lane voted word by word as it is read for its slot (01 Table 1.3, R163). -/
def voteBytes (s : State) (n : Nat) (b : Lane → List Byte) : State × Option (List Byte) :=
  match voteWords s ((n + 7) / 8) ⟨words64 (b .x), words64 (b .y), words64 (b .z)⟩ with
  | (t, some ws) => (t, some ((ws.map (leBytes 8)).flatten.take n))
  | (t, none) => (t, none)

/-- The bytes that each lane has staged for a slot, voted for it. -/
def voteSlot (s : State) (slot : Nat) (b : Lane → List Byte) : State × Option (List Byte) := voteBytes s (slotEnt s slot).plen b

/-- What the frame of an own slot carries, as it is read for its slot: OV, REPEAT and payload, or nothing released. -/
abbrev SlotContent := Option (Bool × Bool × List Byte)

/-- A DN slot (R240, R249, 02 R55): what the lanes have staged at this cycle's commit is voted and kept; without a new commit the kept
payload goes out again; where none has been kept yet, by a new master, it is zero bytes (DESIGN CHOICE, log entry 140). -/
def downContent (s : State) (slot : Nat) : State × SlotContent :=
  if s.luosh.fresh then
    match voteSlot s slot (fun l => dnStaged s l slot) with
    | (t, some out) => ({ t with luosh := { t.luosh with dn := Tab.put [] t.luosh.dn slot out } }, some (true, false, out))
    | (t, none) => (t, none)
  else (s, some (true, true, (List.range (slotEnt s slot).plen).map (fun i => (Tab.get [] s.luosh.dn slot).getD i 0)))

/-- An own upstream slot: the health word (10 R386), or what the lanes have staged, voted. -/
def upContent (s : State) (slot : Nat) : State × SlotContent :=
  if isHealthSlot s slot then ((sendHealth s).1, some (false, false, (sendHealth s).2))
  else
    match voteSlot s slot (fun l => ownStaged s l slot) with
    | (t, some out) => (t, some (false, false, out))
    | (t, none) => (t, none)

/-- The frame of a slot and cycle on a port: its content is read once, for both lines (R230). -/
def slotSend (s : State) (slot : Nat) (p : Fin 4) (cycle : Nat) (content : State × SlotContent) : State :=
  let (t, c) := match Tab.get none s.luosh.sent slot with
    | some x => if x.cycle = cycle then (s, x.out) else content
    | none => content
  let u := { t with luosh := { t.luosh with sent := Tab.put none t.luosh.sent slot (some ⟨cycle, c⟩) } }
  match c with
  | some (ov, rep, out) => sendData u slot p ov rep out
  | none => u

/-- A DN slot of the master on a port: without valid outputs, after an F4 fault too, OV is 0 and the payload zero (R250, 11 R421). -/
def sendDown (s : State) (slot : Nat) (p : Fin 4) (cycle : Nat) : State :=
  if outputsValid s then slotSend s slot p cycle (downContent s slot)
  else sendData s slot p false (!s.luosh.fresh) (List.replicate (slotEnt s slot).plen 0)

/-- DATA_SLOT_TX (R219, R228, R234, R239, R240, R249): at its time on a line the controller sends the frame of a DN slot, as master since the
start of the cycle and entitled to send outputs, or of an own upstream slot. The rest of a cycle in which it originates nothing ends at the
next S_0 (DEDUCED, log entry 151). -/
def execDataSlotTx (slot : Fin 4096) (p : Fin 4) (cycle : Nat) (s : State) : Answer := whenLive s <|
  .next (let e := slotEnt s slot.val
    let up := luState s = luActive ∨ luState s = luMaster
    let joining := s.luosh.atStart < luActive ∧ cycle = rd s R.LU_CYCLE_NUM_CYCLE
    let muted := s.luosh.mute = true ∧ s.luosh.net < s0Next s
    if slot.val ≥ rd s R.LU_SLOT_CNT_COUNT ∨ e.kind ≠ 1 ∨ ¬ up ∨ joining ∨ muted ∨ !slotNow s slot.val p cycle then s
    else if e.dn then
      if luState s = luMaster ∧ s.luosh.atStart = luMaster ∧ entitled s then sendDown s slot.val p cycle else s
    else if e.owner = ownNode s then
      if s.modl.prismStop ∧ !isHealthSlot s slot.val then s else slotSend s slot.val p cycle (upContent s slot.val)
    else s)

/-! ## Received data (R227, R230, R59, R245, R247) -/

/-- The lanes whose staging the input broadcast writes: those not fenced, and the target of a hot repair from the end
of QUIESCE (R181). -/
def stagingLanes (s : State) : List Lane :=
  Lane.all.filter (fun l => !(lane s l).fenced || s.repair.target == some l)

/-- A station payload written into the input staging of the lanes at the image offsets of the station's input areas (01 "Lanes"). What
arrives after the upstream close of a freeze cycle is held for the next freeze (02 R59). -/
def stage (s : State) (n : Nat) (payload : List Byte) (late : Bool) : State :=
  let e := stnEnt s n
  let t := (stagingLanes s).foldl (fun t l =>
    wbs (wbs t (.image l) (offStageD + e.inDofs) (payload.take e.inDlen)) (.image l) (offStageW + 4 * e.inWofs)
      ((payload.drop e.inDlen).take e.inWlen)) s
  let mark (b : Bool) (m : Tab Nat) : Tab Nat := Tab.put 0 m n (if b then s.luosh.cyc + 1 else 0)
  let held := late && rd s R.LU_CYCLE_NUM_CYCLE % kSel s == 0
  { t with scan := { t.scan with staged := mark (!late) t.scan.staged, late := mark held t.scan.late } }

/-- Errors of the input broadcast: a corrected word is an F0 event, an uncorrectable one marks the lane invalid for the scan that the
input goes into (01 R28, R29). -/
def broadcastErrors (s : State) (corr unc : LaneSet) : State :=
  let s1 := corr.list.foldl (fun t l => raise t 0x0105 l.idx) s
  unc.list.foldl (fun t l => setLane t l (fun x => { x with bcastUnc := true })) s1

/-- STN_CNT.OFS: start of the last frame taken less its due time, saturating (Table 5.17). -/
def ofsSat (off : Int) : Nat := ofSigned 16 (if off > 32767 then 32767 else if off < -32767 then -32767 else off)

/-- A valid DATA or CLAIM frame has come on a line: counted, and the line restored (R231). -/
def frameSeen (s : State) (b : Bool) : State :=
  let t := rcAdd s R.LINE_RX_OK 1 (lineIdx b)
  if luState s = luMaster then lineSeen t b else lineUp t b

/-- The receive record of a spare slot in the common partition of the shared SRAM (01 Table 1.2): claim payloads, then one status word
for each spare slot (DESIGN CHOICE of places and layout, log entry 103). -/
def spareRecord (s : State) (i : Nat) (f : Frame) : State :=
  let t := if f.kind = 4 then wbs s .shared (0xC000 + 16 * i) (payloadOf f) else s
  w32 t .shared (0xE000 + 4 * i) (2 ^ 31 + 2 ^ 28 * (f.kind % 8) + 2 ^ 16 * f.node + f.cycle % 2 ^ 16)

/-- What a valid DATA frame brings: the first copy of either line is broadcast into the staging (R230, 02 R59, R248). -/
def dataTaken (s : State) (b : Bool) (f : Frame) (off : Int) (late : Bool) (corr unc : LaneSet) : State :=
  let s2 := { s with luosh := { s.luosh with rx := (f.node, b) :: s.luosh.rx } }
  if s.luosh.slots.contains f.slot then s2
  else
    let s3 := wr s2 R.STN_CNT1_OFS (ofsSat off) 0 f.node
    let s4 := pairFrame { s3 with luosh := { s3.luosh with slots := f.slot :: s3.luosh.slots } } f
    let e := slotEnt s f.slot
    let s5 := match spareIdx s f.slot with | some i => spareRecord s4 i f | none => s4
    let stn := if e.dn then none
      else if e.kind = 2 then spareTemplate s f.slot
      else if (stnEnt s f.node).en && !(stnEnt s f.node).spare && (stnEnt s f.node).inSlot == f.slot then some f.node
      else none
    match stn with
    | some n => broadcastErrors (stage s5 n (payloadOf f) late) corr unc
    | none => s5

/-- The scan's upstream phase has closed in the running cycle (R212, 02 R59). -/
def upstreamClosed (s : State) : Bool := decide (s0 s + tUC s ≤ s.luosh.net)

/-- DATA_FRAME_RX (R227, R230, 02 R59, R248): a valid DATA frame is taken, an invalid one discarded and counted. -/
def execDataFrameRx (p : Fin 4) (f : Frame) (sub : Fin 4) (corr unc : LaneSet) (s : State) : Answer := whenLive s <|
  .next (let b := portLine p
    if luState s < luSync ∨ f.kind ≠ 3 ∨ rd s R.PORT_LINK 0 p.val = 0 then s
    else if !fcsOk f then fcsCount s b
    else
      match fallOf s p f (arrival s p sub) with
      | none => countBad s b f .window
      | some x =>
        match slotCheck s p f x with
        | .ok => dataTaken (frameSeen s b) b f x.off (upstreamClosed s) corr unc
        | c => countBad s b f c)

/-- CLAIM_FRAME_RX (R245): a valid CLAIM in a free spare slot is recorded for the lanes. -/
def execClaimFrameRx (p : Fin 4) (f : Frame) (sub : Fin 4) (s : State) : Answer := whenLive s <|
  .next (let b := portLine p
    if luState s < luSync ∨ f.kind ≠ 4 ∨ rd s R.PORT_LINK 0 p.val = 0 then s
    else if !fcsOk f then fcsCount s b
    else
      match frameCheck s p f (arrival s p sub), spareIdx s f.slot with
      | .ok, some i =>
        let s1 := frameSeen s b
        if occupied s i then rcAdd s1 R.LINE_OWNER_ERR 1 (lineIdx b)
        else if s.luosh.slots.contains f.slot then s1
        else spareRecord { rcAdd s1 R.LU_CLAIM_CLAIMS with luosh := { s1.luosh with
            slots := f.slot :: s1.luosh.slots,
            claims := Tab.put ⟨0, 0, 0⟩ s1.luosh.claims i
              ⟨f.node, ofBe (f.body.take 4), ofBe ((f.body.drop 4).take 2)⟩ } } i f
      | .ok, none => rcAdd s R.LINE_OWNER_ERR 1 (lineIdx b)
      | c, _ => countBad s b f c)

/-- SPARE_RELEASE (R247): the count has reached RELEASE; the lanes free the slot at the next commit. -/
def execSpareRelease (i : Fin 512) (s : State) : Answer := whenLive s <|
  .next (if occupied s i.val ∧ rd s R.LU_TIMERS_RELEASE ≤ Tab.get 0 s.luosh.idle i.val ∧ luState s = luMaster
      ∧ !(s.luosh.releases.contains i.val) then
      { s with luosh := { s.luosh with releases := s.luosh.releases ++ [i.val] } }
    else s)

/-- The claims that a commit of the master grants, in ascending spare index (R245). A spare slot that no station table entry maps takes any device type
(DESIGN CHOICE, log entry 105). -/
def considerClaims (s : State) : State :=
  if rd s R.LU_CTRL_CLAIM_EN = 0 ∨ luState s ≠ luMaster then { s with luosh := { s.luosh with frozen := [] } }
  else
    let sp := spareSlots s
    let t := s.luosh.frozen.foldl (fun t e =>
      let (i, c) := e
      let dev := match sp[i]? with
        | some slot => (match spareTemplate t slot with | some n => (stnEnt t n).devType | none => 0)
        | none => 0
      let owns := (slotNums t).any (fun n => let x := slotEnt t n; x.kind == 1 && !x.dn && x.owner == c.node)
      let holds := (List.range sp.length).any (fun j => occupied t j && rd t R.SPARE_STAT_OCCUPANT 0 j == c.node)
        || t.luosh.grants.any (fun g => g.2.node == c.node && g.2.left != 0)
      let field := (List.range 4).find? (fun g => (Tab.get ⟨0, 0, 0⟩ t.luosh.grants g).left == 0)
      let taken := t.luosh.grants.any (fun g => g.2.spare == i && g.2.left != 0)
      match field with
      | some g =>
        if !occupied t i && !taken && c.sched == rd t R.LU_SCHED_ID_ID && (dev == 0 || dev == c.dev) && !owns && !holds then
          raise (rcAdd { t with luosh := { t.luosh with grants := Tab.put ⟨0, 0, 0⟩ t.luosh.grants g ⟨i, c.node, 3⟩ } }
            R.LU_CLAIM_GRANTS) 0x0403 (2 ^ 16 * i + c.node)
        else t
      | none => t) s
  { t with luosh := { t.luosh with frozen := [] } }

/-- What a lane puts to the vote for the CS frames (01 Table 1.3, R233): MODE, K and OWD, then the claims it considers. -/
def csBallot (s : State) (l : Lane) : List Nat :=
  [modeCode s.modl.mode, 2 ^ rdL s R.SCAN_CTRL_K_SEL l, rd s R.LU_TIMERS_OWD]
    ++ s.luosh.frozen.flatMap (fun e => [e.1, e.2.node, e.2.sched, e.2.dev])

/-- What the commit does for Luosh: releases, grants, and the voted content of the CS frames (R233, R245, R247). -/
def commitLuosh (s : State) (cs : List Nat) : State :=
  let s1 := s.luosh.releases.foldl (fun t i =>
    raise (setOcc t i false 0) 0x0404 (2 ^ 16 * i + rd t R.SPARE_STAT_OCCUPANT 0 i)) { s with luosh := { s.luosh with releases := [] } }
  let s2 := considerClaims s1
  { s2 with luosh := { s2.luosh with fresh := true, csVoted := (cs.getD 0 0, cs.getD 1 0, cs.getD 2 0) } }

/-! ## Checks of a schedule object (Table 5.7) -/

/-- The output areas of the enabled entries of a station table: plane byte offset and length. -/
def stnAreas (e : StnEnt) (out : Bool) : List (Nat × Nat) :=
  (if out then [(e.outDofs, e.outDlen), (offWord + 4 * e.outWofs, e.outWlen)]
    else [(e.inDofs, e.inDlen), (offWord + 4 * e.inWofs, e.inWlen)]).filter (fun a => a.2 ≠ 0)

/-- Two areas overlap. -/
def overlap (a b : Nat × Nat) : Bool := decide (a.1 < b.1 + b.2 ∧ b.1 < a.1 + a.2)

/-- No two entries of a list overlap. -/
def disjointAll : List (Nat × Nat) → Bool
  | [] => true
  | a :: l => l.all (fun b => !overlap a b) && disjointAll l

end Sys2Proof.Machine
end

