-- ==== Sys2Proof/Machine/Psl.lean ====
section
/-!
DEFINITION. The Penesh safety layer (chapter 6).
-/

namespace Sys2Proof.Machine

/-! ## The PSL section (06 Tables 6.2 to 6.4) -/

/-- The connection entry at an index of a PSL section. -/
def pslCfgAt (l : List Byte) (c : Nat) : PslCfg :=
  let w (k : Nat) : Nat := leAt l (0x10 + 32 * c + 4 * k) 4
  ⟨bitAt (w 0) 31 = 1, bitAt (w 0) 30 = 1, bitAt (w 0) 29 = 1, bits (w 0) 27 24, bits (w 0) 23 16, bits (w 0) 15 0,
   w 1, bits (w 2) 13 0, bits (w 3) 25 16, bits (w 3) 10 0, bits (w 4) 25 16, bits (w 4) 10 0, bitAt (w 5) 31 = 1,
   bits (w 5) 30 16, bitAt (w 5) 15 = 1, bits (w 5) 14 0, w 6⟩

/-- An area lies wholly within the digital or the word image and outside the fixed regions (R70, Tables 2.3, 2.4). -/
def areaFree (a : Nat × Nat) : Bool :=
  if a.1 < offWord then decide (0x200 ≤ a.1 ∧ a.1 + a.2 ≤ 0x8000)
  else decide (offWord + 4 * 256 ≤ a.1 ∧ a.1 + a.2 ≤ offWord + 4 * 16384)

/-- The input and output areas of every enabled station. -/
def stationAreas (s : State) : List (Nat × Nat) :=
  ((stations s).map (fun n => stnAreas (stnEnt s n) false ++ stnAreas (stnEnt s n) true)).flatten

/-- The delivered payloads and status words of the connections with EN = 1 (R264, R266, step 6 of Table 6.4). -/
def pslAreas (statBase : Nat) (cs : List PslCfg) : List (Nat × Nat) :=
  ((cs.filter (·.en)).map (fun c => planeArea c.inW c.inOfs c.len)).filter (fun a => a.2 ≠ 0)
    ++ (cs.zipIdx.filter (fun e => e.1.en)).map (fun e => (offWord + 4 * (statBase + e.2), 4))

/-- The payloads to send. -/
def pslOutAreas (cs : List PslCfg) : List (Nat × Nat) :=
  ((cs.filter (·.en)).map (fun c => planeArea c.outW c.outOfs c.len)).filter (fun a => a.2 ≠ 0)

/-- The checks of Table 6.4 on a PSL section; 0 is a pass (R264). -/
def pslCheck (s : State) (okMode : Bool) (l : List Byte) : Nat :=
  let own := leAt l 0 2
  let cnt := leAt l 2 2
  let all := (List.range cnt).map (pslCfgAt l)
  let cs := all.filter (·.en)
  let ids := cs.map (·.connId)
  let inLen (n : Nat) : Nat := let e := stnEnt s n; if e.en then e.inDlen + e.inWlen else 0
  let outLen (n : Nat) : Nat := let e := stnEnt s n; if e.en then e.outDlen + e.outWlen else 0
  let areas := pslAreas (leAt l 4 2) all ++ pslOutAreas all
  if !okMode ∨ own = 0 ∨ own = 0xFFFF ∨ cnt > 256 ∨ l.length ≠ 16 + 32 * cnt ∨ 16 < (cs.filter (·.eth)).length then 0x60
  else if cs.any (fun c => c.connId == 0 || c.connId == 0xFFFFFFFF) ∨ ids.eraseDups.length < ids.length then 0x61
  else if cs.any (fun c => decide (c.tExp < 1 ∨ 10000 < c.tExp ∨ 1000 * c.tExp < 3 * scanPeriodUs s)) then 0x62
  else if cs.any (fun c => decide (c.maxGap = 0 ∨ 128 < c.len ∨ c.peer = 0 ∨ c.peer = 0xFFFF ∨ c.peer = own)) then 0x65
  else if cs.any (fun c => !c.eth && decide (inLen c.rxNode < c.rxPos + 16 + c.len ∨ outLen c.txNode < c.txPos + 16 + c.len)) then 0x63
  else if !(areas.all areaFree) || !(disjointAll areas)
    || areas.any (fun a => (stationAreas s).any (fun b => overlap a b)) then 0x64
  else 0

/-! ## Frames (06 Table 6.1, R262, R263) -/

/-- Fletcher-16: sums modulo 255, s2 × 256 + s1 (R262). -/
def fletcher16 (l : List Byte) : Nat :=
  let (a, b) := l.foldl (fun (p : Nat × Nat) x => let s1 := (p.1 + x.toNat) % 255; (s1, (p.2 + s1) % 255)) (0, 0)
  b * 256 + a

/-- The CRC-32C of a frame, seeded with the connection's identity (R263). -/
def pslCrc (id : Nat) (l : List Byte) : Nat := Nat.xor (crcRefl 0x82F63B78 id l) 0xFFFFFFFF

/-- A PSL frame built (Table 6.1). -/
def pslFrame (own id type : Nat) (ps : Bool) (seq echo code : Nat) (payload : List Byte) : List Byte :=
  let body := beBytes 1 (16 + type) ++ beBytes 1 (b2n ps) ++ beBytes 2 own ++ beBytes 2 seq ++ beBytes 2 echo
    ++ beBytes 1 payload.length ++ beBytes 1 code ++ payload
  let x := body ++ beBytes 2 (fletcher16 body)
  x ++ leBytes 4 (pslCrc id x)

/-- TX of the current scan in a lane. -/
def txNow (s : State) (l : Lane) : Nat := rdL s R.TX_LO_TX l + 2 ^ 32 * rdL s R.TX_HI_TX l

/-- The PSL section taken over: every connection starts CLOSED, with 0x00 bytes as its delivered payload (R276). -/
def pslLoad (s : State) (l : List Byte) : State :=
  let t := { s with psl := { s.psl with own := leAt l 0 2, statBase := leAt l 4 2,
                                        conns := (List.range (leAt l 2 2)).map (pslCfgAt l), lanes := PerLane.all [] } }
  Lane.all.foldl (fun u m => (t.psl.conns.filter (·.en)).foldl (fun v cfg => pslBlank v m cfg) u) t

/-- Entry to START (Table 6.6): the own sequence numbers begin anew, so none sent before counts as a recent one (DESIGN CHOICE, log
entry 112). -/
def PslConn.restart (x : PslConn) : PslConn :=
  { x with st := .start, ps := false, txSeq := 0, rxSeq := 0, ring := [], err := 0, ackReq := false, valid := false,
           acked := false }

/-- Entry to ERROR with a code (Table 6.6); 0x0501 is recorded with index and code. -/
def pslFail (s : State) (l : Lane) (c : Nat) (cfg : PslCfg) (code : Nat) : State :=
  let x := pslGet s l c
  let t := pslBlank (pslPut s l c { x with st := .error, err := code, ackReq := !cfg.restart, tErr := txNow s l, valid := false }) l cfg
  if some l = firstLane s then raiseOn t 0x0501 (2 ^ 8 * c + code) c else t

/-- CVU[3] of a lane after it has computed the CRC of a frame's bytes, with CONN_ID loaded (R281, 16 R561): W 32, POLY 0x1EDC_6F41,
REFLECT 1, FINV 1, ORDER 0. -/
def pslCvu (s : State) (l : Lane) (id : Nat) (bytes : List Byte) : State :=
  let e := l.idx
  let s1 := wr (wr (wr (wr s R.CVU_CFG_WIDTH 32 e 3) R.CVU_CFG_REFLECT 1 e 3) R.CVU_CFG_FINV 1 e 3) R.CVU_CFG_ORDER 0 e 3
  let s2 := cvuPair (cvuPair s1 e 3 R.POLY_LO_POLY R.POLY_HI_POLY 0x1EDC6F41) e 3 R.INIT_LO_INIT R.INIT_HI_INIT id
  wr (cvuSet s2 e 3 (crcRefl 0x82F63B78 id bytes)) R.BYTES_COUNT bytes.length e 3

/-- The code with which a frame fails the checks of R272 before its type is acted on; 0 where it passes. The frame is the bytes that its
LEN gives: a datagram's bytes beyond them count for nothing, and bytes that it lacks read as 0x00 (DESIGN CHOICE, log entry 111). -/
def pslFrameCheck (cfg : PslCfg) (f : List Byte) : Nat :=
  let b (i : Nat) : Nat := (f.getD i 0).toNat
  let type := b 0 % 16
  let seq := b 4 * 256 + b 5
  let echo := b 6 * 256 + b 7
  let len := b 8
  let fixedBad : Bool :=
    if type = 2 then b 1 % 2 == 1 || seq == 0 || b 9 != 0
    else decide (128 ≤ b 1) || (type == 3 && b 1 % 2 == 1) || seq != 0 || echo != 0 || (type == 1 && b 9 != 0)
  if b 0 / 16 ≠ 1 ∨ type = 0 ∨ 3 < type ∨ b 1 / 2 % 64 ≠ 0 ∨ fixedBad = true then 0x01
  else if (type = 2 ∧ len ≠ cfg.len) ∨ (type ≠ 2 ∧ len ≠ 0) then 0x05
  else if pslCrc cfg.connId (f.take (12 + len)) ≠ leAt f (12 + len) 4 then 0x03
  else if fletcher16 (f.take (10 + len)) ≠ b (10 + len) * 256 + b (11 + len) then 0x02
  else if b 2 * 256 + b 3 ≠ cfg.peer then 0x04
  else 0

/-- The step of R268 from the last accepted sequence number, from 1 to 65,535. -/
def seqStep (seq rx : Nat) : Nat := let d := (seq + 65535 - rx) % 65535; if d = 0 then 65535 else d

/-- A new DATA frame accepted: ECHO confirms, the payload is delivered (R268, R269, R276). -/
def pslAccept (s : State) (l : Lane) (c : Nat) (cfg : PslCfg) (f : List Byte) : State :=
  let x := pslGet s l c
  let seq := ofBe ((f.drop 4).take 2)
  let echo := ofBe ((f.drop 6).take 2)
  let fv := (f.getD 1 0).getLsbD 7
  let conf := match x.ring.find? (fun e => e.1 == echo) with
    | some e => if echo = 0 then x.tConf else max x.tConf e.2
    | none => x.tConf
  let t := pslPut s l c { x with rxSeq := seq, tConf := conf, fvPeer := fv, valid := !fv }
  if fv then pslBlank t l cfg else pslDeliver t l cfg ((f.drop 10).take cfg.len)

/-- Entry to RUN (Table 6.6). -/
def pslRun (s : State) (l : Lane) (c : Nat) : State :=
  let t := pslPut s l c { pslGet s l c with st := .run, tConf := txNow s l }
  if some l = firstLane s then raise t 0x0502 c else t

/-- A present frame acted on by state and type (R272, Table 6.6). -/
def pslReceive (s0 : State) (l : Lane) (c : Nat) (cfg : PslCfg) (f : List Byte) : State :=
  let x := pslGet s0 l c
  if x.st = .closed ∨ x.st = .error then s0
  else
    let code := pslFrameCheck cfg f
    let s := if code = 0x01 ∨ code = 0x05 then s0 else pslCvu s0 l cfg.connId (f.take (12 + (f.getD 8 0).toNat))
    let type := (f.getD 0 0).toNat % 16
    let seq := ofBe ((f.drop 4).take 2)
    let echo := ofBe ((f.drop 6).take 2)
    if code ≠ 0 then pslFail s l c cfg code
    else if type = 2 then
      if seq = x.rxSeq then s
      else if cfg.maxGap < seqStep seq x.rxSeq then pslFail s l c cfg 0x06
      else if echo ≠ 0 ∧ !(x.ring.any (fun e => e.1 == echo)) then pslFail s l c cfg 0x07
      else if x.st = .run then pslAccept s l c cfg f
      else if echo = 0 then pslAccept (pslRun s l c) l c cfg f
      else s
    else if x.st = .run then pslFail s l c cfg 0x09
    else if type = 1 then
      if (f.getD 1 0).getLsbD 0 then pslRun s l c else pslPut s l c { x with ps := true }
    else s

/-- The frames present for a connection in a lane in this scan (R271). -/
def pslPresent (s : State) (l : Lane) (cfg : PslCfg) : List (List Byte) :=
  let fs := if cfg.eth then
      (s.psl.sampled.filter (fun e => e.1 == cfg.peerIp
        && (ofBe ((e.2.drop 2).take 2) == cfg.peer
          || (s.psl.conns.filter (fun k => k.en && k.eth && k.peerIp == cfg.peerIp)).length == 1))).map (·.2)
    else if rdL s R.STN_STAT_VALID l cfg.rxNode = 1 ∧ rdL s R.STN_STAT_AGED l cfg.rxNode = 0 then
      [(List.range (16 + cfg.len)).map (fun i => areaByte s l cfg.rxNode (cfg.rxPos + i))]
    else []
  fs.filter (fun f => f.getD 0 0 != 0)

/-- Time in RUN without a confirmation exceeds T_EXP (R270). -/
def pslTimedOut (s : State) (l : Lane) (c : Nat) (cfg : PslCfg) : Bool :=
  let x := pslGet s l c
  x.st == .run && decide (cfg.tExp * 1000000 < txNow s l - x.tConf)

/-- The test of R270, after the check of the scan's frames (R273). -/
def pslTimeout (s : State) (l : Lane) (c : Nat) (cfg : PslCfg) : State :=
  if pslTimedOut s l c cfg then pslFail s l c cfg 0x08 else s

/-- RESTART = 1, and T_EXP has passed since the entry to ERROR (Table 6.6). -/
def pslRestartDue (s : State) (l : Lane) (c : Nat) (cfg : PslCfg) : Bool :=
  let x := pslGet s l c
  x.st == .error && cfg.restart && decide (cfg.tExp * 1000000 ≤ txNow s l - x.tErr)

/-- A sampled acknowledge request names a connection that awaits one (R274, R275). -/
def pslAckDue (s : State) (l : Lane) (c : Nat) : Bool :=
  let x := pslGet s l c
  x.st == .error && x.ackReq && s.scan.sampled.any (fun e => e.2 == .pslAck none || e.2 == .pslAck (some c))

/-- The ways into START that a core pass evaluates before the received frame: out of CLOSED while the program runs and the module is
entitled, out of ERROR by RESTART or by an acknowledge request (R274, Table 6.6). -/
def pslEnter (s : State) (l : Lane) (c : Nat) (cfg : PslCfg) : State :=
  let x := pslGet s l c
  if x.st = .closed ∨ pslRestartDue s l c cfg then pslPut s l c x.restart
  else pslPut s l c (if pslAckDue s l c then { x.restart with acked := true } else { x with acked := false })

/-- The part of a lane's core pass that concerns one connection (R271 to R277): entry to START, the present frames, the time expectation,
the status word; CLOSED where the program has stopped, or while the pair module is not entitled (R389). In every state but RUN the delivered payload is 0x00 bytes (R276); the condition of 0x0501 is the state ERROR (11 R417). -/
def pslConnPass (l : Lane) (s : State) (e : Nat × PslCfg) : State :=
  let (c, cfg) := e
  let t := if entitled s && programRuns s then
      pslTimeout ((pslPresent s l cfg).foldl (fun u f => pslReceive u l c cfg f) (pslEnter s l c cfg)) l c cfg
    else pslPut s l c (pslGet s l c).close
  let u := if some l = firstLane s ∧ (pslGet t l c).st ≠ .error then endCond t 0x0501 c else t
  pslStatus (if (pslGet t l c).st = .run then u else pslBlank u l cfg) l c

/-- The PSL part of a lane's core pass, in ascending index (R271, R277). -/
def pslCorePass (s : State) (l : Lane) : State :=
  (pslConns s).foldl (pslConnPass l) s

/-- The payload to send (R284). -/
def pslPayload (s : State) (l : Lane) (cfg : PslCfg) : List Byte := rbs s (.image l) (planeArea cfg.outW cfg.outOfs cfg.len).1 cfg.len

/-- Bytes written into a station's output area of a lane's image. -/
def putOutArea (s : State) (l : Lane) (n pos : Nat) (f : List Byte) : State :=
  let e := stnEnt s n
  f.zipIdx.foldl (fun t x =>
    let i := pos + x.2
    if i < e.outDlen then wb t (.image l) (e.outDofs + i) x.1
    else wb t (.image l) (offWord + 4 * e.outWofs + (i - e.outDlen)) x.1) s

/-- The frames of a scan built by a lane (R267, R274): START with PS, DATA with a new SEQ, FAULT with the code; a
Luosh frame goes to its place in the output area, followed by 0x00 bytes (R259). -/
def pslBuild (s : State) (l : Lane) : State :=
  (pslConns s).foldl (fun t e =>
    let (c, cfg) := e
    let x := pslGet t l c
    let own := s.psl.own
    let seq := if x.txSeq = 65535 then 1 else x.txSeq + 1
    let f := match x.st with
      | .closed => []
      | .start => pslFrame own cfg.connId 1 x.ps 0 0 0 []
      | .run => pslFrame own cfg.connId 2 false seq x.rxSeq 0 (pslPayload t l cfg)
      | .error => pslFrame own cfg.connId 3 false 0 0 x.err []
    let y := if x.st = .run then { x with txSeq := seq, ring := ((seq, txNow s l) :: x.ring).take 16, frame := f } else { x with frame := f }
    let u := if f.isEmpty then pslPut t l c y else pslCvu (pslPut t l c y) l cfg.connId (f.take (f.length - 4))
    if cfg.eth then u
    else putOutArea u l cfg.txNode cfg.txPos (f ++ List.replicate (16 + cfg.len - f.length) 0)) s

/-- The digest of the status words of all connections (R282). -/
def pslDigest (s : State) (l : Lane) : Nat :=
  crc64 (((List.range s.psl.conns.length).map (fun c => leBytes 4 (pslGet s l c).status)).flatten)

/-- The frames for maintenance Ethernet that a lane has built: address and bytes (R260). -/
def pslEthFrames (s : State) (l : Lane) : List (Nat × List Byte) :=
  ((pslConns s).filter (fun e => e.2.eth)).filterMap (fun e =>
    let f := (pslGet s l e.1).frame
    if f.isEmpty then none else some (e.2.peerIp, f))

/-- A lane's core pass of the open scan has not yet handled the Penesh frames (R61). -/
def pslAhead (s : State) (l : Lane) : Bool := s.scan.isOpen && !(lane s l).tumEnded

/-- PSL_TIMEOUT (R270, R273): the connection's present frames are checked first; one that confirms a recent sequence number prevents
the timeout, and leaves all to the core pass. The image, which the pass of Tumbler holds, follows in the core pass (R277, 03 R110). -/
def execPslTimeout (c : Fin 256) (s : State) : Answer := whenLive s <|
  .next (match s.psl.conns[c.val]? with
    | some cfg => Lane.all.foldl (fun t l =>
        if cfg.en && pslAhead t l && (pslGet t l c.val).st == .run then
          let u := (pslPresent t l cfg).foldl (fun v f => pslReceive v l c.val cfg f) t
          if pslTimedOut u l c.val cfg then { pslTimeout u l c.val cfg with mem := t.mem, marks := t.marks } else t
        else t) s
    | none => s)

/-- PSL_ERROR_RESTART (R274): RESTART = 1 and T_EXP has passed since entry to ERROR; before the received frame of the scan is handled, in
the core pass, which shows it. -/
def execPslErrorRestart (c : Fin 256) (s : State) : Answer := whenLive s <|
  .next (match s.psl.conns[c.val]? with
    | some cfg => Lane.all.foldl (fun t l =>
        if cfg.en && pslAhead t l && pslRestartDue t l c.val cfg then pslPut t l c.val (pslGet t l c.val).restart else t) s
    | none => s)

/-- PSL_ETH_DATAGRAM_RX (R260): the Keeper writes the payload unchanged into the request ring; Penesh entries do not count among the 32
requests of R495 (DESIGN CHOICE, log entry 148). -/
def execPslEthDatagramRx (ip : Nat) (payload : List Byte) (s : State) : Answer := whenLive s <|
  .next (if keeperUp s then { s with psl := { s.psl with waiting := s.psl.waiting ++ [(ip, payload)] } } else s)

/-- An acknowledge request that names a connection is accepted where the core pass found it in ERROR with ACK_REQ = 1 and let it enter
START (R274, R275). -/
def pslAckOk (s : State) (l : Lane) (c : Nat) : Bool := (s.psl.conns[c]?).any (·.en) && (pslGet s l c).acked

/-- An accepted PSL acknowledge request has acted in a lane (R274, R275): on one connection, or on all that awaited one; each awaits no
more. -/
def pslAck (s : State) (l : Lane) (c : Option Nat) : State :=
  (pslConns s).foldl (fun t e =>
    if c.isNone ∨ c = some e.1 then pslPut t l e.1 { pslGet t l e.1 with acked := false } else t) s

end Sys2Proof.Machine
end

