-- ==== Sys2Proof/Machine/Deadbolt.lean ====
section
/-!
DEFINITION. The Deadbolt and the safety functions (chapter 7).
-/

namespace Sys2Proof.Machine

/-! ## Outputs, brakes and tests -/

/-- The enable of a side of Table 7.2, switched off for its off tests (R293). -/
def sideEnable (s : State) (n : Nat) : Bool :=
  !offNow s n && (if n < 8 then bitAt s.db.teS (n / 2) == 1 && bitAt s.db.te (n / 2) == 1
    else bitAt s.db.brkS ((n - 8) / 2) == 1 && bitAt s.db.brk ((n - 8) / 2) == 1)

/-- BRK_STAT.BLOCKED: any reason of R320, R323, R324 and R325. -/
def brkBlocked (x : BrkSt) : Bool := x.bCur || x.bFail || x.bGrace || x.bEnc || x.bSide

def btPhase (s : State) (b : Nat) : Nat := rd s R.BRK_STAT_BT_PHASE 0 b
/-- A brake test is in ENGAGE or LOAD. -/
def btRuns (s : State) (b : Nat) : Bool := btPhase s b == 1 || btPhase s b == 2

/-- END of a brake test with its result (Table 7.6, R322): the brake stays applied until BRK_REL is 0. -/
def btEnd (s : State) (b result : Nat) : State :=
  setBr (wr (wr s R.BRK_STAT_BT_PHASE 3 0 b) R.BRK_STAT_BT_RESULT result 0 b) b (fun x => { x with holdOff := true })

/-- A test ends ABORTED (R322). -/
def btAbort (s : State) (b : Nat) : State := if btRuns s b then raise (btEnd s b 3) 0x0603 b else s

/-- The brake enables of one brake under R319. -/
def brkWant (s : State) (b : Nat) : Bool :=
  match brkAxis s b with
  | none => false
  | some a =>
    let x := axSt s a
    dbArmed s && axState s a == axReleased && (x.preOk || par s (axBase a + 24) 2 == 0) && bitAt s.db.cmd (4 + b) == 1
      && !brkBlocked (brSt s b) && !btRuns s b && !(brSt s b).holdOff

/-- Tests whose axis has left RELEASED end, brake enables follow R319, and the readbacks follow the switches. -/
def dbSettle (s : State) : State :=
  let s1 := brkIdx.foldl (fun t b =>
    match brkAxis t b with
    | none => t
    | some a => if axState t a = axReleased then t else btAbort t b) s
  let s2 := brkIdx.foldl (fun t b =>
    wr { t with db := { t.db with brk := setB t.db.brk b (brkWant t b) } } R.BRK_STAT_BLOCKED (b2n (brkBlocked (brSt t b))) 0 b) s1
  dbReadback s2

/-! ## Axis reactions (R311 to R313, Table 7.5) -/

/-- The TE enables of an axis. -/
def teSet (s : State) (a : Nat) (on : Bool) : State := { s with db := { s.db with te := setB s.db.te a on } }

/-- The TE enables of an axis go to 0: SAFE, or LOCKED where `ack` (a lock that FAULT_ACK clears) or a lock until RST_N is due, by an
expired allowance too (R325). A voted TE_CMD of 0 counts from when it last left RELEASED (R311). -/
def axisOff (s : State) (a cause : Nat) (ack : Bool) : State :=
  let x := axSt s a
  let perm := x.lockNext != 0 || x.stopAtSs
  let s1 := wr (teSet s a false) R.AXIS_STAT_STATE (if perm || ack then axLocked else axSafe) 0 a
  let s2 := wr s1 R.AXIS_STAT_CAUSE (if x.stopAtSs then 9 else cause) 0 a
  dbSettle (setAx s2 a (fun y => { y with lockAck := !perm, teLow := axState s a == axSafe && x.teLow, preOk := false, stopAtSs := false }))

/-- The immediate reaction (I). `lock`: the condition locks the axis, from SAFE as well, until a FAULT_ACK. -/
def axisNow (s : State) (a cause : Nat) (lock : Bool) : State :=
  let st := axState s a
  if axKind s a = 0 ∨ st = axLocked then s
  else if st = axSafe then (if lock then axisOff s a cause true else s)
  else axisOff s a cause lock

/-- The stop reaction of an axis, TS or HS (R310). `lock` ≠ 0 is the cause that keeps it LOCKED until RST_N. -/
def axisStop (s : State) (a cause lock : Nat) : State :=
  let st := axState s a
  let mark (t : State) : State := if lock = 0 then t else setAx t a (fun x => { x with lockNext := lock })
  if axKind s a = 0 then s
  else if st = axReleased then
    let s1 := wr (wr (mark s) R.AXIS_STAT_STATE axStopping 0 a) R.AXIS_STAT_CAUSE cause 0 a
    dbSettle (setAx s1 a (fun x => { x with stopAt := s.time.now, v0 := absV s a, teLow := false, preOk := false,
                                             ssRun := 0 }))
  else if lock = 0 then s
  else if st = axStopping then wr (mark s) R.AXIS_STAT_CAUSE cause 0 a
  else
    let s1 := wr (wr (mark s) R.AXIS_STAT_STATE axLocked 0 a) R.AXIS_STAT_CAUSE cause 0 a
    setAx s1 a (fun x => { x with lockAck := false })

/-- All axes immediately, the all-axis row of Table 7.5. -/
def axesNow (s : State) : State := axIdx.foldl (fun t a => axisNow t a 1 false) s

/-- A demand on an axis begins, and is recorded and counted, or has ended (R327). -/
def demandNote (s : State) (a : Nat) (on : Bool) : State :=
  let t := if on && !(axSt s a).demand then raise (rcAdd s R.DB_EVT_DEMANDS) 0x0601 a else s
  setAx t a (fun x => { x with demand := on })

/-- The pairs of an axis that are not CLOSED. -/
def openPairs (s : State) (a : Nat) : List Nat :=
  (List.range 8).filter (fun p => bitAt (axMask s a) p == 1 && rd s R.SPAIR_STAT_STATE 0 p != 1)

/-- Demands of the safety inputs and of STOP_REQ act on every axis (Table 7.5). -/
def dbDemands (s : State) : State :=
  if !dbArmed s then s
  else axIdx.foldl (fun t a =>
    let o := openPairs t a
    let on := axKind t a != 0 && (!o.isEmpty || bitAt t.db.cmd (8 + a) == 1)
    let u := demandNote t a on
    if !on then u
    else if o.any (fun p => pairClass t p == 3) then axisNow u a 3 false
    else axisStop u a 7 0) s

/-- The pair rules are in effect and the Hasp is not held: every axis stays SAFE (10 R388). -/
def haspAway (s : State) : Bool := rd s R.HASP_STAT_PAIR_ACT == 1 && rd s R.HASP_STAT_HELD == 0

/-- Every axis that meets R311, and 10 R388, is released. -/
def dbRelease (s : State) : State :=
  if !(dbArmed s && !haspAway s && rd s R.DB_STAT_LIVE_OK == 1 && Lane.all.all (fun l => !(lane s l).dbgAct)) then s
  else
    dbSettle (axIdx.foldl (fun t a =>
      if axKind t a ≠ 0 ∧ axState t a = axSafe ∧ (openPairs t a).isEmpty
          ∧ (List.range 8).all (fun p => bitAt (axMask t a) p == 0 || pairClass t p != 1 || rd t R.SPAIR_STAT_PROOF 0 p == 1)
          ∧ bitAt t.db.cmd (8 + a) = 0 ∧ bitAt t.db.cmd a = 1 ∧ (axSt t a).teLow then
        setAx (teSet (wr t R.AXIS_STAT_STATE axReleased 0 a) a true) a
          (fun x => { x with relAt := t.time.now, preOk := false, teLow := false })
      else t) s)

/-- DBG_HOLD and its reaction (R194, R312). -/
def dbgHold (s : State) : State :=
  if Lane.all.any (fun l => (lane s l).dbgAct) then axesNow (wr s R.DB_STAT_DBG_HOLD 1)
  else dbRelease (wr s R.DB_STAT_DBG_HOLD 0)

/-! ## VGD, FAULT and liveness -/

/-- VGD is present while both pumps toggle and SV24 is in range (R290, R291, R630). -/
def vgdRise (s : State) : State :=
  let s1 := wr (wr s R.DB_STAT_PUMP_S_OK (b2n s.db.pumpS)) R.DB_STAT_PUMP_D_OK (b2n s.db.pumpD)
  if s.db.pumpS && s.db.pumpD && s.db.sv24 then dbSettle (wr s1 R.DB_STAT_VGD_OK 1) else s1

/-- VGD falls: the all-axis row of Table 7.5. -/
def vgdFall (s : State) : State := dbSettle (axesNow (dbReadback (wr s R.DB_STAT_VGD_OK 0)))

/-- State FAULT (R287): every switch enable 0, PUMP_D stops, the TPOs at 0 V, the Hasp released, F4 raised. -/
def dbFault (s : State) (fcode : Nat) : State :=
  let s1 := axesNow s
  let s2 := wr (wr (wr s1 R.DB_STAT_STATE dbFaultSt) R.DB_STAT_FCODE fcode) R.DB_STAT_PUMP_D_OK 0
  let s3 := dbReadback { s2 with db := { s2.db with te := 0, brk := 0, pumpD := false, tpo := 0 } }
  raise (haspRelease s3) 0x0610 fcode

/-- A liveness failure (R301). -/
def liveFail (s : State) : State :=
  if rd s R.DB_STAT_LIVE_FAIL = 1 then axesNow (wr s R.DB_STAT_LIVE_OK 0)
  else raise (haspRelease (axesNow (wr (wr s R.DB_STAT_LIVE_FAIL 1) R.DB_STAT_LIVE_OK 0))) 0x0611 0

/-- DB_INTERNAL_FAULT (R287): 0x4 has an event of its own; 0x5 needs a pump source that is stopped. -/
def execDbInternalFault (fcode : Fin 16) (s : State) : Answer := whenLive s <|
  .next (if dbLive s ∧ ([1, 2, 3].contains fcode.val ∨ (fcode.val = 5 ∧ !(s.db.pumpS && s.db.pumpD))) then dbFault s fcode.val else s)

/-- PARAM_CRC_RECHECK (R287): the CRC of the armed block differs from the armed value. -/
def execParamCrcRecheck (s : State) : Answer := whenLive s <|
  .next (if dbLive s ∧ s.db.armedOnce ∧ crc32c (rbs s .paramArmed 0 0x3FC) ≠ rd s R.DB_PARAM_ID_ID then dbFault s 4
    else s)

/-- VGD_LOSS (R290, R291): a pump source has stopped or left its range. -/
def execVgdLoss (pumpS pumpD : Bool) (s : State) : Answer := whenLive s <|
  .next (let lostS := pumpS || !s.db.pumpS
    let lostD := pumpD || !s.db.pumpD
    if !lostS && !lostD then s
    else
      let s1 := if lostS then wr s R.DB_STAT_PUMP_S_OK 0 else s
      let s2 := if lostD then wr s1 R.DB_STAT_PUMP_D_OK 0 else s1
      let s3 := vgdFall { s2 with db := { s2.db with pumpS := s2.db.pumpS && !lostS, pumpD := s2.db.pumpD && !lostD } }
      if lostS then haspRelease s3 else s3)

/-- SV24_LOSS (R630). -/
def execSv24Loss (s : State) : Answer := whenLive s <| .next (vgdFall { s with db := { s.db with sv24 := false } })

/-- SV24_RETURN (R630). -/
def execSv24Return (s : State) : Answer := whenLive s <| .next (vgdRise { s with db := { s.db with sv24 := true } })

/-! ## Challenge and response (R297 to R303) -/

/-- The response to a challenge with an initial value (R299). -/
def dbResponse (init c : Nat) : Nat := Nat.xor (crcRefl 0x82F63B78 init (leBytes 4 c)) 0xFFFFFFFF

/-- The initial values of the lanes' responses and of the Prism path. -/
def respInit : Lane → Nat
  | .x => 0x4C414E58
  | .y => 0x4C414E59
  | .z => 0x4C414E5A
def respPInit : Nat := 0x5052534D

/-- DB_RESP (R299): the last write since the previous check point counts. -/
def execDbResp (l : Lane) (v : Word) (s : State) : Answer := whenCore s l.idx <|
  .next { s with db := { s.db with resp := s.db.resp.set l (some v.toNat) } }

/-- A new challenge (R298). The taps of the LFSR stand in no rule, so the sequence is a free value that is never 0. -/
def newChallenge (s : State) : State :=
  let s1 := wr s R.DB_CHAL_C ((Config.challengeStep (rd s R.DB_CHAL_C)).val + 1)
  { s1 with db := { s1.db with resp := .all none, prism := none, strobeAt := some s.time.now, chkAt := some (cycleSerial s) } }

/-- P_CHK and its tolerance, in ns (R300). -/
def pChk (s : State) : Nat := 1000 * par s 4 4
def chkTol (s : State) : Nat := pChk s / 16 + 2000

/-- A strobe came within its window of the previous one. -/
def strobeOk (s : State) : Bool :=
  match s.db.strobeAt with
  | none => false
  | some t => decide (pChk s ≤ s.time.now - t + chkTol s ∧ s.time.now - t ≤ pChk s + chkTol s)

/-- The evaluation of a check point (R300, R301, R303). -/
def dbEvaluate (s : State) : State :=
  let c := rd s R.DB_CHAL_C
  let good (l : Lane) : Bool := s.db.resp.get l == some (dbResponse (respInit l) c)
  let bad (l : Lane) : Bool := (s.db.resp.get l).isSome && !good l
  let mask := b2n (good .x) + 2 * b2n (good .y) + 4 * b2n (good .z)
  let prismOk := s.db.prism == some (c, dbResponse respPInit c)
  let s1 := wr (wr (wr (wr s R.DB_CHECK_CHECKS (rd s R.DB_CHECK_CHECKS + 1)) R.DB_CHECK_STROBE_OK (b2n (strobeOk s)))
    R.DB_CHECK_PRISM_OK (b2n prismOk)) R.DB_CHECK_RESP_OK mask
  let s2 := Lane.all.foldl (fun t l => if bad l then raiseOn t 0x0607 l.idx l.idx
    else if good l then endCond t 0x0607 l.idx else t) s1
  if strobeOk s && prismOk && decide (2 ≤ (Lane.all.filter good).length) then dbRelease (wr s2 R.DB_STAT_LIVE_OK 1)
  else liveFail s2

/-- The Prism-path words of the lanes, voted as one at the vote point of every cycle (R299). -/
def votePresp (s : State) : State :=
  let ls := votingLanes s
  if s.modl.prismStop ∨ ls.length < 2 ∨ s.db.prism.isSome ∨ ls.all (fun l => (lane s l).presp.isNone) then s
  else
    let r := voteOne s (fun l => (lane s l).presp)
    let t := Lane.all.foldl (fun t l => setLane t l (fun x => { x with presp := none })) r.1
    match r.2.join with
    | some v => wr (wr { t with db := { t.db with prism := some v } } R.DB_PRESP_LO_C v.1) R.DB_PRESP_HI_RESP_P v.2
    | none => t

/-- What the strobe of a check point does in the Deadbolt (R298, R300, R302); none comes while the interim grid runs (R297). -/
def dbStrobe (s : State) : State :=
  if (rdL s R.SCAN_CTRL_SRC .x = 0 ∧ s.scan.interim) ∨ !(dbState s == dbConfig || dbArmed s) then s
  else if dbArmed s then
    let s1 := if strobeOk s then { s with db := { s.db with acq := true } } else s
    newChallenge (if s1.db.acq then dbEvaluate s1 else s1)
  else newChallenge s

/-- DB_CHECK_POINT (R297): once in each cycle, at its check point; the vote point lies 1 µs before it (R299). -/
def execDbCheckPoint (s : State) : Answer := whenLive s <|
  .next (if checkCome s 0 && checkAhead s then dbStrobe s else s)

/-- DB_STROBE_TIMEOUT (R301, R302). -/
def execDbStrobeTimeout (s : State) : Answer := whenLive s <|
  .next (match s.db.strobeAt with
    | some t =>
      if dbArmed s ∧ s.db.acq ∧ rd s R.DB_STAT_LIVE_FAIL = 0 ∧ pChk s + chkTol s ≤ s.time.now - t then liveFail s else s
    | none => s)

/-! ## Safety inputs and test pulses (R304 to R309) -/

/-- The pulse window of TPO_j is open (R305). -/
def windowOpen (s : State) (j : Nat) : Bool :=
  (pulseSt s j).run && decide ((pulseSt s j).start + 100000 ≤ s.time.now)

/-- A side stands inside its own pulse window. -/
def inOwnWindow (s : State) (i : Nat) : Bool := sideSrc s i != 0 && windowOpen s (sideSrc s i - 1)

/-- A pair enters FAULT (R305, Table 7.4): PROOF is cleared (R309), F1 0x0604. -/
def pairFault (s : State) (p cause : Nat) : State :=
  let s1 := if rd s R.SPAIR_STAT_STATE 0 p = 3 then s else raiseOn (rcAdd s R.DB_EVT_PAIR_FLT) 0x0604 p p
  let s2 := wr (wr (wr s1 R.SPAIR_STAT_STATE 3 0 p) R.SPAIR_STAT_FCAUSE cause 0 p) R.SPAIR_STAT_PROOF 0 0 p
  if cause = 3 ∨ cause = 4 then setSp s2 p (fun x => { x with fltAt := s.time.now }) else s2

/-- A side of a pair is at its closed level (R307). -/
def sideClosed (s : State) (i : Nat) : Bool :=
  xor (siSt s i).filt (i % 2 == 1 && pairAnti s (i / 2))

/-- A pair's state follows Table 7.4. -/
def pairMove (s : State) (p : Nat) : State :=
  let a := sideClosed s (2 * p)
  let b := sideClosed s (2 * p + 1)
  let st := rd s R.SPAIR_STAT_STATE 0 p
  let enter (t : State) (o : PairOrigin) : State :=
    setSp (wr t R.SPAIR_STAT_STATE 2 0 p) p (fun x => { x with origin := o, at_ := s.time.now })
  -- a pair that a FAULT has cleared proves itself anew (DEDUCED, log entry 134)
  let close (t : State) (proof : Bool) : State :=
    let t1 := wr t R.SPAIR_STAT_STATE 1 0 p
    if proof ∧ pairClass s p = 1 then wr t1 R.SPAIR_STAT_PROOF 1 0 p else t1
  if st = 0 then (if a && b then close s true else if a != b then enter s .fromOpen else s)
  else if st = 1 then (if !a && !b then wr s R.SPAIR_STAT_STATE 0 0 p else if a != b then enter s .fromClosed else s)
  else if st = 2 then
    if !a && !b then wr s R.SPAIR_STAT_STATE 0 0 p
    else if a && b then
      match (spSt s p).origin with
      | .fromClosed => pairFault s p 2
      | .fromOpen => close s true
      | .fromExit => close s false
    else s
  else if !a && !b && decide ((spSt s p).fltAt + tpP s ≤ s.time.now) then
    endCond (wr s R.SPAIR_STAT_STATE 0 0 p) 0x0604 p
  else s

/-- All pairs move, then demands act and axes that may be released are. -/
def pairsMove (s : State) : State := dbRelease (dbDemands ((List.range 8).foldl pairMove s))

/-- The filtered state of a side and its bit in PAIR_STAT; a change is an edge for the capture unit (08 R362). -/
def setFilt (s : State) (i : Nat) (v : Bool) : State :=
  let row := if i % 2 = 0 then R.SPAIR_STAT_SIDE1 else R.SPAIR_STAT_SIDE2
  let t := if (siSt s i).filt = v then s else edgeTo s (48 + i) v
  wr (setSi t i (fun x => { x with filt := v, paused := 0 })) row (b2n v) 0 (i / 2)

/-- SI_TERMINAL_CHANGE (R305, R306): outside its own window a side starts or restarts its count. -/
def execSiTerminalChange (i : Fin 16) (level : Bool) (s : State) : Answer := whenLive s <|
  .next (if dbState s = dbReset ∨ (siSt s i.val).raw = level then setSi s i.val (fun x => { x with raw := level })
    else
      let s1 := (List.range 4).foldl (fun t j =>
        if windowOpen t j then setPulse t j (fun x => { x with chg := setB x.chg i.val true }) else t) s
      if inOwnWindow s i.val then setSi s1 i.val (fun x => { x with raw := level })
      else setSi s1 i.val (fun x => { x with raw := level, cand := level, chgAt := s.time.now, paused := 0 }))

/-- SI_FILTER_EXPIRY (R306): the new level has held for T_FILT outside the side's own windows. -/
def execSiFilterExpiry (i : Fin 16) (s : State) : Answer := whenLive s <|
  .next (let x := siSt s i.val
    if dbLive s ∧ dbState s ≠ dbSelftest ∧ x.cand ≠ x.filt ∧ !inOwnWindow s i.val
        ∧ sideFilt s i.val + x.paused ≤ s.time.now - x.chgAt then
      pairsMove (setFilt s i.val x.cand)
    else s)

/-- PAIR_DISCREPANCY_TIMEOUT (R307): TRANS longer than T_DISC. -/
def execPairDiscrepancyTimeout (p : Fin 8) (s : State) : Answer := whenLive s <|
  .next (if dbLive s ∧ rd s R.SPAIR_STAT_STATE 0 p.val = 2
      ∧ (spSt s p.val).at_ + msNs (par s (0x16 + 8 * p.val) 2) ≤ s.time.now then
    pairsMove (pairFault s p.val 1) else s)

/-- The levels of all terminals. -/
def siLevels (s : State) : Nat := (List.range 16).foldl (fun m i => m + 2 ^ i * b2n (siSt s i).raw) 0

/-- The pulse of TPO_j is due: j × TP_P / 4 after the epoch and once every TP_P, within a clock of the Deadbolt (R304). -/
def pulseDue (s : State) (j : Nat) : Bool :=
  let off := j * tpP s / 4
  !(pulseSt s j).run && decide (s.db.epoch + off ≤ s.time.now) && decide ((s.time.now - s.db.epoch - off) % tpP s < 50)

/-- The pulse of TPO_j in SELFTEST is due: from 2.5 ms to 3.5 ms after the release of RST_N, one after the other (13 Table 13.3; when within
the step each starts: DESIGN CHOICE, log entry 141). -/
def selftestPulseDue (s : State) (j : Nat) : Bool :=
  let from_ := s.modl.rstAt + 2500000
  let had (i : Nat) : Bool := decide (from_ ≤ (pulseSt s i).start)
  decide (from_ ≤ s.time.now ∧ s.time.now + 200000 ≤ from_ + 1000000) && [0, 1, 2, 3].all (fun i => !(pulseSt s i).run)
    && !had j && (List.range j).all had

/-- TEST_PULSE (R304): TPO_j goes to 0 V. -/
def execTestPulse (j : Fin 4) (s : State) : Answer := whenLive s <|
  .next (if ((dbState s = dbConfig ∨ dbArmed s) ∧ pulseDue s j.val) ∨ (dbState s = dbSelftest ∧ selftestPulseDue s j.val) then
    setPulse { s with db := { s.db with tpo := setB s.db.tpo j.val false } } j.val
      (fun _ => ⟨true, s.time.now, siLevels s, 0, 0⟩) else s)

/-- PULSE_WINDOW_END (R304, R305, R306): the pulse ends, in SELFTEST after 200 µs; pulse faults are found, cross connections noted, and the counts of
the sides of this source resume or restart. -/
def execPulseWindowEnd (j : Fin 4) (s : State) : Answer := whenLive s <|
  .next (let q := pulseSt s j.val
    if dbState s = dbSelftest ∧ q.run ∧ q.start + 200000 ≤ s.time.now then
      setPulse { s with db := { s.db with tpo := setB s.db.tpo j.val true } } j.val (fun x => { x with run := false })
    else if dbState s ≠ dbConfig ∧ !dbArmed s ∨ !q.run ∨ s.time.now < q.start + tpW s then s
    else
      let own (i : Nat) : Bool := sideSrc s i == j.val + 1
      let s1 := setPulse { s with db := { s.db with tpo := setB s.db.tpo j.val true } } j.val (fun x =>
        { x with run := false, cross := (List.range 16).foldl (fun m i =>
          m + 2 ^ i * b2n (sideSrc s i != 0 && !own i && bitAt q.chg i == 0 && !(siSt s i).raw && bitAt q.lv i == 1)) 0 })
      let s2 := (List.range 16).foldl (fun t i =>
        if own i then
          let x := siSt t i
          if x.raw = x.cand then
            setSi t i (fun y => { y with paused := y.paused + (t.time.now - max y.chgAt (q.start + 100000)) })
          else setSi t i (fun y => { y with cand := y.raw, chgAt := t.time.now, paused := 0 })
        else t) s1
      pairsMove ((List.range 16).foldl (fun t i =>
        if own i && bitAt q.chg i == 0 && (siSt t i).raw then pairFault t (i / 2) 3 else t) s2))

/-- CROSS_CONNECTION_CHECK (R305): 100 µs after the window the sides noted read 1 again. -/
def execCrossConnectionCheck (j : Fin 4) (s : State) : Answer := whenLive s <|
  .next (let q := pulseSt s j.val
    if (dbState s = dbConfig ∨ dbArmed s) ∧ q.cross ≠ 0 ∧ q.start + tpW s + 100000 ≤ s.time.now then
      pairsMove ((List.range 16).foldl (fun t i =>
        if bitAt q.cross i == 1 && (siSt t i).raw then pairFault t (i / 2) 4 else t)
        (setPulse s j.val (fun x => { x with cross := 0 })))
    else s)

/-- DB_SELFTEST_END (R470, R324): CONFIG with the pairs as read, or FAULT 0xF. -/
def execDbSelftestEnd (pass : Bool) (s : State) : Answer := whenLive s <|
  .next (if dbState s ≠ dbSelftest then s
    else if !pass then dbFault s 0xF
    else
      let s1 := { wr s R.DB_STAT_STATE dbConfig with db := { s.db with pumpD := true, tpo := 0xF, epoch := s.time.now, pulses := [] } }
      let s2 := (List.range 16).foldl (fun t i =>
        setFilt (setSi t i (fun x => { x with cand := x.raw, chgAt := t.time.now })) i (siSt t i).raw) s1
      let s3 := (List.range 8).foldl (fun t p =>
        let a := sideClosed t (2 * p)
        let b := sideClosed t (2 * p + 1)
        setSp (wr t R.SPAIR_STAT_STATE (if a && b then 1 else if a || b then 2 else 0) 0 p) p
          (fun x => { x with origin := .fromExit, at_ := t.time.now })) s2
      let s4 := brkIdx.foldl (fun t b =>
        setBr (wr t R.BRK_STAT_BT_DUE 1 0 b) b (fun x => { x with dueAt := t.time.now })) s3
      vgdRise s4)

/-! ## Speed, standstill and times (R316 to R319) -/

/-- The speed of an encoder from the counts at the computations (R316); while fewer are held than T_GATE spans, the oldest counts as the one
T_GATE earlier (DESIGN CHOICE, log entry 142). -/
def speedOf (h : List Nat) (gate : Nat) : Int :=
  let n := match h with | [] => 0 | c :: _ => toSigned 32 (c + 2 ^ 32 - h.getD (4 * gate) (h.getLastD c))
  n * (1000 / (gate : Int))

/-- The limit of R317 at a time after the stop; the parameters in their own units, the time in ns. -/
def envelope (v0 vtol amon tdlyMs vss elapsedNs : Nat) : Nat :=
  if elapsedNs ≤ msNs tdlyMs then v0 + vtol
  else max (v0 + vtol - amon * (elapsedNs - msNs tdlyMs) / 1000000000) vss

/-- One axis at a computation: envelope, standstill run. -/
def axisCompute (s : State) (a : Nat) : State :=
  if axKind s a = 0 then s
  else
    let v := absV s a
    let x := axSt s a
    let s1 := setAx s a (fun y => { y with ssRun := if v ≤ axVss s a then y.ssRun + 1 else 0 })
    let o := axBase a
    if axState s a = axStopping ∧ axKind s a = 1
        ∧ v > envelope x.v0 (par s (o + 4) 4) (par s (o + 8) 4) (par s (o + 12) 2) (axVss s a) (s.time.now - x.stopAt) then
      axisNow (raise (rcAdd s1 R.DB_EVT_VIOL) 0x0608 a) a 4 true
    else s1

/-- One brake at a computation: movement in LOAD (Table 7.6), the allowance's remaining time. -/
def brakeCompute (s : State) (b : Nat) : State :=
  let s1 := match brkAxis s b with
    | some a =>
      if btPhase s b = 2 ∧ (toSigned 32 (rd s R.ENC_CNT_COUNT 0 a + 2 ^ 32 - (brSt s b).cLoad)).natAbs
          > par s (brkBase b + 8) 2 then
        dbSettle (setBr (raiseOn (btEnd s b 2) 0x060D b b) b (fun x => { x with bFail := true }))
      else s
    | none => s
  if rd s1 R.BRK_STAT_ALLOW_RUN 0 b = 1 then
    wr s1 R.BRK_STAT_ALLOW_S (60 * par s (brkBase b + 12) 1 - (s.time.now - (brSt s b).allowAt) / 1000000000) 0 b
  else s1

/-- The count and the speed of an encoder at a computation (R316). T_GATE is the armed one; an axis without one uses 4 ms. -/
def speedNote (s : State) (a : Nat) : State :=
  let h := (rd s R.ENC_CNT_COUNT 0 a :: Tab.get [] s.db.hist a).take 33
  let g := if axKind s a = 0 then 4 else axGate s a
  wr { s with db := { s.db with hist := Tab.put [] s.db.hist a h } } R.ENC_SPD_V (ofSigned 32 (speedOf h g)) 0 a

/-- SPEED_COMPUTATION (R316, R317, R321), every 250 µs. -/
def execSpeedComputation (s : State) : Answer := whenLive s <|
  .next (if dbLive s ∧ s.db.compAt + 250000 ≤ s.time.now then
      let t := axIdx.foldl speedNote { s with db := { s.db with compAt := s.time.now } }
      brkIdx.foldl brakeCompute (axIdx.foldl axisCompute t)
    else s)

/-- A standstill of an axis: |v| at or below V_SS at every computation for T_SS, of which there are 4 in 1 ms after the first (R318, its
example). -/
def still (s : State) (a : Nat) : Bool := decide (4 * par s (axBase a + 14) 2 < (axSt s a).ssRun)

/-- STANDSTILL (R318, R325): a travel stop ends; an expired allowance stops its holding axis. -/
def execStandstill (a : Fin 4) (s : State) : Answer := whenLive s <|
  .next (if !dbArmed s || !still s a.val then s
    else if axKind s a.val = 1 ∧ axState s a.val = axStopping then
      axisOff s a.val (rd s R.AXIS_STAT_CAUSE 0 a.val) false
    else if axKind s a.val = 2 ∧ (axSt s a.val).stopAtSs then axisStop s a.val 9 9
    else s)

/-- T_STOP_MAX_EXPIRY (R312). -/
def execTStopMaxExpiry (a : Fin 4) (s : State) : Answer := whenLive s <|
  .next (if axKind s a.val = 1 ∧ axState s a.val = axStopping
      ∧ msNs (par s (axBase a.val + 20) 2) ≤ s.time.now - (axSt s a.val).stopAt then
    axisNow (raise s 0x060A a.val) a.val 6 true else s)

/-- T_HOLD_EXPIRY (R310, R312). -/
def execTHoldExpiry (a : Fin 4) (s : State) : Answer := whenLive s <|
  .next (if axKind s a.val = 2 ∧ axState s a.val = axStopping
      ∧ msNs (par s (axBase a.val + 22) 2) ≤ s.time.now - (axSt s a.val).stopAt then
    axisOff s a.val (rd s R.AXIS_STAT_CAUSE 0 a.val) false else s)

/-- T_PRE_ELAPSED (R319). -/
def execTPreElapsed (a : Fin 4) (s : State) : Answer := whenLive s <|
  .next (if axKind s a.val = 2 ∧ axState s a.val = axReleased
      ∧ msNs (par s (axBase a.val + 24) 2) ≤ s.time.now - (axSt s a.val).relAt then
    dbSettle (setAx s a.val (fun x => { x with preOk := true })) else s)

/-! ## Side faults, brake currents, brake tests (R293, R320 to R326) -/

/-- A brake side fault (R325). `both`: recorded against both sides. -/
def brakeSideFault (s : State) (b mask : Nat) : State :=
  let old := rd s R.BRK_STAT_SIDE_FLT 0 b
  let new := old ||| mask
  if new = old then s
  else
    let s1 := raiseOn (rcAdd (wr s R.BRK_STAT_SIDE_FLT new 0 b) R.DB_EVT_SIDE_FLT) 0x060C b b
    if !(brSt s b).everRel then dbSettle (setBr s1 b (fun x => { x with bSide := true }))
    else
      let s2 := if rd s1 R.BRK_STAT_ALLOW_RUN 0 b = 1 ∨ rd s1 R.BRK_STAT_ALLOW_EXP 0 b = 1 then s1
        else wr (wr (setBr s1 b (fun x => { x with allowAt := s.time.now })) R.BRK_STAT_ALLOW_RUN 1 0 b)
          R.BRK_STAT_ALLOW_S (60 * par s (brkBase b + 12) 1) 0 b
      if new = 3 then (match brkAxis s2 b with | some a => axisStop s2 a 0xA 0xA | none => s2) else s2

/-- A side found stuck: sides 0 to 7 are TE1[0], TE2[0], …, 8 to 11 BRK_P[0], BRK_M[0], … (R293, R326). -/
def sideStuck (s : State) (n : Nat) (on : Bool) : State :=
  let s1 := if on then { s with db := { s.db with stuckOn := setB s.db.stuckOn n true } }
    else { s with db := { s.db with stuckOff := setB s.db.stuckOff n true } }
  let s2 := dbReadback s1
  if n < 8 then
    let row := if n % 2 = 0 then R.AXIS_STAT_TE1_FLT else R.AXIS_STAT_TE2_FLT
    if rd s row 0 (n / 2) = 1 then s2
    else axisStop (raiseOn (rcAdd (wr s2 row 1 0 (n / 2)) R.DB_EVT_SIDE_FLT) 0x060B n (n / 2)) (n / 2) 8 8
  else brakeSideFault s2 ((n - 8) / 2) (2 ^ (n % 2))

/-- SIDE_STUCK_FAULT (R293): stuck on while the enable is 0, stuck off while it is 1. -/
def execSideStuckFault (side : Fin 12) (on : Bool) (s : State) : Answer := whenLive s <|
  .next (if dbLive s ∧ sideEnable s side.val = !on then sideStuck s side.val on else s)

/-- The off test of a side is due: once every 1 s, and 50 ms apart from that of the other side of its output (R293). -/
def offTestDue (s : State) (n : Nat) : Bool :=
  let past (m gap : Nat) : Bool := let t := Tab.get 0 s.db.offAt m; t == 0 || decide (t + gap ≤ s.time.now + 1)
  past n 1000000000 && past (if n % 2 = 0 then n + 1 else n - 1) 50000000

/-- SIDE_OFF_TEST (R293): the enabled side is off for its test pulse; a terminal that does not follow is stuck on. -/
def execSideOffTest (side : Fin 12) (follows : Bool) (s : State) : Answer := whenLive s <|
  .next (if dbLive s ∧ sideEnable s side.val ∧ offTestDue s side.val then
      let t := dbReadback { s with db := { s.db with offAt := Tab.put 0 s.db.offAt side.val (s.time.now + 1) } }
      if follows then t else sideStuck t side.val true
    else s)

/-- The brake is blocked as a current fault (R320). -/
def brakeCurrentBlock (s : State) (b : Nat) : State :=
  dbSettle (setBr (raiseNew s 0x060E b b) b (fun x => { x with bCur := true }))

/-- BRAKE_CURRENT_FAULT (R320): the current of a brake released for 100 ms; outside I_MIN to I_MAX it blocks. -/
def execBrakeCurrentFault (b : Fin 2) (mA : Nat) (s : State) : Answer := whenLive s <|
  .next (let s1 := wr s R.BRK_I_MA (min mA 0xFFF) 0 b.val
    if dbArmed s ∧ brkReleased s b.val ∧ msNs 100 ≤ s.time.now - (brSt s b.val).relAt
        ∧ (mA < par s (brkBase b.val) 2 ∨ par s (brkBase b.val + 2) 2 < mA) then brakeCurrentBlock s1 b.val
    else s1)

/-- BRAKE_OVERCURRENT (R320): above 3.5 A both sides go off. -/
def execBrakeOvercurrent (b : Fin 2) (mA : Nat) (s : State) : Answer := whenLive s <|
  .next (let s1 := wr s R.BRK_I_MA (min mA 0xFFF) 0 b.val
    if dbLive s ∧ 3500 < mA then brakeCurrentBlock s1 b.val else s1)

/-- BRAKE_APPLIED_CURRENT (R320): above 20 mA for 10 ms while applied, against each side whose readback shows it
conducting, else against both. -/
def execBrakeAppliedCurrent (b : Fin 2) (mA : Nat) (s : State) : Answer := whenLive s <|
  .next (let s1 := wr s R.BRK_I_MA (min mA 0xFFF) 0 b.val
    let m := b2n (sideConducts s (8 + 2 * b.val)) + 2 * b2n (sideConducts s (9 + 2 * b.val))
    if dbLive s ∧ brkReleased s b.val = false ∧ (brSt s b.val).appAt + msNs 10 ≤ s.time.now ∧ 20 < mA
      then brakeSideFault s1 b.val (if m = 0 then 3 else m) else s1)

/-- BRAKE_TEST_ENGAGE_END (Table 7.6). -/
def execBrakeTestEngageEnd (b : Fin 2) (s : State) : Answer := whenLive s <|
  .next (match brkAxis s b.val with
    | some a =>
      if btPhase s b.val = 1 ∧ msNs (par s (brkBase b.val + 4) 2) ≤ s.time.now - (brSt s b.val).btAt then
        setBr (wr s R.BRK_STAT_BT_PHASE 2 0 b.val) b.val (fun x => { x with cLoad := rd s R.ENC_CNT_COUNT 0 a })
      else s
    | none => s)

/-- BRAKE_TEST_PASS (Table 7.6, R323). -/
def execBrakeTestPass (b : Fin 2) (s : State) : Answer := whenLive s <|
  .next (if btPhase s b.val = 2 ∧ msNs (par s (brkBase b.val + 4) 2 + par s (brkBase b.val + 6) 2)
      ≤ s.time.now - (brSt s b.val).btAt then
    let s1 := wr (btEnd s b.val 1) R.BRK_STAT_BT_DUE 0 0 b.val
    let s2 := setBr s1 b.val (fun x => { x with bFail := false, bGrace := false, passAt := s.time.now })
    raise (endCond (endCond (dbSettle s2) 0x0606 b.val) 0x060D b.val) 0x0602 b.val
  else s)

/-- BT_DUE is reported for a brake that the armed block assigns (R324). -/
def btDueNote (s : State) (b : Nat) : State :=
  if (brkAxis s b).isSome ∧ rd s R.BRK_STAT_BT_DUE 0 b = 1 then raiseNew s 0x0606 b b else s

/-- BT_INTERVAL_EXPIRY (R324). -/
def execBtIntervalExpiry (b : Fin 2) (s : State) : Answer := whenLive s <|
  .next (if (brkAxis s b.val).isSome ∧ rd s R.BRK_STAT_BT_DUE 0 b.val = 0
      ∧ 3600000000000 * par s (brkBase b.val + 10) 1 ≤ s.time.now - (brSt s b.val).passAt then
    btDueNote (setBr (wr s R.BRK_STAT_BT_DUE 1 0 b.val) b.val (fun x => { x with dueAt := s.time.now })) b.val
  else s)

/-- BT_GRACE_EXPIRY (R324). -/
def execBtGraceExpiry (b : Fin 2) (s : State) : Answer := whenLive s <|
  .next (if (brkAxis s b.val).isSome ∧ rd s R.BRK_STAT_BT_DUE 0 b.val = 1
      ∧ 60000000000 * par s (brkBase b.val + 11) 1 ≤ s.time.now - (brSt s b.val).dueAt then
    dbSettle (setBr s b.val (fun x => { x with bGrace := true }))
  else s)

/-- BRK_ALLOW_EXPIRY (R325): at once where the axis is SAFE, else at the next standstill. -/
def execBrkAllowExpiry (b : Fin 2) (s : State) : Answer := whenLive s <|
  .next (if rd s R.BRK_STAT_ALLOW_RUN 0 b.val = 1
      ∧ 60000000000 * par s (brkBase b.val + 12) 1 ≤ s.time.now - (brSt s b.val).allowAt then
    let s1 := wr (wr (wr s R.BRK_STAT_ALLOW_RUN 0 0 b.val) R.BRK_STAT_ALLOW_EXP 1 0 b.val) R.BRK_STAT_ALLOW_S 0 0 b.val
    let s2 := raiseOn s1 0x060F b.val b.val
    match brkAxis s2 b.val with
    | none => s2
    | some a =>
      if axState s2 a = axReleased then setAx s2 a (fun x => { x with stopAtSs := true }) else axisStop s2 a 9 9
  else s)

/-- DB_ENCODER_FAULT (R315, R312, R324). -/
def execDbEncoderFault (e : Fin 4) (s : State) : Answer := whenLive s <|
  .next (if !dbLive s then s
    else
      let d := { s.db with encFlt := setB s.db.encFlt e.val true, encAt := Tab.put 0 s.db.encAt e.val s.time.now }
      let s1 := raiseNew { s with db := d } 0x0609 e.val e.val
      if axKind s e.val = 1 then axisNow s1 e.val 5 true
      else if axKind s e.val = 2 ∧ axBrk s e.val < 2 then
        dbSettle (setBr s1 (axBrk s e.val) (fun x => { x with bEnc := true }))
      else s1)

/-- DB_ENCODER_FAULT_CLEAR (R315): the cause has been absent for 10 ms. -/
def execDbEncoderFaultClear (e : Fin 4) (s : State) : Answer := whenLive s <|
  .next (if bitAt s.db.encFlt e.val = 1 ∧ Tab.get 0 s.db.encAt e.val + msNs 10 ≤ s.time.now then
    endCond { s with db := { s.db with encFlt := setB s.db.encFlt e.val false } } 0x0609 e.val else s)

/-! ## The commit (R295, R296, R311, R314, R321, R322, R329) -/

/-- A rising edge of FAULT_ACK (R314, R320, R324). -/
def dbAck (s : State) : State :=
  let s1 := axIdx.foldl (fun t a =>
    if axState t a = axLocked ∧ (axSt t a).lockAck ∧ bitAt t.db.encFlt a = 0 then
      setAx (wr t R.AXIS_STAT_STATE axSafe 0 a) a (fun x => { x with lockAck := false })
    else t) s
  brkIdx.foldl (fun t b =>
    let enc := match brkAxis t b with | some a => bitAt t.db.encFlt a == 1 | none => false
    endCond (setBr t b (fun x => { x with bCur := false, bEnc := x.bEnc && enc })) 0x060E b) s1

/-- The edges of BT_REQ (R321, R322). -/
def dbTests (s : State) (old new : Nat) : State :=
  brkIdx.foldl (fun t b =>
    let o := bitAt old (12 + b)
    let n := bitAt new (12 + b)
    if o = 0 ∧ n = 1 then
      match brkAxis t b with
      | some a =>
        if dbArmed t ∧ axState t a = axReleased ∧ absV t a ≤ axVss t a ∧ !btRuns t b then
          setBr (wr t R.BRK_STAT_BT_PHASE 1 0 b) b
            (fun x => { x with btAt := t.time.now, cEng := rd t R.ENC_CNT_COUNT 0 a })
        else raise t 0x0605 b
      | none => raise t 0x0605 b
    else if o = 1 ∧ n = 0 then btAbort t b
    else t) s

/-- The voted command word of a commit acts (R295, R296, Table 7.5). -/
def dbCommand (s : State) (cmd : Nat) : State :=
  let old := s.db.cmd
  let s1 := { s with db := { s.db with cmd := cmd, teS := cmd % 16, brkS := bits cmd 5 4 } }
  if !(dbArmed s || dbState s == dbConfig) then dbReadback s1
  else
    let s2 := axIdx.foldl (fun t a => if bitAt cmd a = 0 then axisNow t a 2 false else t) s1
    let s3 := if bitAt old 16 = 0 ∧ bitAt cmd 16 = 1 then dbAck s2 else s2
    let s4 := brkIdx.foldl (fun t b =>
      if bitAt cmd (4 + b) = 0 then setBr t b (fun x => { x with holdOff := false }) else t) (dbTests s3 old cmd)
    let s5 := axIdx.foldl (fun t a => if bitAt cmd a = 0 then setAx t a (fun x => { x with teLow := true }) else t) s4
    dbSettle (dbRelease (dbDemands s5))

/-- The conditions of Table 7.5 that already last when a block is armed act on the axes it names: a TE side fault, an encoder fault, a
brake whose second side has failed or whose allowance has expired (R312, R324 to R326). -/
def dbStanding (s : State) : State :=
  axIdx.foldl (fun t a =>
    let enc := bitAt t.db.encFlt a == 1
    let t1 := if rd t R.AXIS_STAT_TE1_FLT 0 a = 1 ∨ rd t R.AXIS_STAT_TE2_FLT 0 a = 1 then axisStop t a 8 8 else t
    if axKind t a = 1 then (if enc then axisNow t1 a 5 true else t1)
    else if axKind t a = 2 ∧ axBrk t a < 2 then
      let b := axBrk t a
      let t2 := if enc then setBr t1 b (fun x => { x with bEnc := true }) else t1
      let t3 := if rd t R.BRK_STAT_SIDE_FLT 0 b = 3 ∧ (brSt t b).everRel then axisStop t2 a 0xA 0xA else t2
      if rd t R.BRK_STAT_ALLOW_EXP 0 b = 1 then axisStop t3 a 9 9 else t3
    else t1) s

/-- A commit that carries a write of DB_CTRL.CFG (R329). -/
def dbCfgCommit (s : State) (cfg : Nat) : State :=
  let old := rd s R.DB_CTRL_CFG
  let s1 := wr s R.DB_CTRL_CFG cfg
  if cfg = 1 then
    if dbArmed s then
      if axesSafe s then wr (wr (wr s1 R.DB_STAT_STATE dbConfig) R.DB_STAT_CFG_REF 0) R.DB_STAT_LIVE_OK 0
      else wr s1 R.DB_STAT_CFG_REF 1
    else s1
  else if old = 1 ∧ dbState s = dbConfig then
    let blk := rbs s .paramWin 0 1024
    let e := paramCheck blk
    if e = 0 then
      let s2 := copyMem s1 .paramWin 0 .paramArmed 0 1024
      let s3 := wr (wr (wr s2 R.DB_PARAM_ID_ID (parAt blk 0x3FC 4)) R.DB_STAT_STATE dbArmedSt) R.DB_STAT_LIVE_OK 0
      let s4 := { s3 with db := { s3.db with armedOnce := true, acq := false, strobeAt := none },
                          luosh := if s.db.armedOnce then s3.luosh else { s3.luosh with listenAt := s.time.now } }
      pairsMove (dbStanding (brkIdx.foldl btDueNote s4))
    else wr s1 R.DB_STAT_PERR e
  else s1

/-- Every pair of the Deadbolt: the points of Table 7.3 as the 8 bytes at bit 512. -/
def dbPoints (s : State) : List Byte :=
  let bit (l : List Bool) : Nat := l.foldr (fun b m => b2n b + 2 * m) 0
  let r8 := List.range 8
  let byte (l : List Bool) : Byte := BitVec.ofNat 8 (bit l)
  let st (n : Nat) := axIdx.map (fun a => axState s a == n)
  [byte (r8.map (fun i => (siSt s i).filt)), byte (r8.map (fun i => (siSt s (i + 8)).filt)),
   byte (r8.map (fun p => rd s R.SPAIR_STAT_STATE 0 p == 1)), byte (r8.map (fun p => rd s R.SPAIR_STAT_STATE 0 p == 3)),
   byte (r8.map (fun p => pairClass s p != 1 || rd s R.SPAIR_STAT_PROOF 0 p == 1)),
   byte (st axReleased ++ st axStopping),
   byte (st axLocked ++ brkIdx.map (fun b => brkReleased s b && decide (par s (brkBase b) 2 ≤ rd s R.BRK_I_MA 0 b)
      && decide (rd s R.BRK_I_MA 0 b ≤ par s (brkBase b + 2) 2)) ++ brkIdx.map (fun b => btPhase s b == 2)),
   byte (brkIdx.map (fun b => (brkAxis s b).isSome && rd s R.BRK_STAT_BT_DUE 0 b == 1)
      ++ brkIdx.map (fun b => rd s R.BRK_STAT_ALLOW_RUN 0 b == 1)
      ++ [rd s R.DB_STAT_LIVE_OK == 1, rd s R.DB_STAT_DBG_HOLD == 1, dbArmed s])]

/-- DEBUG_PORT_ACCESS (R192 to R195): an access through an open port of a lane sets its DBG_ACT; a closed port does nothing. `none` is an
access to the Keeper, which touches no lane and sets no DBG_ACT. -/
def execDebugPortAccess (l : Option Lane) (s : State) : Answer := whenLive s <|
  .next (match l with
    | none => s
    | some l =>
      if (lane s l).portOpen then
        let s1 := setLane s l (fun x => { x with dbgAct := true })
        dbgHold (if (lane s l).admitted then excludeLane s1 l 0x0A else syncLanes s1)
      else s)

/-! ## The Hasp and the axes (10 R388, R393) -/

/-- The axes follow the Hasp: SAFE while it is not held, else by R311 (10 R388). -/
def haspHold (s : State) : State := if haspAway s then axesNow s else dbRelease s

/-- HASP_IN_HELD (10 R390, R393): three valid periods; a Hasp held here conflicts. -/
def execHaspInHeld (s : State) : Answer := whenLive s <|
  .next (let s0 := { s with pair := { s.pair with freeSub := 0 } }
    let t := wr (wr (wr s0 R.HASP_STAT_PEER_HELD 1) R.HASP_STAT_FREE_US 0) R.HASP_STAT_LINE_OK 1
    if rd s R.HASP_STAT_HELD = 1 then
      if s.time.now ≤ s.pair.tTake + 100000 then
        if rd s R.HASP_CTRL_PREF = 0 then haspHold (wr (haspRelease t) R.HASP_STAT_TAKE_REF 1) else t
      else haspHold (raiseOn (wr (haspRelease t) R.HASP_STAT_CONFLICT 1) 0x0804 0 0)
    else t)

/-- The Hasp at a commit with the voted TAKE (10 R388, R391, R415): after the voted command word has acted. -/
def commitHasp (s : State) (take : Bool) : State :=
  let t := if isPair s then wr s R.HASP_CTRL_TAKE (b2n take) else s
  haspReport (haspHold (haspCommit t))

/-- Without entitlement Prism drives TE_S and BRK_S at 0 (10 R388). -/
def linesHold (s : State) : State :=
  if entitled s then s else dbSettle { s with db := { s.db with teS := 0, brkS := 0 } }

end Sys2Proof.Machine
end

