-- ==== Sys2Proof/Machine/FieldIo.lean ====
section
/-!
DEFINITION. Field inputs and outputs (chapter 8).
-/

namespace Sys2Proof.Machine

/-- Before its first conversion a channel shows the band of code 0, alarm low (DESIGN CHOICE, log entry 114). -/
def AiSt.zero : AiSt := ⟨[], 0, 5, false, 0, false, 0⟩
def aiSt (s : State) (c : Nat) : AiSt := Tab.get AiSt.zero s.fio.ai c
def setAi (s : State) (c : Nat) (x : AiSt) : State := { s with fio := { s.fio with ai := Tab.put AiSt.zero s.fio.ai c x } }
def EncSt.zero : EncSt := ⟨0, 0, 0, false, 0⟩
def encSt (s : State) (e : Nat) : EncSt := Tab.get EncSt.zero s.fio.enc e
def setEnc (s : State) (e : Nat) (f : EncSt → EncSt) : State :=
  { s with fio := { s.fio with enc := Tab.put EncSt.zero s.fio.enc e (f (encSt s e)) } }

/-! ## Reflex conditions (R349, R351) -/

/-- The condition of a cell: its source in its polarity, with its gate. A source outside the channels or encoders
reads 0. -/
def cellCond (s : State) (i : Nat) : Bool :=
  let src := rd s R.RFX0_SRC 0 i
  let cnt := toSigned 32 (encSt s (src % 4)).count
  let thr := toSigned 32 (rd s R.RFX1_THRESH 0 i)
  let base : Bool :=
    match rd s R.RFX0_SKIND 0 i with
    | 0 => src < 48 && rd s R.CH_STAT_STATE 0 src == 1
    | 1 => decide (thr ≤ cnt)
    | 2 => decide (cnt ≤ thr)
    | _ => Config.reservedSource s.free i
  let pol := xor base (rd s R.RFX0_COND 0 i % 2 == 1)
  let g := rd s R.RFX0_GATE 0 i
  let gate := rd s R.RFX0_GATE_EN 0 i == 0 || xor (g < 48 && rd s R.CH_STAT_STATE 0 g == 1) (rd s R.RFX0_GATE_POL 0 i == 1)
  pol && gate

/-- Conditions are evaluated again after a change; a transition to true of an armed cell waits for REFLEX_FIRE. -/
def cellsWatch (s : State) : State :=
  cellIdx.foldl (fun t i =>
    if rd t R.RFX0_EN 0 i = 0 then t
    else
      let c := cellCond t i
      let x := cellSt t i
      if c = x.cond then t
      else setCell t i (fun y => { y with cond := c, edge := c && (rd t R.RFX3_ARMED 0 i == 1 || y.edge) && c })) s

/-- REFLEX_FIRE (R351). -/
def execReflexFire (i : Fin 64) (s : State) : Answer := whenLive s <|
  .next (let n := i.val
    let x := cellSt s n
    let level := decide (2 ≤ rd s R.RFX0_COND 0 n)
    let pulse := decide (2 ≤ rd s R.RFX0_ACTION 0 n)
    let held := rd s R.RFX3_HOLD 0 n == 1
    if rd s R.RFX3_ARMED 0 n = 1 ∧ (if level then cellCond s n && !held else x.edge) then
      let s1 := setCell s n (fun y => { y with edge := false })
      if pulse && held then s1
      else
        let s2 := setCell (wr s1 R.RFX3_HOLD 1 0 n) n (fun y => { y with pulseEnd := s.time.now + 1000 * rd s R.RFX2_PULSE_US 0 n })
        raise (outSyncAll (rcAdd s2 R.RFX3_FIRE_CNT 1 n)) 0x0701 n
    else s)

/-- REFLEX_PULSE_END (R351): within 1 µs of PULSE_US. -/
def execReflexPulseEnd (i : Fin 64) (s : State) : Answer := whenLive s <|
  .next (let n := i.val
    if rd s R.RFX3_HOLD 0 n = 1 ∧ 2 ≤ rd s R.RFX0_ACTION 0 n ∧ (cellSt s n).pulseEnd ≤ s.time.now + 1000 then
      outSyncAll (wr s R.RFX3_HOLD 0 0 n) else s)

/-! ## Inputs and output faults (R333, R336, R338, R339) -/

/-- Filter times in ns (Table 8.13). -/
def filtNs (code : Nat) : Nat := ([0, 1000, 10000, 100000, 1000000, 3000000, 10000000] : List Nat).getD code 0

/-- The filtered state takes the comparator's level; a change is an edge for the capture unit (R336, R362). -/
def filtTake (s : State) (n : Nat) : State :=
  let v := rd s R.CH_STAT_TERM 0 n
  if rd s R.CH_STAT_STATE 0 n = v then s else cellsWatch (edgeTo (wr s R.CH_STAT_STATE v 0 n) n (v == 1))

/-- A channel's filter restarts with the level present (R336, R346). -/
def filtRestart (s : State) (n : Nat) : State := filtTake (setDio s n (fun x => { x with chgAt := s.time.now })) n

/-- DIO_TERMINAL_CHANGE (R336). -/
def execDioTerminalChange (n : Fin 48) (level : Bool) (s : State) : Answer := whenLive s <|
  .next (if rd s R.CH_STAT_TERM 0 n.val = b2n level then s
    else
      let s1 := outSync (setDio (wr s R.CH_STAT_TERM (b2n level) 0 n.val) n.val
        (fun x => { x with chgAt := s.time.now, diffAt := s.time.now })) n.val
      if rd s R.CH_CFG_FILT 0 n.val = 0 then filtTake s1 n.val else s1)

/-- DIO_FILTER_EXPIRY (R336). -/
def execDioFilterExpiry (n : Fin 48) (s : State) : Answer := whenLive s <|
  .next (if rd s R.CH_STAT_TERM 0 n.val ≠ rd s R.CH_STAT_STATE 0 n.val
      ∧ filtNs (rd s R.CH_CFG_FILT 0 n.val) ≤ s.time.now - (dioSt s n.val).chgAt then filtTake s n.val else s)

/-- DIO_OVERLOAD (R338): the current has stood at its limit for 1 ms, or the switch overheats, which it may also while it is off; the
lead of the group is latched and counted, its cells are disarmed (R350). A lead that is latched already keeps the time of its latch. -/
def execDioOverload (n : Fin 48) (thermal : Bool) (s : State) : Answer := whenLive s <|
  .next (let l := leadOf s n.val
    if !isOut s n.val ∨ (!thermal ∧ (!effective s n.val ∨ s.time.now < (dioSt s l).outAt + 1000000)) then s
    else
      let s1 := if thermal then wr s R.CH_STAT_THERM 1 0 l else rcAdd (wr s R.CH_STAT_OVL 1 0 l) R.CH_STAT_OVL_CNT 1 l
      if latched s l then s1
      else
        let s2 := (cellIdx.filter (fun i => leadOf s (rd s R.RFX0_TGT 0 i) == l)).foldl cellOff
          (setDio s1 l (fun x => { x with ovlAt := s.time.now }))
        outSyncAll (raiseOn s2 0x0703 l l))

/-- A latch of a lead is cleared. -/
def unlatch (s : State) (l : Nat) : State :=
  if latched s l then endCond (wr (wr s R.CH_STAT_OVL 0 0 l) R.CH_STAT_THERM 0 0 l) 0x0703 l else s

/-- DIO_RETRY (R338): 100 ms after the latch, while lines 2 to 4 of Table 8.6 would switch the lead on. -/
def execDioRetry (n : Fin 48) (s : State) : Answer := whenLive s <|
  .next (let l := n.val
    if leadOf s l = l ∧ latched s l ∧ rd s R.CH_CFG_RETRY 0 l = 1 ∧ isOut s l ∧ outBelow s l
        ∧ 100000000 ≤ s.time.now - (dioSt s l).ovlAt then outSyncAll (unlatch s l) else s)

/-- DIO_READBACK_FAULT (R339): the terminal has differed from the effective output for more than 100 µs. -/
def execDioReadbackFault (n : Fin 48) (s : State) : Answer := whenLive s <|
  .next (if isOut s n.val ∧ rd s R.CH_STAT_TERM 0 n.val ≠ rd s R.CH_STAT_OUT 0 n.val ∧ rd s R.CH_STAT_RBK 0 n.val = 0
      ∧ (dioSt s n.val).diffAt + 100000 < s.time.now then
    raiseOn (wr s R.CH_STAT_RBK 1 0 n.val) 0x0704 n.val n.val else s)

/-- DIO_OPEN_LOAD (R339): the channel has been on for 10 ms. -/
def execDioOpenLoad (n : Fin 48) (s : State) : Answer := whenLive s <|
  .next (if isOut s n.val ∧ rd s R.CH_STAT_OUT 0 n.val = 1 ∧ rd s R.CH_CFG_OPEN_EN 0 n.val = 1
      ∧ rd s R.CH_STAT_OPEN 0 n.val = 0 ∧ (dioSt s n.val).outAt + 10000000 ≤ s.time.now
      then raiseOn (wr s R.CH_STAT_OPEN 1 0 n.val) 0x0705 n.val n.val else s)

/-- DIO_OPEN_LOAD_CLEAR (R339). -/
def execDioOpenLoadClear (n : Fin 48) (s : State) : Answer := whenLive s <|
  .next (if rd s R.CH_STAT_OPEN 0 n.val = 1 then endCond (wr s R.CH_STAT_OPEN 0 0 n.val) 0x0705 n.val else s)

/-- What the supply monitor of a bank reads, in units of 0.1 V, and whether 1 ms has passed since it last changed its finding or started
at the release of RST_N (R333). -/
def supplyRead (s : State) (k v : Nat) : State := wr s R.BANK_STAT_VFIELD (min v 0x3FF) 0 k
def supplyHeld (s : State) (k : Nat) : Bool := decide (max s.modl.rstAt (Tab.get 0 s.fio.pwrAt k) + 1000000 ≤ s.time.now)

/-- The field supply of a bank is present or absent. -/
def supplySet (s : State) (k : Nat) (on : Bool) : State :=
  wr { s with fio := { s.fio with pwrAt := Tab.put 0 s.fio.pwrAt k s.time.now } } R.BANK_STAT_PWR (b2n on) 0 k

/-- FIELD_SUPPLY_PRESENT (R333): `v` is the supply in units of 0.1 V, above U_ON, which lies at 17.5 V or more. -/
def execFieldSupplyPresent (k : Fin 6) (v : Nat) (s : State) : Answer := whenLive s <|
  .next (let s1 := supplyRead s k.val v
    if rd s R.BANK_STAT_PWR 0 k.val = 1 ∨ v < 175 ∨ !supplyHeld s k.val then s1
    else outSyncAll (endCond (supplySet s1 k.val true) 0x0706 k.val))

/-- FIELD_SUPPLY_LOST (R333, R350): the supply is below U_OFF, which lies at 17.3 V or less. -/
def execFieldSupplyLost (k : Fin 6) (v : Nat) (s : State) : Answer := whenLive s <|
  .next (let s1 := supplyRead s k.val v
    if rd s R.BANK_STAT_PWR 0 k.val = 0 ∨ 173 < v ∨ !supplyHeld s k.val then s1
    else outSyncAll (raiseOn (disarmBank (supplySet s1 k.val false) k.val) 0x0706 k.val k.val))

/-! ## Keep-alive (R341, R342) -/

/-- A keep-alive tick to every bank. -/
def keepAlive (s : State) : State := { s with fio := { s.fio with tick := some s.time.now } }

/-- KEEPALIVE_TICK_1MS (R341): between commits, 1 ms after the tick before, while at least two admitted lanes' grids run and Prism
releases. -/
def execKeepaliveTick1ms (s : State) : Answer := whenLive s <|
  .next (match s.fio.tick with
    | some t => if !s.modl.prismStop ∧ s.scan.gridOn ∧ 2 ≤ (admittedLanes s).length ∧ t + 1000000 ≤ s.time.now then keepAlive s else s
    | none => s)

/-- KA_T follows the scan period (R342). -/
def kaSync (s : State) : State := wr s R.KA_STAT_KA_US (min (2 * scanPeriodUs s) 5000)

/-- KEEPALIVE_TRIP (R342): a gap of more than 0.8 × KA_T since the last tick; the next scan that the lanes run records it. -/
def execKeepaliveTrip (k : Fin 6) (s : State) : Answer := whenLive s <|
  .next (match s.fio.tick with
    | some t =>
      if rd s R.BANK_STAT_KA_TRIP 0 k.val = 0 ∧ 800 * rd s R.KA_STAT_KA_US < s.time.now - t then
        let t := disarmBank (wr s R.BANK_STAT_KA_TRIP 1 0 k.val) k.val
        outSyncAll { t with fio := { t.fio with kaNew := setB t.fio.kaNew k.val true } }
      else s
    | none => s)

/-- The lanes record the keep-alive trips at the first scan they run after them (R342); the condition lasts where no commit has cleared
it since. -/
def kaRecord (s : State) : State :=
  bankIdx.foldl (fun t k =>
    if bitAt s.fio.kaNew k = 0 then t
    else if rd t R.BANK_STAT_KA_TRIP 0 k = 1 then raiseOn t 0x070B k k
    else raise t 0x070B k) { s with fio := { s.fio with kaNew := 0 } }

/-! ## Analog inputs (R353 to R356) -/

/-- The boundaries between the bands in nA, lowest first, and the bands in order of current (Table 8.9). -/
def bandEdges : List Nat := [3600000, 3800000, 4000000, 20000000, 20500000, 21000000]
def bandCodes : List Nat := [5, 3, 1, 0, 2, 4, 6]

/-- The place of a band in the order of current after a new value: a boundary is passed by 20 µA (R355); the first value is taken as
Table 8.9 says. -/
def bandMove (v r : Nat) : Nat :=
  let up := (bandEdges.filter (fun b => b + 20000 ≤ v)).length
  let down := (bandEdges.filter (fun b => b < v + 20000)).length
  if r < up then up else if down < r then down else r
def bandFirst (v : Nat) : Nat :=
  ((bandEdges.take 3).filter (fun b => b ≤ v)).length + ((bandEdges.drop 3).filter (fun b => b < v)).length

/-- AI_NA of a code (R353). -/
def aiNa (code : Nat) : Nat := code * 24000000 / 65536

/-- The conversions a filter setting averages over (Table 8.14). -/
def aiSpan (filt : Nat) : Nat :=
  match filt with
  | 0 => 1
  | 1 => 10
  | 2 => 100
  | 3 => 1000
  | f => ([1, 10, 100, 1000] : List Nat).getD (Config.aiReservedFilt f).val 1

/-- A moving mean; which way it is rounded stands in no rule. -/
def aiMean (h : List Nat) : Nat :=
  let n := h.length
  let t := h.foldl (· + ·) 0
  if n = 0 then 0 else t / n + b2n (t % n != 0 && Config.aiMeanUp t n)

/-- The band after a new filtered value. -/
def aiBand (x : AiSt) (na : Nat) : Nat :=
  bandCodes.getD (if x.hist.isEmpty then bandFirst na else bandMove na ((bandCodes.idxOf? x.band).getD 0)) 0

/-- A conversion taken: filtered code, band, compliance (R353, R355, R356). -/
def aiTake (s : State) (n code mV : Nat) (limit : Bool) : AiSt :=
  let x := aiSt s n
  let hist := (min code 65535 :: x.hist).take 1000
  let mean := aiMean (hist.take (aiSpan (rd s R.AI_CFG_FILT 0 n)))
  let cmin := rd s R.AI_CFG_COMPL_MIN 0 n
  let above := if cmin + 200 ≤ mV then x.above + 1 else 0
  let low := rd s R.AI_CFG_LOOP_EN 0 n == 1 && (decide (mV < cmin) || (x.low && decide (above < 10)))
  ⟨hist, mean, aiBand x (aiNa mean), low, above, limit, s.time.now⟩

/-- What is recorded of a change of band and of COMPL_LOW (Table 8.10). -/
def aiNote (s : State) (n : Nat) (x y : AiSt) : State :=
  let t := if y.band = x.band then (if y.hist.length = 1 ∧ 2 < y.band then raiseOn s 0x0707 n n else s)
    else if 2 < y.band then raiseOn s 0x0707 n n
    else if x.band ≤ 2 then raise s 0x0702 n
    else endCond s 0x0707 n
  if y.low && !x.low then raiseOn t 0x0708 n n else if !y.low && x.low then endCond t 0x0708 n else t

/-- AI_CONVERSION (R353, R355, R356), every 100 µs: `code` is the conversion, `mV` the compliance voltage, `limit` the loop supply in
current limit. -/
def execAiConversion (c : Fin 8) (code : Nat) (mV : Nat) (limit : Bool) (s : State) : Answer := whenLive s <|
  .next (let n := c.val
    if !(aiSt s n).hist.isEmpty ∧ s.time.now < (aiSt s n).convAt + 100000 then s
    else
      let y := aiTake s n code mV limit
      let s1 := wr (wr s R.AI_STAT_CODE y.code 0 n) R.AI_STAT_VCOMP (min mV 65535) 0 n
      aiNote (setAi s1 n y) n (aiSt s n) y)

/-- AI_Q of a channel (Table 8.9). -/
def aiQ (s : State) (c : Nat) : Nat :=
  let x := aiSt s c
  2 ^ 31 * b2n (decide (x.band ≤ 2) && !x.low) + 2 ^ 30 * b2n x.low + 2 ^ 29 * b2n x.limit
    + 2 ^ 28 * rd s R.AI_CFG_LOOP_EN 0 c + 2 ^ 20 * x.band + rd s R.AI_STAT_VCOMP 0 c

/-! ## Encoders (R359 to R361; the edges are those of the Deadbolt's counter too, R43) -/

/-- One count up or down in 32 bits. -/
def step32 (up : Bool) (n : Nat) : Nat := (if up then n + 1 else n + (2 ^ 32 - 1)) % 2 ^ 32

/-- ENC_EDGE (R359, R315). -/
def execEncEdge (e : Fin 4) (up : Bool) (s : State) : Answer := whenLive s <|
  .next (let n := e.val
    let s1 := if rd s R.ENC_CFG_EN 0 n = 1 then
        cellsWatch (setEnc s n (fun x => { x with count := step32 (xor up (rd s R.ENC_CFG_INV 0 n == 1)) x.count }))
      else s
    if dbLive s1 then wr s1 R.ENC_CNT_COUNT (step32 up (rd s1 R.ENC_CNT_COUNT 0 n)) 0 n else s1)

/-- ENC_Z_PULSE (R360); the rising edge goes to the capture unit too (R362). -/
def execEncZPulse (e : Fin 4) (s : State) : Answer := whenLive s <|
  .next (let n := e.val
    let x := encSt s n
    let run := s.modl.mode == .run
    let clear := match rd s R.ENC_CFG_ZMODE 0 n with | 1 => run && !x.zseen | 2 => true | _ => false
    cellsWatch (setEnc (edgeTo s (64 + n) true) n (fun y =>
      { y with count := if clear then 0 else x.count, zpos := x.count, zcnt := (x.zcnt + 1) % 65536, zseen := x.zseen || run })))

/-- Entry to mode RUN: Z pulses are seen anew (R360, Table 8.3). -/
def encEnterRun (s : State) : State := [0, 1, 2, 3].foldl (fun t e => setEnc t e (fun x => { x with zseen := false })) s

/-- The cause bits of an encoder fault: 0 low amplitude, 1 open HTL input, 2 A and B together. -/
def encRow (cause : Nat) : Row := if cause = 0 then R.FENC_STAT_AMPL else if cause = 1 then R.FENC_STAT_OPEN else R.FENC_STAT_SAME

/-- ENC_FAULT (R361). -/
def execEncFault (e : Fin 4) (cause : Fin 3) (s : State) : Answer := whenLive s <|
  .next (let t := setEnc s e.val (fun x => { x with fltAt := s.time.now })
    raiseOn (rcAdd (wr (wr t (encRow cause.val) 1 0 e.val) R.FENC_STAT_FAULT 1 0 e.val) R.FENC_STAT_ERR_CNT 1 e.val)
      0x0709 e.val e.val)

/-- ENC_FAULT_CLEAR (R361): the cause has been absent for 10 ms. -/
def execEncFaultClear (e : Fin 4) (s : State) : Answer := whenLive s <|
  .next (if rd s R.FENC_STAT_FAULT 0 e.val = 1 ∧ (encSt s e.val).fltAt + 10000000 ≤ s.time.now then
    endCond ([R.FENC_STAT_FAULT, R.FENC_STAT_AMPL, R.FENC_STAT_OPEN, R.FENC_STAT_SAME].foldl (fun t r => wr t r 0 0 e.val) s)
      0x0709 e.val else s)

/-- ENC_V_SWITCH_ON (R635): 10 ms after the release of RST_N, with the voltage that ENC_TYPE then selects; `htl` is the
TYPE pin tied to 0 V (R358). -/
def execEncVSwitchOn (e : Fin 4) (htl : Bool) (s : State) : Answer := whenLive s <|
  .next (if s.modl.rst ∨ s.time.now < s.modl.rstAt + 10000000 ∨ (Tab.get none s.fio.encV e.val).isSome then s
    else wr { s with fio := { s.fio with encV := Tab.put none s.fio.encV e.val (some htl) } } R.FENC_STAT_HTL (b2n htl) 0 e.val)

/-- ENC_TYPE_CHANGE (R358, R635): the pin is read whatever the power state, so that HTL shows it after a wake; where ENC_V is on at
another voltage it switches off until the next release of RST_N. The encoder's inputs then fail by
ENC_FAULT and DB_ENCODER_FAULT. -/
def execEncTypeChange (e : Fin 4) (htl : Bool) (s : State) : Answer :=
  .next (let s1 := wr s R.FENC_STAT_HTL (b2n htl) 0 e.val
    if !live s then s1
    else match Tab.get none s.fio.encV e.val with
    | some v => if v = htl then s1 else { s1 with fio := { s1.fio with encOff := setB s1.fio.encOff e.val true } }
    | none => s1)

/-! ## The commit (R340, R344 to R348, R350) and the freeze (Tables 8.2 and 8.3) -/

/-- Base of the field I/O block in the lanes' map. -/
def fioBase : Nat := 0x20080000

/-- A configuration of a bank breaks R337. -/
def bankCfgBad (v : Nat) : Bool :=
  let dir := bits v 23 16
  let par := bits v 15 12
  let quad := bits v 11 10
  (List.range 4).any (fun j => bitAt par j == 1 && (bits dir (2 * j + 1) (2 * j) != 3 || bitAt quad (j / 2) == 1))
    || (List.range 2).any (fun q => bitAt quad q == 1 && bits dir (4 * q + 3) (4 * q) != 15)

/-- The filters of a bank restart with the levels present (R346). -/
def filtersRestart (s : State) (k : Nat) : State := (List.range 8).foldl (fun t i => filtRestart t (8 * k + i)) s

/-- The bank is back in service (R346, R348). -/
def bankReturn (s : State) (k : Nat) : State :=
  filtersRestart (wr (wr (wr s R.BANK_STAT_OOS 0 0 k) R.BANK_CTRL_OOS 0 0 k) R.BANK_STAT_OOS_SCANS 0 0 k) k

/-- A voted write to BANK_CTRL[k]: out of service, KA_CLR, FLT_CLR (R338, R342, R345). -/
def bankCtrl (s : State) (k v : Nat) : State :=
  let s1 := if bitAt v 31 = 1 ∧ rd s R.BANK_STAT_OOS 0 k = 0 then
      disarmBank (wr (wr (wr s R.BANK_STAT_OOS 1 0 k) R.BANK_CTRL_OOS 1 0 k) R.BANK_STAT_OOS_SCANS 0 0 k) k else s
  let s2 := if bitAt v 1 = 1 then endCond (wr s1 R.BANK_STAT_KA_TRIP 0 0 k) 0x070B k else s1
  if bitAt v 0 = 1 then (List.range 8).foldl (fun t i => unlatch t (8 * k + i)) s2 else s2

/-- A voted write to BANK_CFG[k] (R347); a channel that becomes an output is compared with its terminal from then on (R339). -/
def bankCfg (s : State) (stop : Bool) (k v : Nat) : State :=
  if (stop || rd s R.BANK_STAT_OOS 0 k == 1) && !bankCfgBad v then
    let t := (List.range 8).foldl (fun t i =>
      if bitAt (bits v 23 16) i = bitAt (rd s R.BANK_CFG_DIR 0 k) i then t
      else setDio t (8 * k + i) (fun x => { x with diffAt := s.time.now })) s
    wr (wr (wr (wr (wr (wr t R.BANK_CFG_FALLBACK (bitAt v 28) 0 k) R.BANK_CFG_ITYPE (bits v 27 26) 0 k)
      R.BANK_CFG_DIR (bits v 23 16) 0 k) R.BANK_CFG_PAR (bits v 15 12) 0 k) R.BANK_CFG_QUAD (bits v 11 10) 0 k)
      R.BANK_STAT_CFG_REF 0 0 k
  else raise (wr s R.BANK_STAT_CFG_REF 1 0 k) 0x070A k

/-- A voted write to CH_CFG[n]: a change of FILT restarts the filter with the level then present, 0x7 leaves it (R336, Table 8.13). -/
def chCfg (s : State) (n v : Nat) : State :=
  let f := bits v 18 16
  let s1 := wr (wr s R.CH_CFG_OPEN_EN (bitAt v 1) 0 n) R.CH_CFG_RETRY (bitAt v 0) 0 n
  if f = 7 ∨ f = rd s R.CH_CFG_FILT 0 n then s1
  else filtRestart (wr s1 R.CH_CFG_FILT f 0 n) n

/-- A voted write to a word of RFX[i]: it disarms the cell (R350). -/
def rfxWrite (s : State) (i w v : Nat) : State :=
  let put (t : State) (r : Row) : State := wr t r (bits v r.hi r.lo) 0 i
  let s1 := cellOff s i
  let s2 := match w with
    | 0 => [R.RFX0_EN, R.RFX0_SKIND, R.RFX0_COND, R.RFX0_SRC, R.RFX0_GATE_EN, R.RFX0_GATE_POL, R.RFX0_GATE, R.RFX0_ACTION,
        R.RFX0_TGT].foldl put s1
    | 1 => put s1 R.RFX1_THRESH
    | 2 => if 1 ≤ bits v 23 0 ∧ bits v 23 0 ≤ 10000000 then put s1 R.RFX2_PULSE_US else s1
    | _ => s1
  setCell s2 i (fun _ => ⟨0, cellCond s2 i, false⟩)

/-- A voted write to AI_CFG[c] or ENC_CFG[e] (Table 8.14). -/
def aiCfg (s : State) (c v : Nat) : State :=
  let s1 := wr (wr s R.AI_CFG_LOOP_EN (bitAt v 31) 0 c) R.AI_CFG_FILT (bits v 27 24) 0 c
  let s2 := if 6000 ≤ bits v 15 0 ∧ bits v 15 0 ≤ 20000 then wr s1 R.AI_CFG_COMPL_MIN (bits v 15 0) 0 c else s1
  if bitAt v 31 = 0 ∧ (aiSt s c).low then endCond (setAi s2 c { aiSt s c with low := false }) 0x0708 c else s2

def encCfg (s : State) (e v : Nat) : State :=
  let s1 := wr (wr s R.ENC_CFG_EN (bitAt v 31) 0 e) R.ENC_CFG_INV (bitAt v 30) 0 e
  if bits v 29 28 = 3 then s1 else wr s1 R.ENC_CFG_ZMODE (bits v 29 28) 0 e

/-- The voted writes of one commit to the controller, BANK_CTRL before BANK_CFG, a return after both (R347). -/
def fioWrites (s : State) (stop : Bool) (ws : List StagedWrite) : State :=
  let at_ (lo n : Nat) : List (Nat × Nat) := (ws.filter (fun w => decide (fioBase + lo ≤ w.addr ∧ w.addr < fioBase + lo + 4 * n))).map
    (fun w => ((w.addr - fioBase - lo) / 4, w.value))
  let s1 := (at_ 0x10 6).foldl (fun t w => bankCtrl t w.1 w.2) s
  let s2 := (at_ 0x30 6).foldl (fun t w => bankCfg t stop w.1 w.2) s1
  let s3 := (at_ 0x10 6).foldl (fun t w =>
    if bitAt w.2 31 = 0 ∧ rd t R.BANK_STAT_OOS 0 w.1 = 1 then bankReturn t w.1 else t) s2
  let s4 := (at_ 0x100 48).foldl (fun t w => chCfg t w.1 w.2) s3
  let s5 := (at_ 0x300 8).foldl (fun t w => aiCfg t w.1 w.2) s4
  let s6 := (at_ 0x400 4).foldl (fun t w => encCfg t w.1 w.2) s5
  (at_ 0x1000 256).foldl (fun t w => rfxWrite t (w.1 / 4) (w.1 % 4) w.2) s6

/-- The cells written at this commit (R350). -/
def rfxWritten (ws : List StagedWrite) : List Nat :=
  (ws.filter (fun w => decide (fioBase + 0x1000 ≤ w.addr ∧ w.addr < fioBase + 0x1400))).map (fun w => (w.addr - fioBase - 0x1000) / 16)

/-- A cell meets R350. -/
def cellMay (s : State) (i : Nat) : Bool :=
  let t := rd s R.RFX0_TGT 0 i
  bitAt s.fio.rfxArm i == 1 && rd s R.RFX0_EN 0 i == 1 && decide (t < 48) && isOut s t
    && rd s R.BANK_STAT_OOS 0 (t / 8) == 0 && rd s R.BANK_STAT_FALLBACK_ACT 0 (t / 8) == 0
    && rd s R.BANK_STAT_KA_TRIP 0 (t / 8) == 0

/-- Cells are armed and disarmed at a commit (R350); those written at it arm at a later one. -/
def cellsArm (s : State) : State :=
  cellIdx.foldl (fun t i =>
    if !cellMay t i then cellOff t i
    else if rd t R.RFX3_ARMED 0 i = 1 ∨ t.fio.rfxSkip.contains i then t
    else setCell (wr t R.RFX3_ARMED 1 0 i) i (fun x => { x with edge := false })) s

/-- The field I/O part of a commit: tick, writes, outputs or fallback, cells. `outs`: the voted DIO_OUT and RFX_ARM where
the commit sends output image words. `old`: the banks out of service before this commit. -/
def commitFio (s : State) (stop : Bool) (outs : Option (Nat × Nat)) (ws : List StagedWrite) : State :=
  let was := bankIdx.filter (fun k => rd s R.BANK_STAT_OOS 0 k == 1)
  let s1 := fioWrites (keepAlive s) stop ws
  let s2 := was.foldl (fun t k =>
    if rd t R.BANK_STAT_OOS 0 k = 1 then wr t R.BANK_STAT_OOS_SCANS (min 3 (rd t R.BANK_STAT_OOS_SCANS 0 k + 1)) 0 k else t) s1
  let s3 := match outs with
    | some (d, a) => bankIdx.foldl (fun t k => wr t R.BANK_STAT_FALLBACK_ACT 0 0 k)
        { s2 with fio := { s2.fio with dioOut := d, rfxArm := a } }
    | none => fallbackIn s2
  outSyncAll (cellsWatch (cellsArm { s3 with fio := { s3.fio with rfxSkip := rfxWritten ws } }))

/-- BANK_OOS_OVERRUN (R348): the third commit after the one that took the bank out; the bank's cells arm at that commit (R350). -/
def execBankOosOverrun (k : Fin 6) (s : State) : Answer := whenLive s <|
  .next (if rd s R.BANK_STAT_OOS 0 k.val = 1 ∧ rd s R.BANK_STAT_OOS_SCANS 0 k.val = 3 then
    outSyncAll (cellsWatch (cellsArm (raise (bankReturn s k.val) 0x070C k.val))) else s)

/-- A list of Bools as a byte, first in bit 0. -/
def byteOf (l : List Bool) : Byte := BitVec.ofNat 8 (l.foldr (fun b m => b2n b + 2 * m) 0)

/-- The bytes of a list of Bools. -/
def bytesOf (n : Nat) (f : Nat → Bool) : List Byte := (List.range n).map (fun j => byteOf ((List.range 8).map (fun i => f (8 * j + i))))

/-- DIO_IN of one channel at a freeze: none where a substitute takes its place (R333, R345). -/
def dioIn (s : State) (n : Nat) : Option Bool :=
  if rd s R.BANK_STAT_PWR 0 (n / 8) = 0 ∨ rd s R.BANK_STAT_OOS 0 (n / 8) = 1 then none
  else some (rd s R.CH_STAT_STATE 0 n == 1)

/-- The controller's points at a freeze, from image byte 16 on (bits 128 to 319 of Table 8.2). -/
def fioPoints (s : State) : List Byte :=
  let six (r : Row) : List Byte := [byteOf (bankIdx.map (fun k => rd s r 0 k == 1))]
  bytesOf 6 (fun n => latched s n || rd s R.CH_STAT_RBK 0 n == 1 || rd s R.CH_STAT_OPEN 0 n == 1)
    ++ [0, 0] ++ six R.BANK_STAT_PWR ++ six R.BANK_STAT_OOS ++ six R.BANK_STAT_KA_TRIP
    ++ [byteOf ([0, 1, 2, 3].map (fun e => rd s R.FENC_STAT_FAULT 0 e == 1))]
    ++ [byteOf ((List.range 8).map (fun c => bitAt (aiQ s c) 31 == 1))] ++ [0, 0, 0]
    ++ bytesOf 8 (fun i => rd s R.RFX3_HOLD 0 i == 1)

/-- ENC_Q (Table 8.3). -/
def encQ (s : State) (e : Nat) : Nat :=
  let x := encSt s e
  2 ^ 31 * rd s R.FENC_STAT_FAULT 0 e + 2 ^ 30 * b2n x.zseen + x.zcnt

/-- Words 64 to 107 at a freeze (Table 8.3): word number and value. -/
def fioWords (s : State) : List (Nat × Nat) :=
  (List.range 8).flatMap (fun c => [(64 + c, aiNa (aiSt s c).code), (72 + c, aiQ s c)])
    ++ [0, 1, 2, 3].flatMap (fun e => [(96 + e, (encSt s e).count), (100 + e, (encSt s e).zpos), (104 + e, encQ s e)])

end Sys2Proof.Machine
end

