-- ==== Sys2Proof/Machine/Time.lean ====
section
/-!
DEFINITION. Time bases and edge capture (chapter 9).
-/

namespace Sys2Proof.Machine

/-! ## The bases (R366 to R373, R377) -/

/-- The stored pair of R377: the always-on tick count and TB[2] in full. -/
def storePair (s : State) : State :=
  { s with aon := { s.aon with pair := some (s.aon.ticks, s.time.tb2) }, time := { s.time with pairAt := tb1 s } }

/-- The pair stored when TB[2] is set or locked: the always-on content is valid again (12 R458). -/
def storeValid (s : State) : State := wr (storePair s) R.AON_STAT_VALID 1

/-- TB[2] in its register. -/
def tb2Show (s : State) : State := wr s R.TB_VAL_NS (let v := s.time.tb2 % 2 ^ 32; v - v % 4) 0 2

/-- TB[2] stepped by a signed number of ns (R371): STEP2, VALID[2], the stored pair. Bits [1:0] are always 0 (R366): a step to another
value goes to the multiple of 4 ns below it (DESIGN CHOICE, log entry 143). -/
def tb2Step (s : State) (d : Int) (valid : Bool) : State :=
  let v := 4 * (((s.time.tb2 : Int) + d).toNat % 2 ^ 64 / 4)
  let s1 := { s with time := { s.time with tb2 := v, v2 := s.time.v2 || valid } }
  (if valid then storeValid else storePair) (timeSync (tb2Show (wr s1 R.TB_STAT_STEP2 (rd s1 R.TB_STAT_STEP2 + 1))))

/-- TB2_ADJ (R371, R384): the Keeper's step; a set with the mailbox as the source makes TB[2] valid, a step of the servo does not. -/
def execTb2Adj (v : Word) (s : State) : Answer := whenLive s <|
  .next (if keeperUp s then tb2Step s v.toInt (rd s R.TB2_CTRL_SRC == 0) else s)

/-- The captures of TB_SNAP (R367). -/
def snapshot (s : State) : State :=
  wr ((List.range 4).foldl (fun t n => wr t R.SNAP_NS (rd t R.TB_VAL_NS 0 n) 0 n) s) R.SNAP2_HI_NS (s.time.tb2 / 2 ^ 32)

/-- TB_SNAP (R367). -/
def execTbSnap (s : State) : Answer := whenLive s <| .next (snapshot s)

/-- The stored pair is written at the moment at which VALID[2] becomes 1 (R377). -/
def validPair (s t : State) : State :=
  if bitAt (rd s R.TB_STAT_VALID) 2 = 0 ∧ bitAt (rd t R.TB_STAT_VALID) 2 = 1 then storePair t else t

/-- TIME_PLL_LOCK (R368): TB[1] starts, or goes on from where it stood. -/
def execTimePllLock (s : State) : Answer := whenLive s <|
  .next (validPair s (timeSync (wr { s with time := { s.time with pll := true } } R.CLK_STAT_TIME 1)))

/-- STORED_PAIR_WRITE (R377): once per second of TB[1] while VALID[2] is 1. -/
def execStoredPairWrite (s : State) : Answer := whenLive s <|
  .next (if s.time.pll && s.time.v2 && decide (1000000000 ≤ (tb1 s + 2 ^ 32 - s.time.pairAt) % 2 ^ 32) then storePair s else s)

/-! ## PTP (R371) -/

/-- A signed number cut to the 30 bits of PTP_STAT.OFFSET. -/
def offsetSat (d : Int) : Nat := ofSigned 30 (if d > 536870911 then 536870911 else if d < -536870912 then -536870912 else d)

/-- The stamp of an event message that passes the MAC now, in 8 ns steps (R371). -/
def macStamp (s : State) : Nat := 8 * (s.time.tb2 / 8)

/-- A Delay_Req leaves for the end-to-end delay mechanism, one for each Sync taken (PRESUMED, log entry 144). -/
def delayReq (s : State) : State :=
  emit { s with time := { s.time with ptpReq := some (macStamp s) } } (.delayReq s.time.domain)

/-- The Sync intervals in a row within 10 µs, one more after an offset: a Sync that comes 2 s or more after the one before has missed an
interval (intervals of 1 s, log entry 115), and the run begins anew (R371). -/
def syncRun (s : State) (off : Int) : Nat :=
  if off.natAbs ≤ 10000 then (if s.time.now < s.time.ptpAt + 2000000000 then s.time.ptpGood else 0) + 1 else 0

/-- PTP_SYNC_RX (R371): a Sync that the master sent at `t1` is stamped on TB[2]. How far the servo slews is open within ±200 ppm. -/
def execPtpSyncRx (domain t1 : Nat) (s : State) : Answer := whenLive s <|
  .next (if rd s R.TB2_CTRL_SRC = 0 ∨ domain ≠ s.time.domain ∨ !keeperUp s then s
    else
      let ms : Int := (macStamp s : Int) - t1
      let off := ms - s.time.ptpDelay
      let far := decide (1000000 < off.natAbs)
      let s1 := wr { s with time := { s.time with ptpMs := if far then s.time.ptpDelay else ms, ptpAt := s.time.now } }
        R.PTP_STAT_OFFSET (offsetSat off)
      let s2 := if far then tb2Step s1 (-off) false
        else
          let t := (fresh s1).2
          wr t R.TB2_RATE_PPB (ofSigned 32 ((Config.servoRate s.free off).val - 200000 : Int))
      let good := syncRun s off
      let s3 := wr { s2 with time := { s2.time with ptpGood := good } } R.PTP_STAT_LOCKED (b2n (decide (8 ≤ good)))
      let s4 := if 8 ≤ good then
          let t := timeSync (wr { s3 with time := { s3.time with v2 := true } } R.PTP_STAT_HOLDOVER 0)
          if s.time.v2 then t else storeValid t
        else s3
      delayReq s4)

/-- PTP_DELAY_RESP_RX (R371): the master received the Delay_Req at `t4`; the path delay is the mean of both ways. -/
def execPtpDelayRespRx (domain t4 : Nat) (s : State) : Answer := whenLive s <|
  .next (match s.time.ptpReq with
    | none => s
    | some t3 =>
      if rd s R.TB2_CTRL_SRC = 0 ∨ domain ≠ s.time.domain ∨ !keeperUp s then s
      else { s with time := { s.time with ptpDelay := (s.time.ptpMs + ((t4 : Int) - t3)) / 2, ptpReq := none } })

/-- PTP_ANNOUNCE_RX (R371). -/
def execPtpAnnounceRx (domain : Nat) (utcOffset : Nat) (s : State) : Answer := whenLive s <|
  .next (if rd s R.TB2_CTRL_SRC = 0 ∨ domain ≠ s.time.domain ∨ !keeperUp s then s
    else wr s R.TB2_CTRL_UTC_OFS utcOffset)

/-- PTP_HOLDOVER (R371): 10 Sync intervals without Sync, of 1 s each in the default profile (PRESUMED, log entry 115). -/
def execPtpHoldover (s : State) : Answer := whenLive s <|
  .next (if rd s R.TB2_CTRL_SRC = 0 ∨ s.time.now < s.time.ptpAt + 10000000000 then s
    else wr (wr { s with time := { s.time with ptpGood := 0 } } R.PTP_STAT_HOLDOVER 1) R.PTP_STAT_LOCKED 0)

/-! ## The capture unit (R379 to R383) -/

/-- The two words of CAP_DATA[i]. -/
def capWord0 (s : State) (i : Nat) : Nat := r32 s .capData (8 * (i % 1024))
def capWord1 (s : State) (i : Nat) : Nat := r32 s .capData (8 * (i % 1024) + 4)

/-- The sixteen fields of a word of CAP_SEL. -/
def capSelRows : List Row :=
  [R.CAP_SEL_SEL0, R.CAP_SEL_SEL1, R.CAP_SEL_SEL2, R.CAP_SEL_SEL3, R.CAP_SEL_SEL4, R.CAP_SEL_SEL5, R.CAP_SEL_SEL6,
   R.CAP_SEL_SEL7, R.CAP_SEL_SEL8, R.CAP_SEL_SEL9, R.CAP_SEL_SEL10, R.CAP_SEL_SEL11, R.CAP_SEL_SEL12, R.CAP_SEL_SEL13,
   R.CAP_SEL_SEL14, R.CAP_SEL_SEL15]

/-- CAP_SEL of a source. -/
def capSel (s : State) (src : Nat) : Nat := rd s (capSelRows.getD (src % 16) R.CAP_SEL_SEL0) 0 (src / 16)

/-- An entry is lost (R381): counted for every reader. -/
def capLose (s : State) : State :=
  let s1 := rcAdd s R.CAP_LOST_COUNT
  { s1 with time := { s1.time with capLoss := true, capLostF := min 65535 (s1.time.capLostF + 1) } }

/-- A latch before another in the order of the FIFO: by stamp, ascending across the wrap of a base, then by source (R380). -/
def latchBefore (a b : CapLatch) : Bool :=
  if a.stamp = b.stamp then decide (a.src < b.src) else decide ((b.stamp + 2 ^ 32 - a.stamp) % 2 ^ 32 < 2 ^ 31)

/-- A latch among those that wait. -/
def latchIn (x : CapLatch) : List CapLatch → List CapLatch
  | [] => [x]
  | y :: t => if latchBefore x y then x :: y :: t else y :: latchIn x t

/-- The entry of a latch goes to the next position of the FIFO, or is lost where 1,024 entries are unfreed (R381, Table 9.3). -/
def capWrite (s : State) (x : CapLatch) : State :=
  if s.time.capCount - capFreed s ≥ 1024 then capLose s
  else
    let p := s.time.capCount % 1024
    let w1 := 2 ^ 30 * x.tb + 2 ^ 29 * b2n x.rising + 2 ^ 28 * b2n s.time.capLoss + 2 ^ 16 * x.src + p
    let t := w32 (w32 s .capData (8 * p) x.stamp) .capData (8 * p + 4) w1
    capSync { t with time := { t.time with capCount := t.time.capCount + 1, capLoss := false } }

/-- The first latch that waits is written; one in each clock, so that all 68 are within 68 clocks (R382). -/
def capDrain (s : State) : State :=
  match s.time.latches with
  | [] => s
  | x :: t => capWrite { s with time := { s.time with latches := t } } x

/-- An edge that reaches the unit goes into its source's latch, where it is selected, or is lost where the latch still holds one
(R379 to R381). -/
def captureTake (s : State) (src : Nat) (rising : Bool) : State :=
  let sel := capSel s src
  let taken := if 64 ≤ src then sel != 0 && rising else if rising then bitAt sel 0 == 1 else bitAt sel 1 == 1
  if 68 ≤ src ∨ rd s R.CAP_CTRL_EN = 0 ∨ !taken then s
  else if s.time.latches.any (fun x => x.src == src) then capLose s
  else
    let tb := rd s R.CAP_CTRL_TB
    { s with time := { s.time with latches := latchIn ⟨src, rd s R.TB_VAL_NS 0 tb, tb, rising, s.time.now⟩ s.time.latches } }

/-- CAPTURE_EDGE (R379 to R381): the first edge of a source and direction that was supplied (R362) and has not yet reached the unit. -/
def execCaptureEdge (reg : Fin 5) (n : Fin 16) (rising : Bool) (s : State) : Answer := whenLive s <|
  .next (let e := (16 * reg.val + n.val, rising)
    if s.time.edges.contains e then captureTake { s with time := { s.time with edges := s.time.edges.erase e } } e.1 rising else s)

/-- A batch closes at the first clock of a freeze (R382): every entry stamped before it is written; LAST takes the newest stamp of each
source. -/
def capClose (s0 : State) : State :=
  let s := (s0.time.latches.filter (fun x => decide (x.came < s0.time.now))).foldl (fun t _ => capDrain t) s0
  let idx := (List.range (s.time.capCount - s.time.capLimit)).map (· + s.time.capLimit)
  let last := idx.foldl (fun t i => Tab.put 0 t (bits (capWord1 s i) 22 16) (capWord0 s i)) s.time.last
  wr { s with time := { s.time with capBatch := idx.length, capLimit := s.time.capCount, last := last, capLostB := s.time.capLostF,
                                    capLostF := 0 } }
    R.CAP_STAT_LIMIT s.time.capCount

/-- CAP_RD_IDX_WRITE (R382, R383): a reader, 0 to 2 a lane and 3 the Keeper, moves on, at most to CAP_LIMIT. -/
def execCapRdIdxWrite (reader : Fin 4) (v : Nat) (s : State) : Answer := whenCore s reader.val <|
  .next (let old := Tab.get 0 s.time.capRd reader.val
    let pos := min (old + (v + 1024 - old % 1024) % 1024) s.time.capLimit
    capSync (wr { s with time := { s.time with capRd := Tab.put 0 s.time.capRd reader.val pos } } R.CAP_RD_IDX_IDX pos reader.val))

/-! ## The commit and the freeze (R378, R384) -/

/-- Base of the time unit. -/
def timeBase : Nat := 0x20020000

/-- One voted write to the time unit (R372, R379, R384). -/
def timeWrite (s : State) (w : StagedWrite) : State :=
  let v := w.value
  match w.addr - timeBase with
  | 0x50 => wr (wr s R.TB3_CTRL_EN (bitAt v 31)) R.TB3_CTRL_REF (bitAt v 30)
  | 0x54 => wr (wr (wr s R.TB3_LOAD_NS v) R.TB_VAL_NS (v - v % 4) 0 3) R.TB_STAT_STEP3 (rd s R.TB_STAT_STEP3 + 1)
  | 0x58 => if (toSigned 32 v).natAbs ≤ 1000000 then wr s R.TB3_RATE_PPB v else s
  | 0x100 => wr (wr s R.CAP_CTRL_EN (bitAt v 31)) R.CAP_CTRL_TB (bits v 1 0)
  | o => if 0x110 ≤ o ∧ o ≤ 0x120 then
      capSelRows.foldl (fun t r => if (o - 0x110) / 4 < r.count then wr t r (bits v r.hi r.lo) 0 ((o - 0x110) / 4) else t) s
    else s

/-- The voted writes of a commit to the time unit. -/
def commitTime (s : State) (ws : List StagedWrite) : State :=
  timeSync ((ws.filter (fun w => decide (timeBase ≤ w.addr ∧ w.addr < timeBase + 0x2000))).foldl timeWrite s)

/-- Words 128 to 133 and 160 to 227 at a freeze (Table 9.2), after the batch has closed; the other words of 128 to 255 hold 0 always,
since no write sets a reserved bit (`wordBits`). -/
def timeWords (s : State) : List (Nat × Nat) :=
  [(128, rd s R.TB_VAL_NS 0 2), (129, s.time.tb2 / 2 ^ 32), (130, rd s R.TB_VAL_NS 0 3),
   (131, rd s R.TB_STAT_VALID + 2 ^ 4 * rd s R.PTP_STAT_HOLDOVER),
   (132, 2 ^ 16 * s.time.capBatch + s.time.capLimit % 1024), (133, s.time.capLostB)]
    ++ (List.range 68).map (fun i => (160 + i, Tab.get 0 s.time.last i))

end Sys2Proof.Machine
end

