-- ==== Sys2Proof/Machine/Journal.lean ====
section
/-!
DEFINITION. Journal and event recorder (chapter 17).
-/

namespace Sys2Proof.Machine

/-! ## MSI-X messages (15 R527, R537) -/

/-- A vector is raised: sent, or held in its PBA bit while it is masked. -/
def msix (s : State) (v : Nat) : State :=
  if bitAt s.bridge.masked v = 1 then { s with bridge := { s.bridge with pba := setB s.bridge.pba v true } }
  else if rd s R.BR_STAT_BME = 1 ∧ rd s R.BR_STAT_L0 = 1 then emit s (.msix v)
  else s

/-! ## MRAM layout (17 Table 17.1, R574, R582) -/

def halfBase (h : Nat) : Nat := 0x1000000 * h
def recBase : Nat := 0x2000000
def cfgBase (kind slot : Nat) : Nat := 0x3000000 + (2 * (kind - 1) + slot) * 0x20000
def exportBase : Nat := 0x3200000
def halfSize : Nat := 0x1000000

/-- First slot and number of slots of each ring (Table 17.5). -/
def ringBase (sev : Nat) : Nat := ([0, 131072, 196608, 229376, 245760] : List Nat).getD sev 0
def ringSize (sev : Nat) : Nat := ([131072, 65536, 32768, 16384, 16384] : List Nat).getD sev 1

/-! ## Deltas and records (17 Tables 17.2 to 17.4) -/

/-- The 64-bit words of a delta (R569). -/
def Delta.enc (d : Delta) : List Nat := (2 ^ 56 * d.type + 2 ^ 32 * d.words.length + d.arg % 2 ^ 32) :: d.words

/-- The number of 64-bit words of some deltas. -/
def deltaWords (ds : List Delta) : Nat := ds.foldl (fun n d => n + 1 + d.words.length) 0

/-- The deltas that words spell. -/
def decDeltas : Nat → List Nat → List Delta
  | 0, _ => []
  | _, [] => []
  | fuel + 1, h :: ws =>
    let n := bits h 47 32
    ⟨bits h 63 56, h % 2 ^ 32, ws.take n⟩ :: decDeltas fuel (ws.drop n)

/-- The frame of a commit (R565): its opening word and the words of its deltas. -/
def frameWords (scan : Nat) (ds : List Delta) : List Nat := (scan % 2 ^ 32 + 2 ^ 32 * deltaWords ds) :: ds.flatMap Delta.enc

/-- Words as bytes. -/
def wordBytes (ws : List Nat) : List Byte := ws.flatMap (leBytes 8)

/-- The words of bytes. -/
def bytesWords (n : Nat) (l : List Byte) : List Nat := (List.range n).map (fun i => ofLe ((l.drop (8 * i)).take 8))

/-- A journal record (Table 17.3). -/
def jrec (kind flags epoch rseq : Nat) (payload : List Byte) : List Byte :=
  let b := leBytes 2 0x4A4C ++ leBytes 1 kind ++ leBytes 1 flags ++ leBytes 4 epoch ++ leBytes 4 rseq
    ++ leBytes 4 payload.length ++ payload
  b ++ leBytes 4 (crc32c b) ++ leBytes 4 (2 ^ 32 - 1 - rseq % 2 ^ 32)

/-- A delta applied to the replayed state (R575). -/
def JState.delta (j : JState) (d : Delta) : JState :=
  let put (t : Tab Nat) (step : Nat) : Tab Nat := d.words.zipIdx.foldl (fun m e => Tab.put 0 m (d.arg + step * e.2) e.1) t
  match d.type with
  | 1 => { j with dig := put j.dig 8 }
  | 2 => { j with word := put j.word 2 }
  | 3 => { j with inst := put j.inst 8 }
  | 4 => { j with forces := (List.range (d.words.length / 2)).foldl (fun m i =>
             let a := d.words.getD (2 * i) 0
             if bitAt a 31 = 1 then Tab.put (0, 0) m (d.arg % 1024 + i) (a, d.words.getD (2 * i + 1) 0)
             else Tab.erase m (d.arg % 1024 + i)) j.forces }
  | 5 => if d.arg = 1 then { j with deg := d.words.head? } else j
  | _ => j

/-- A record applied to the replayed state (R575). -/
def JState.record (j : JState) (kind : Nat) (p : List Byte) : JState :=
  match kind with
  | 0x10 => (decDeltas p.length (bytesWords (p.length / 8 - 1) (p.drop 8))).foldl JState.delta j
  | 0x20 => { j with cfg := Tab.put (0, 0, 0, 0) j.cfg (leAt p 0 1) (leAt p 1 1, leAt p 4 4, leAt p 8 4, leAt p 12 4) }
  | 0x21 => { j with prog := some (leAt p 0 8, leAt p 8 1 = 1) }
  | 0x22 => { j with safety := some (p.take 64, leAt p 64 1 = 1) }
  | 0x30 => { j with optime := leAt p 0 8, pcyc := leAt p 8 4 }
  | _ => j

/-- Payloads of the records of Table 17.4. -/
def payConfig (kind slot len crc scan : Nat) : List Byte :=
  leBytes 1 kind ++ leBytes 1 slot ++ leBytes 2 0 ++ leBytes 4 len ++ leBytes 4 crc ++ leBytes 4 scan
def payProgram (id : Nat) (b : Bool) : List Byte := leBytes 8 id ++ leBytes 1 (b2n b) ++ leBytes 7 0
def paySafety (dig : List Byte) (b : Bool) : List Byte := (List.range 64).map (fun i => dig.getD i 0) ++ leBytes 1 (b2n b) ++ leBytes 7 0
def payTime (opt pcyc : Nat) : List Byte := leBytes 8 opt ++ leBytes 4 pcyc ++ leBytes 4 0

/-- OPTIME now, in ms (R585). -/
def optime (s : State) : Nat := s.jrnl.state.optime + (s.time.now - s.jrnl.optAt) / 1000000

/-- A record appended to the current half, and kept for the new half while compaction runs (R571, R577). -/
def appendRec (s : State) (kind flags : Nat) (p : List Byte) : State :=
  let j := s.jrnl
  let b := jrec kind flags j.epoch j.recs p
  let t := wbs s .mram (halfBase j.half + j.pos) b
  { t with jrnl := { j with pos := j.pos + b.length, recs := j.recs + 1, state := j.state.record kind p,
                            after := if j.compact.isSome then j.after ++ [(kind, p)] else j.after } }

/-- A TIME record: OPTIME and PCYC as they stand (R585). -/
def timeRecord (s : State) : State :=
  let t := appendRec s 0x30 0 (payTime (optime s) s.jrnl.state.pcyc)
  { t with jrnl := { t.jrnl with optAt := s.time.now } }

/-- Runs of adjacent words of a table as deltas of at most 32 words. -/
def runDeltas (type step : Nat) (t : Tab Nat) : List Delta :=
  (t.foldl (fun (acc : List Delta) e =>
    match acc with
    | d :: ds => if d.words.length < 32 ∧ d.arg + step * d.words.length = e.1 then { d with words := d.words ++ [e.2] } :: ds
                 else ⟨type, e.1, [e.2]⟩ :: d :: ds
    | [] => [⟨type, e.1, [e.2]⟩]) []).reverse

/-- The replayed state as deltas. -/
def JState.deltas (j : JState) : List Delta :=
  runDeltas 1 8 j.dig ++ runDeltas 2 2 j.word ++ runDeltas 3 8 j.inst
    ++ j.forces.map (fun e => ⟨4, e.1, [e.2.1, e.2.2]⟩)
    ++ (match j.deg with | some n => [⟨5, 1, [n]⟩] | none => [])

/-- Deltas cut into frames that a record can hold. -/
def cutFrames (ds : List Delta) : List (List Delta) :=
  (ds.foldl (fun (acc : List (List Delta) × List Delta) d =>
      if deltaWords acc.2 + 1 + d.words.length ≤ 8000 then (acc.1, acc.2 ++ [d]) else (acc.1 ++ [acc.2], [d])) ([], [])
    |> fun r => if r.2.isEmpty then r.1 else r.1 ++ [r.2])

/-- The records of a checkpoint of the replayed state, CKPT_BEGIN and CKPT_END included (R577). -/
def ckptRecs (j : JState) (scan : Nat) : List (Nat × List Byte) :=
  let body : List (Nat × List Byte) := (cutFrames j.deltas).map (fun f => (0x10, wordBytes (frameWords scan f)))
    ++ j.cfg.map (fun e => (0x20, payConfig e.1 e.2.1 e.2.2.1 e.2.2.2.1 e.2.2.2.2))
    ++ (match j.prog with | some (i, b) => [(0x21, payProgram i b)] | none => [])
    ++ (match j.safety with | some (d, b) => [(0x22, paySafety d b)] | none => [])
    ++ [(0x30, payTime j.optime j.pcyc)]
  (0x01, leBytes 2 1 ++ leBytes 2 0x60 ++ leBytes 4 0 ++ leBytes 8 scan) :: body ++ [(0x02, leBytes 8 body.length)]

/-- Records encoded in order from a record number on. -/
def encRecs (flags epoch : Nat) : Nat → List (Nat × List Byte) → List Byte
  | _, [] => []
  | n, (k, p) :: t => jrec k flags epoch n p ++ encRecs flags epoch (n + 1) t

/-- The log of the other half begun: checkpoint without its CKPT_END (R577 steps 1 to 3). -/
def compactStart (s : State) : State :=
  let j := s.jrnl
  let recs := (ckptRecs { j.state with optime := optime s } s.scan.gen).dropLast
  let b := encRecs 2 (j.epoch + 1) 0 recs
  let t := wbs s .mram (halfBase (1 - j.half)) b
  { t with jrnl := { j with compact := some (b.length, recs.length), after := [], ckptTai := some s.time.tb2 } }

/-- CKPT_END written, the records since the snapshot written again, the new half current (R577 steps 4 and 5). -/
def compactDone (s : State) : State :=
  let j := s.jrnl
  match j.compact with
  | none => s
  | some (pos, n) =>
    let e := jrec 0x02 2 (j.epoch + 1) n (leBytes 8 (n - 1))
    let b := e ++ encRecs 0 (j.epoch + 1) (n + 1) j.after
    let t := wbs s .mram (halfBase (1 - j.half) + pos) b
    { t with jrnl := { j with half := 1 - j.half, epoch := j.epoch + 1, pos := pos + b.length,
                              recs := n + 1 + j.after.length, compact := none, after := [] } }

/-! ## Reading a half (R572, R573) -/

/-- The record at an offset of a half, where it is valid: kind, payload, length. -/
def recAt (s : State) (h off epoch rseq : Nat) : Option (Nat × List Byte × Nat) :=
  let a := halfBase h + off
  let len := r32 s .mram (a + 12)
  if off + 24 ≤ halfSize ∧ r16 s .mram a = 0x4A4C ∧ r32 s .mram (a + 4) = epoch ∧ r32 s .mram (a + 8) = rseq
      ∧ len % 8 = 0 ∧ len ≤ 65528 ∧ off + 24 + len ≤ halfSize then
    let b := rbs s .mram a (16 + len)
    if r32 s .mram (a + 16 + len) = crc32c b ∧ r32 s .mram (a + 20 + len) = 2 ^ 32 - 1 - rseq then
      some ((rb s .mram (a + 2)).toNat, b.drop 16, 24 + len)
    else none
  else none

/-- What a log holds: the replayed state, whether CKPT_END was met, its end and its records. -/
structure LogEnd where
  state : JState
  ended : Bool
  pos   : Nat
  recs  : Nat

/-- The log of a half read to its first record that is not valid. -/
def readLog (s : State) (h epoch : Nat) : Nat → LogEnd → LogEnd
  | 0, r => r
  | fuel + 1, r =>
    match recAt s h r.pos epoch r.recs with
    | none => r
    | some (k, p, n) => readLog s h epoch fuel ⟨r.state.record k p, r.ended || k == 2, r.pos + n, r.recs + 1⟩

/-- A half, where it is complete: its EPOCH and its log. -/
def readHalf (s : State) (h : Nat) : Option (Nat × LogEnd) :=
  let epoch := r32 s .mram (halfBase h + 4)
  match recAt s h 0 epoch 0 with
  | some (1, _, _) =>
    let r := readLog s h epoch 700000 ⟨JState.reset, false, 0, 0⟩
    if r.ended then some (epoch, r) else none
  | _ => none

/-- The current half (R573). -/
def currentHalf (s : State) : Option (Nat × Nat × LogEnd) :=
  match readHalf s 0, readHalf s 1 with
  | some a, some b => if b.1 > a.1 then some (1, b) else some (0, a)
  | some a, none => some (0, a)
  | none, some b => some (1, b)
  | none, none => none

/-! ## The configuration store (R574) -/

/-- The content of a kind that the journal names, where its CRC is right. -/
def cfgContent (s : State) (kind : Nat) : Option (List Byte) :=
  match (s.jrnl.state.cfg.find? (fun e => e.1 == kind)).map (·.2) with
  | none => none
  | some (slot, len, crc, _) =>
    let b := rbs s .mram (cfgBase kind slot) len
    if crc32c b = crc then some b else none

/-- A content written into the slot that the current CONFIG record does not name, and the CONFIG record. -/
def writeConfig (s : State) (kind : Nat) (content : List Byte) (scan : Nat) : State :=
  let slot := match (s.jrnl.state.cfg.find? (fun e => e.1 == kind)) with | some e => 1 - e.2.1 | none => 0
  appendRec (wbs s .mram (cfgBase kind slot) content) 0x20 0 (payConfig kind slot content.length (crc32c content) scan)

/-! ## The recorder (R582 to R587) -/

/-- TKIND (R584). -/
def tkind (s : State) : Bool :=
  let st := rdL s R.REPAIR_STAT_STEP .x
  (s.modl.mode == .init || s.modl.mode == .service || s.modl.mode == .safe || decide (1 ≤ st ∧ st ≤ 5))
    && bitAt (rd s R.TB_STAT_VALID) 2 == 1

/-- A recorder record (Table 17.6). -/
def recBytes (s : State) (code sev scan : Nat) (mgmt : Bool) (arg : List Byte) : List Byte :=
  let b := leBytes 8 s.jrnl.rseq ++ leBytes 2 code ++ leBytes 1 (sev + 8 * b2n mgmt) ++ leBytes 1 (b2n (tkind s))
    ++ leBytes 4 scan ++ leBytes 8 (if tkind s then s.time.tb2 else optime s) ++ leBytes 4 s.jrnl.state.pcyc
    ++ leBytes 2 s.jrnl.lostNow ++ leBytes 2 0 ++ (List.range 28).map (fun i => arg.getD i 0)
  b ++ leBytes 4 (crc32c b)

/-- A number of a list by severity changed. -/
def bySev (l : List Nat) (sev : Nat) (f : Nat → Nat) : List Nat :=
  (List.range 5).map (fun i => if i = sev then f (l.getD i 0) else l.getD i 0)

/-- A record goes into the ring of its severity (R582, R583, R586). -/
def recWrite (s : State) (code sev scan : Nat) (mgmt : Bool) (arg : List Byte) : State :=
  let j := s.jrnl
  let n := j.slots.getD sev 0
  let full := j.heldN.getD sev 0 ≥ ringSize sev
  let t := wbs s .mram (recBase + 64 * (ringBase sev + n)) (recBytes s code sev scan mgmt arg)
  { t with jrnl := { j with rseq := j.rseq + 1, slots := bySev j.slots sev (fun _ => (n + 1) % ringSize sev),
                            heldN := bySev j.heldN sev (fun k => if full then k else k + 1),
                            overN := if full then bySev j.overN sev (satInc 0xFFFFFFFF) else j.overN,
                            lostNow := 0, fresh := true } }

/-- An event written by the Keeper itself (11 R436): group 0x09; lost while the recorder does not accept (R586), held while the Keeper is
down (01 R39). -/
def keeperEvent (s : State) (code : Nat) (arg : List Byte) : State :=
  let t := raise s code (ofLe (arg.take 8))
  let u := { t with faults := { t.faults with events := t.faults.events.dropLast } }
  if !u.jrnl.recUp then loseEvent u (classOf code)
  else if keeperUp s then recWrite u code (classOf code) (scanNo s) false arg
  else t

/-- An event as a delta (Table 17.2). -/
def eventDelta (e : Event) : Delta := ⟨6, 2 ^ 16 * e.code + 2 ^ 12 * classOf e.code, [e.scan, e.arg, e.tb1, 0]⟩

/-- An event delta written to the recorder. -/
def recDelta (s : State) (d : Delta) : State :=
  recWrite s (bits d.arg 31 16) (bits d.arg 15 12) (d.words.headD 0 % 2 ^ 32) false (wordBytes d.words.tail)

/-- An event that no commit carries: of the hardware state, or of the Keeper's own and held (11 R436). -/
def Event.own (e : Event) : Bool := e.mgmt || e.code / 256 == 9

/-- JOURNAL_RECORD_WRITE (R571, R586, 11 R436): events of the hardware state and those held, then the next frame of the queue as one
COMMIT record, its events to the recorder. -/
def execJournalRecordWrite (s : State) : Answer := whenLive s <|
  .next (if !(keeperUp s && s.jrnl.up && s.jrnl.recUp) then s
    else
      let s1 := (s.faults.events.filter Event.own).foldl (fun t (e : Event) =>
        recWrite t e.code (classOf e.code) e.scan e.mgmt (leBytes 8 e.arg ++ (if e.mgmt then leBytes 8 e.tb1 else []))) s
      let s2 := { s1 with faults := { s1.faults with events := s1.faults.events.filter (fun e => !e.own) } }
      match s2.jrnl.queue with
      | [] => s2
      | f :: q =>
        let s3 := { s2 with jrnl := { s2.jrnl with queue := q, dropNote := false } }
        let s4 := Lane.all.foldl (fun t l => wrL t R.JQ_STAT_FILL l (rdL t R.JQ_STAT_FILL l - (1 + deltaWords f.deltas))) s3
        let rest := f.deltas.filter (fun d => d.type != 6)
        let s5 := appendRec s4 0x10 (b2n f.resync) (wordBytes (frameWords f.scan rest))
        (f.deltas.filter (fun d => d.type == 6)).foldl recDelta s5)

/-- The journal's compaction threshold (R577). -/
def compactAt : Nat := 12 * 1048576

/-- An imported journal stands complete in the other half and governs from the next replay (R581). -/
def imported (s : State) : Bool :=
  match readHalf s (1 - s.jrnl.half) with
  | some (e, _) => decide (s.jrnl.epoch < e)
  | none => false

/-- A compaction may begin: none is under way, and it would not overwrite an imported journal (R577, R581). -/
def mayCompact (s : State) : Bool := s.jrnl.compact.isNone && !imported s

/-- COMPACTION_START (R577). -/
def execCompactionStart (s : State) : Answer := whenLive s <|
  .next (if keeperUp s ∧ s.jrnl.up ∧ mayCompact s ∧ compactAt ≤ s.jrnl.pos then compactStart s else s)

/-- COMPACTION_DONE (R577). -/
def execCompactionDone (s : State) : Answer := whenLive s <|
  .next (if keeperUp s ∧ s.jrnl.compact.isSome then compactDone s else s)

/-- 8,760 h in ms and 365 days in ns (R578). -/
def yearMs : Nat := 8760 * 3600000
def yearNs : Nat := 365 * 86400 * 1000000000

/-- YEARLY_REFRESH (R578): a compaction, and every kind of the configuration store copied into its other slot. The
records of the recorder are rewritten in place with their own content. -/
def execYearlyRefresh (s : State) : Answer := whenLive s <|
  .next (let old := match s.jrnl.ckptTai with
      | some t => bitAt (rd s R.TB_STAT_VALID) 2 == 1 && decide (t + yearNs < s.time.tb2)
      | none => false
    if keeperUp s ∧ s.jrnl.up ∧ mayCompact s ∧ (s.jrnl.refresh + yearMs ≤ optime s ∨ old = true) then
      let s1 := compactDone (compactStart s)
      let s2 := s1.jrnl.state.cfg.foldl (fun t e =>
        match cfgContent t e.1 with | some c => writeConfig t e.1 c e.2.2.2.2 | none => t) s1
      { s2 with jrnl := { s2.jrnl with refresh := optime s } }
    else s)

/-- TIME_RECORD (R585): 60 s after the last one. -/
def execTimeRecord (s : State) : Answer := whenLive s <|
  .next (if keeperUp s ∧ s.jrnl.up ∧ s.jrnl.optAt + 60000000000 ≤ s.time.now then timeRecord s else s)

/-- The recorder slots that hold anything: those with a listed byte. -/
def recSlots (s : State) : List Nat :=
  let b := Region.mram.at recBase
  ((Tab.range s.mem b (b + 0x1000000)).map (fun e => (e.1 - b) / 64)).eraseDups

/-- A slot's 64 bytes, its RSEQ, and whether it reads as damaged (R587). -/
def slotBytes (s : State) (n : Nat) : List Byte := rbs s .mram (recBase + 64 * n) 64
def slotRseq (s : State) (n : Nat) : Nat := r64 s .mram (recBase + 64 * n)
def slotBad (s : State) (n : Nat) : Bool :=
  let b := slotBytes s n
  slotRseq s n != 0 && (slotRseq s n == 2 ^ 64 - 1 || crc32c (b.take 60) != leAt b 60 4)

/-- A slot as REC_READ returns it (R587): an empty one all 0, a damaged record with SEV bit 7 set. -/
def slotShown (s : State) (n : Nat) : List Byte :=
  if slotRseq s n = 0 then List.replicate 64 0
  else if slotBad s n then (slotBytes s n).set 10 ((slotBytes s n).getD 10 0 ||| 0x80)
  else slotBytes s n

/-- The records held, by RSEQ: slot numbers. -/
def recIndex (s : State) : Tab Nat :=
  (recSlots s).foldl (fun t n => if slotRseq s n = 0 ∨ slotBad s n then t else Tab.insert t (slotRseq s n) n) []

/-- RECORDER_SNAPSHOT_RENEW (R589): at most once in 100 ms, with new records. -/
def execRecorderSnapshotRenew (s : State) : Answer := whenLive s <|
  .next (let due := match s.jrnl.snapAt with | some t => decide (t + 100000000 ≤ s.time.now) | none => true
    if keeperUp s ∧ s.jrnl.recUp ∧ s.jrnl.fresh ∧ due = true then
      let all := recIndex s
      let new := all.drop (all.length - 8190)
      let gen := s.jrnl.snapGen + 1
      let body := leBytes 8 gen ++ leBytes 8 s.jrnl.rseq ++ leBytes 4 new.length ++ List.replicate 44 0
        ++ new.flatMap (fun e => slotBytes s e.2)
      let s1 := clearMem s .bar2 0x80000 0x80000
      let s2 := wbs (wbs s1 .bar2 0x80000 body) .bar2 0xFFFC0 (leBytes 8 gen)
      msix { s2 with jrnl := { s2.jrnl with fresh := false, snapGen := gen, snapAt := some s.time.now } } 5
    else s)

/-- The current half of an empty journal: a checkpoint of nothing with EPOCH 1 in half 0. -/
def jrnlNew (s : State) : State :=
  let recs := ckptRecs JState.reset 0
  let b := encRecs 2 1 0 recs
  let t := wbs s .mram 0 b
  { t with jrnl := { t.jrnl with state := JState.reset, half := 0, epoch := 1, pos := b.length, recs := recs.length } }

/-- OPTIME of the newest recorder record that shows it (R585). -/
def newestTime (s : State) : Nat :=
  (recIndex s).foldl (fun m e =>
    if rb s .mram (recBase + 64 * e.2 + 11) = 0 then r64 s .mram (recBase + 64 * e.2 + 16) else m) 0

/-- Replay of the journal (R575, R585): the current half read, OPTIME never behind the recorder's and counted on from the release of
RST_N, PCYC counted at power-on. -/
def replay (s : State) (powerOn : Bool) : State :=
  let s1 := match currentHalf s with
    | some (h, e, r) => { s with jrnl := { s.jrnl with state := r.state, half := h, epoch := e, pos := r.pos, recs := r.recs } }
    | none => jrnlNew s
  let j := s1.jrnl.state
  let bad := (j.cfg.filter (fun e => (cfgContent s1 e.1).isNone)).map (·.1)
  let j' : JState := { j with optime := max j.optime (newestTime s1), pcyc := j.pcyc + b2n powerOn }
  timeRecord { s1 with jrnl := { s1.jrnl with up := true, badCfg := bad, state := j' } }

/-- The recorder's index found (R587). -/
def rebuildIndex (s : State) : State :=
  let ix := recIndex s
  let newest (sev : Nat) : Option Nat :=
    (ix.filter (fun e => decide (ringBase sev ≤ e.2 ∧ e.2 < ringBase sev + ringSize sev))).getLast?.map (·.2)
  let top := match ix.getLast? with | some e => e.1 | none => 0
  let sevs := List.range 5
  let next := sevs.map (fun v => match newest v with | some n => (n - ringBase v + 1) % ringSize v | none => 0)
  let held := sevs.map (fun v => (ix.filter (fun e => decide (ringBase v ≤ e.2 ∧ e.2 < ringBase v + ringSize v))).length)
  let bad := ((recSlots s).filter (slotBad s)).length
  { s with jrnl := { s.jrnl with recUp := true, rseq := top + 1, slots := next, heldN := held,
                                 damaged := s.jrnl.damaged + bad } }

/-! ## Frames of the queue (R565, R566) -/

/-- J (R566). -/
def jLimit (s : State) : Nat := min 2048 (2 * scanPeriodUs s - 4)

/-- A commit's frame written to the queue, or dropped whole (R565, R568, R586). -/
def postFrame (s : State) (ds : List Delta) (resync : Bool) : State :=
  let n := 1 + deltaWords ds
  let fill := rdL s R.JQ_STAT_FILL .x
  if fill + n ≤ 32768 then
    wrAll { s with jrnl := { s.jrnl with queue := s.jrnl.queue ++ [⟨scanNo s, ds, resync⟩] } } R.JQ_STAT_FILL (fill + n)
  else
    let s1 := rcAdd s R.JQ_STAT_DROPS
    let s2 := (ds.filter (fun d => d.type == 6)).foldl (fun t (d : Delta) => loseEvent t (bits d.arg 15 12)) s1
    let s3 := { s2 with scan := { s2.scan with lost := s2.scan.lost ++ (ds.filter (fun d => d.type == 7)).map (·.arg) },
                        jrnl := { s2.jrnl with dropped := s2.jrnl.dropped + 1, dropNote := true } }
    if s.jrnl.dropNote then s3 else keeperEvent s3 0x0904 []

end Sys2Proof.Machine
end

