-- ==== Sys2Proof/Machine/Keeper.lean ====
section
/-!
DEFINITION. The Keeper: readiness, mailbox pairs, requests and verdicts (chapters 11, 13, 14).
-/

namespace Sys2Proof.Machine

/-! ## The READY register (13 R481 to R483, Table 13.5) -/

/-- A start-up item has its verdict, and it was not a refusal (R473). -/
def itemDone (s : State) (n : Nat) : Bool := !s.keeper.waitItems.contains n && !s.keeper.badItems.contains n

/-- READY.DIO_BANK[k]. -/
def bankReady (s : State) (k : Nat) : Bool :=
  s.scan.committed && rd s R.BANK_STAT_PWR 0 k == 1 && rd s R.BANK_STAT_OOS 0 k == 0 && rd s R.BANK_STAT_KA_TRIP 0 k == 0
    && itemDone s 3

/-- READY.ANALOG. -/
def analogReady (s : State) : Bool := s.scan.committed && (List.range 8).all (fun c => !(aiSt s c).hist.isEmpty)

/-- READY.ENC. -/
def encReady (s : State) : Bool :=
  let on := [0, 1, 2, 3].filter (fun e => rd s R.ENC_CFG_EN 0 e == 1)
  s.scan.committed && !on.isEmpty && on.all (fun e => (Tab.get none s.fio.encV e).isSome && bitAt s.fio.encOff e == 0)

/-- READY.CASCADE: enabled, the links that the position requires are up, SYNC_OK. -/
def cascadeReady (s : State) : Bool :=
  cxOn s && rdL s R.CX_STAT_SYNC_OK .x == 1 && (cxPos s == 0 || cxLink s false)
    && (decide (cxN s ≤ cxPos s + 1) || cxLink s true)

/-- READY.TUMBLER: PROG_VALID of two admitted lanes. -/
def tumblerReady (s : State) : Bool :=
  decide (2 ≤ ((admittedLanes s).filter (fun l => rdL s R.TUM_STAT_PROG_VALID l == 1)).length)

/-- READY.PRISM: tested and releasing. -/
def prismReady (s : State) : Bool :=
  rdL s R.PRISM_STAT_TEST_PASS .x == 1 && !s.modl.prismStop && decide (2 ≤ (admittedLanes s).length)

/-- A bit of READY (Table 13.5); no function is ready while RST_N is low or the module is parked. -/
def readyBit (s : State) (n : Nat) : Bool :=
  live s &&
  match n with
  | 0 => true
  | 1 => keeperUp s
  | 2 => s.lanes.x.admitted
  | 3 => s.lanes.y.admitted
  | 4 => s.lanes.z.admitted
  | 5 => prismReady s
  | 6 => tumblerReady s
  | 7 => decide (4 ≤ luState s) && rd s R.LU_STAT_LINE_A == 1
  | 8 => decide (4 ≤ luState s) && rd s R.LU_STAT_LINE_B == 1
  | 9 => bankReady s 0
  | 10 => bankReady s 1
  | 11 => bankReady s 2
  | 12 => bankReady s 3
  | 13 => bankReady s 4
  | 14 => bankReady s 5
  | 15 => analogReady s
  | 16 => encReady s
  | 17 => dbArmed s
  | 18 => s.jrnl.up && keeperUp s
  | 19 => s.jrnl.recUp && keeperUp s
  | 20 => bitAt (rd s R.TB_STAT_VALID) 0 == 1
  | 21 => bitAt (rd s R.TB_STAT_VALID) 1 == 1
  | 22 => bitAt (rd s R.TB_STAT_VALID) 2 == 1
  | 23 => bitAt (rd s R.TB_STAT_VALID) 3 == 1
  | 24 => s.scan.committed
  | 25 => s.scan.committed
  | 26 => rd s R.BR_STAT_L0 == 1
  | 27 => s.keeper.eth.isSome && keeperUp s
  | 28 => cascadeReady s
  | 29 => rd s R.HASP_STAT_PAIR_ACT == 1 && rd s R.HASP_STAT_LINE_OK == 1
  | _ => false

/-- READY. -/
def ready (s : State) : Nat := (List.range 30).foldl (fun m n => m + 2 ^ n * b2n (readyBit s n)) 0

/-- BOOT_STAT (Table 13.7). -/
def bootStat (s : State) : Nat :=
  2 ^ 30 * rd s R.BOOT_STAT_RST_CAUSE + 2 ^ 29 * rd s R.BOOT_STAT_BANK + 2 ^ 28 * rd s R.BOOT_STAT_RECOVERY
    + 2 ^ 24 * rd s R.BOOT_STAT_KEEPER_RES + 2 ^ 20 * rd s R.BOOT_STAT_RUNTIME_RES + 2 ^ 16 * rd s R.BOOT_STAT_LANE_Z_RES
    + 2 ^ 12 * rd s R.BOOT_STAT_LANE_Y_RES + 2 ^ 8 * rd s R.BOOT_STAT_LANE_X_RES + 2 ^ 4 * rd s R.BOOT_STAT_PROG_RES
    + rd s R.BOOT_STAT_SAFE_RES

/-! ## Signed images (13 R463 to R465) -/

/-- SHA-512 of bytes. -/
def sha512 (l : List Byte) : List Byte := (Config.sha512 l).toList

/-- The revoke bits and SVN_MIN now in force (R463): as manufactured, or raised since. -/
def otpRevoked (s : State) : Nat := Nat.lor Config.otpRevoked.val s.keeper.otp.revoked
def svnMin (s : State) (kind : Nat) : Nat := max (Config.otpSvnMin kind).val (Tab.get 0 s.keeper.otp.svnMin kind)

/-- The bytes of a signature block that are reserved (Table 13.1). -/
def blockReserved (b : List Byte) : List Byte := (b.drop 0x18).take 8 ++ (b.drop 0xE5).take 3 ++ b.drop 0x16C

/-- The result code of Table 13.2 for an image and its signature block. -/
def verifyImage (s : State) (kind : Nat) (image block : List Byte) : Nat :=
  let pub := (block.drop 0x60).take 133
  if leAt block 0 4 ≠ 0x59475342 ∨ leAt block 4 2 ≠ 1 ∨ (blockReserved block).any (· != 0) then 2
  else if leAt block 6 1 ≠ kind then 3
  else if ¬ ∃ k : Fin 4, k.val = leAt block 7 1 ∧ sha512 pub = (Config.otpKey k).toList ∧ bitAt (otpRevoked s) k.val = 0 then 4
  else if leAt block 8 4 < svnMin s kind then 5
  else if sha512 image ≠ (block.drop 0x20).take 64 then 6
  else if !Config.ecdsaVerify pub ((block.drop 0xE8).take 66) ((block.drop 0x12A).take 66) (sha512 (block.take 0xE8)) then 7
  else 1

/-- Flash regions (14 Table 14.10): start and size for an object kind, in bank A. -/
def slotOfs (kind : Nat) : Nat := ([0, 0, 0x1000000, 0x2000000, 0x2800000, 0, 0x2A00000] : List Nat).getD kind 0
def slotSize (kind : Nat) : Nat := ([0, 0x1000000, 0x1000000, 0x800000, 0x200000, 0x1000, 0x100000, 0x200000] : List Nat).getD kind 0

/-- The flash address of a slot in a bank. -/
def slotAddr (kind : Nat) (bankB : Bool) : Nat := 0x8000000 * b2n bankB + slotOfs kind

/-- The length of the signed image that a flash slot holds: the least offset at which a signature block stands that
names it as its IMG_LEN. -/
def imageLen (s : State) (kind : Nat) (bankB : Bool) : Option Nat :=
  let a := slotAddr kind bankB
  let b := Region.flash.at a
  ((Tab.range s.mem b (b + slotSize kind)).filter (fun e => e.2 == 0x42)).map (fun e => e.1 - b)
    |>.find? (fun o => r32 s .flash (a + o) == 0x59475342 && r32 s .flash (a + o + 0xC) == o && decide (1 ≤ o))

/-- The signature block of a flash slot; none of it where no image stands there. -/
def slotBlock (s : State) (kind : Nat) (bankB : Bool) : List Byte :=
  match imageLen s kind bankB with
  | some n => rbs s .flash (slotAddr kind bankB + n) 512
  | none => []

/-- The check of R465 of what a flash slot holds. -/
def verifySlot (s : State) (kind : Nat) (bankB : Bool) : Nat :=
  match imageLen s kind bankB with
  | none => 2
  | some n => verifyImage s kind (rbs s .flash (slotAddr kind bankB) n) (slotBlock s kind bankB)

/-- The bank booted. -/
def bootBank (s : State) : Bool := rd s R.BOOT_STAT_BANK == 1

/-! ## Events and records of the Keeper (11 R436, 12 R444) -/

/-- The events of group 0x09 that the always-on domain holds are written once the recorder accepts (R444). -/
def flushOwed (s : State) : State :=
  if keeperUp s && s.jrnl.recUp then
    let t := s.aon.owed.foldl (fun t (e : Nat × Nat × Nat) => keeperEvent t e.1 (leBytes 8 e.2.1 ++ leBytes 8 e.2.2)) s
    { t with aon := { t.aon with owed := [] } }
  else s

/-- A refused start-up or automatic request is recorded with its reason code (13 R473, R478). -/
def recordRefusal (s : State) (item reason : Nat) : State :=
  if s.jrnl.recUp then recWrite s 0 0 (scanNo s) false (leBytes 1 1 ++ leBytes 1 item ++ leBytes 1 reason) else s

/-! ## Start-up requests (13 R472, R473, R480, 17 R576) -/

/-- The force entry that two journal words spell. -/
def forceOfWords (a b : Nat) : ForceEnt :=
  ⟨bitAt a 31 = 1, bitAt a 30 = 1, bitAt a 29 = 1, bits a 28 24, bits a 17 0, bits a 63 32, b⟩

/-- The sections of a safety configuration object: by type, where its directory places them (14 R510). -/
def safeSection (l : List Byte) (type : Nat) : Option (List Byte) :=
  ([0, 1, 2].find? (fun i => leAt l (16 * i) 4 == type)).bind (fun i =>
    let o := leAt l (16 * i + 4) 4
    let n := leAt l (16 * i + 8) 4
    if o + n ≤ l.length ∧ 48 ≤ o then some ((l.drop o).take n) else none)

/-- The safety object of a flash slot, without its signature block. -/
def safeObject (s : State) (bankB : Bool) : List Byte := rbs s .flash (slotAddr 4 bankB) ((imageLen s 4 bankB).getD 0)

/-- The identity of a safety object: DIGEST, SVN and KEY_SLOT. -/
def safeIdent (s : State) (bankB : Bool) : List Byte × Nat × Nat :=
  let b := slotBlock s 4 bankB
  ((b.drop 0x20).take 64, leAt b 8 4, leAt b 7 1)

/-- Deltas cut into requests of at most 8 KiB (17 R576). -/
def cutRetained (ds : List Delta) : List (List Delta) :=
  (ds.foldl (fun (acc : List (List Delta) × List Delta) d =>
      if deltaWords acc.2 + 1 + d.words.length ≤ 1024 then (acc.1, acc.2 ++ [d]) else (acc.1 ++ [acc.2], [d])) ([], [])
    |> fun r => if r.2.isEmpty then r.1 else r.1 ++ [r.2])

/-- The start-up requests that the replayed state gives, in the order of R472; the retained restore follows item 6, after a wake item 9
(R480, R576). -/
def startupRequests (s : State) (wake : Bool) : List (Nat × Request) :=
  let j := s.jrnl.state
  let run := j.prog.isSome && rd s R.BOOT_STAT_PROG_RES == 1
  let back := if run then (cutRetained (runDeltas 1 8 j.dig ++ runDeltas 2 2 j.word ++ runDeltas 3 8 j.inst)).map (fun d =>
    (6, Request.retained d)) else []
  let cfg (n kind : Nat) : List (Nat × Request) := match cfgContent s kind with | some c => [(n, .cfg kind c)] | none => []
  let safe := match j.safety with | some (_, b) => if rd s R.BOOT_STAT_SAFE_RES = 1 then some (safeObject s b) else none | none => none
  cfg 1 1 ++ cfg 1 5
    ++ (match cfgContent s 8 with | some c => [(2, .luSched c (leAt c 28 4))] | none => [])
    ++ cfg 3 2
    ++ (match safe.bind (safeSection · 2) with | some p => [(4, .psl p)] | none => [])
    ++ cfg 5 3 ++ cfg 5 4
    ++ (match j.prog with
        | some (id, b) => if run then [(6, .progLoad (slotAddr 3 b) ((imageLen s 3 b).getD 0) id)] else []
        | none => [])
    ++ (if wake then [] else back)
    ++ (match safe with
        | some o => match safeSection o 1, safeSection o 2, safeSection o 3 with
          | some d, some p, some m => [(7, .safeCfg d p m)]
          | _, _, _ => []
        | none => [])
    ++ (if j.forces.isEmpty then [] else [(8, .forceTable (j.forces.map (fun e => (e.1, forceOfWords e.2.1 e.2.2))))])
    ++ (match j.deg with | some n => [(9, .degRemain n)] | none => [])
    ++ (if wake then back else [])

/-- The Keeper checks the program package and the safety configuration that the journal names (R468). -/
def checkObjects (s : State) : State :=
  let p := match s.jrnl.state.prog with | some (_, b) => wr s R.BOOT_STAT_PROG_RES (verifySlot s 3 b) | none => s
  match p.jrnl.state.safety with
  | some (_, b) => { wr p R.BOOT_STAT_SAFE_RES (verifySlot p 4 b) with keeper := { p.keeper with safeNext := some (safeIdent p b) } }
  | none => p

/-- The module settings that the Keeper applies itself (14 CFG_SET 0x06): AUTOSTART, MB_POLICY, WIN_MS, WARN, WAKE_CFG. -/
def applyModule (s : State) (c : List Byte) : State :=
  let v (i : Nat) := leAt c (4 * i) 4
  let s1 := { s with keeper := { s.keeper with autostart := v 0 % 4, policy := v 1 % 16 } }
  let s2 := wr (wr s1 R.SUPW_CFG_WIN_MS (v 2)) R.TJ_CFG_WARN (v 3)
  wr (wr (wr s2 R.WAKE_CFG_ALARM_EN (bitAt (v 4) 2)) R.WAKE_CFG_LUOSH_EN (bitAt (v 4) 1)) R.WAKE_CFG_WAKEN_EN (bitAt (v 4) 0)

/-- The module settings are complete and in range. -/
def moduleOk (c : List Byte) : Bool :=
  let v (i : Nat) := leAt c (4 * i) 4
  c.length == 20 && decide (v 0 ≤ 2 ∧ v 1 ≤ 15 ∧ 1 ≤ v 2 ∧ v 2 ≤ 1000 ∧ 100 ≤ v 3 ∧ v 3 ≤ 145 ∧ v 4 ≤ 7)

/-- The start-up requests are queued before everything else that the Keeper posts (R472, 17 R576); without a journalled remainder of the
degraded allowance that of the register stands (04 R178). -/
def postStartup (s : State) (wake : Bool) : State :=
  let t := checkObjects s
  let t1 := match cfgContent t 6 with | some c => applyModule t c | none => t
  let rs := startupRequests t1 wake
  let t2 := if t1.jrnl.state.deg.isNone then remainKnown t1 else t1
  { t2 with keeper := { t2.keeper with
      toPost := rs.map (fun e => (Origin.startup e.1, e.2)) ++ t2.keeper.toPost,
      waitItems := (rs.map (·.1)).eraseDups, badItems := [], starting := true, autoDone := false } }

/-- JOURNAL_REPLAY (R472, 17 R575): the journal is replayed, JOURNAL set, and the start-up requests wait to be posted. -/
def execJournalReplay (s : State) : Answer := whenLive s <|
  .next (if keeperUp s ∧ !s.jrnl.up then postStartup (replay s (rd s R.BOOT_STAT_RST_CAUSE == 0)) false else s)

/-- The start-up record of R462: cause, LAST_WAKE, bank, boot results, power-on starts; kinds whose content failed (17
R575). -/
def startRecord (s : State) : State :=
  recWrite s 0 0 (scanNo s) false (leBytes 1 0 ++ leBytes 1 (rd s R.BOOT_STAT_RST_CAUSE) ++ leBytes 1 (rd s R.AON_STAT_LAST_WAKE)
    ++ leBytes 1 (rd s R.BOOT_STAT_BANK) ++ leBytes 4 (bootStat s % 2 ^ 28) ++ leBytes 4 s.jrnl.state.pcyc
    ++ leBytes 1 (s.jrnl.badCfg.foldl (fun m k => setB m (k - 1) true) 0))

/-- RECORDER_INDEX_REBUILD (17 R587): RECORDER is set, the start-up record and the events owed are written. -/
def execRecorderIndexRebuild (s : State) : Answer := whenLive s <|
  .next (if keeperUp s ∧ s.jrnl.up ∧ !s.jrnl.recUp then flushOwed (startRecord (rebuildIndex s)) else s)

/-! ## Mailbox pairs (14 R486 to R502) -/

def MbPair.zero : MbPair := ⟨none, false, none, 0, none, [], [], false⟩
def mbPair (s : State) (p : Nat) : MbPair := Tab.get MbPair.zero s.keeper.pairs p
def setMb (s : State) (p : Nat) (f : MbPair → MbPair) : State :=
  { s with keeper := { s.keeper with pairs := Tab.put MbPair.zero s.keeper.pairs p (f (mbPair s p)) } }

/-- Payload limits of commands and responses (Table 14.3). -/
def cmdMax (p : Nat) : Nat := ([4080, 1456, 240, 4080] : List Nat).getD p 0
def rspMax (p : Nat) : Nat := ([4064, 1440, 224, 4064] : List Nat).getD p 0

/-- PERR (R499, 15 R535). -/
def perr (s : State) : Bool := rd s R.PEL_STAT_COUNT != 0 || rd s R.PEL_STAT_OVF == 1

/-- The boot ROM recovery of 13 R466. -/
def recovery (s : State) : Bool := rd s R.BOOT_STAT_RECOVERY == 1 && s.keeper.restart.isNone

/-- A pair is served (R507, R517). -/
def mbServing (s : State) (p : Nat) : Bool := keeperUp s || (recovery s && p == 1)

/-- A response before its header is built: status, reason, flags of its own, GEN where it is not the last commit's. -/
structure Rsp where
  status  : Nat
  reason  : Nat
  flags   : Nat
  gen     : Option Nat
  payload : List Byte

/-- A response of a status alone; one that is OK with a payload; a refusal without a new commit (11 R423). -/
def rspStatus (status : Nat) (reason : Nat := 0) : Rsp := ⟨status, reason, 0, none, []⟩
def rspOk (payload : List Byte := []) : Rsp := ⟨0, 0, 0, none, payload⟩
def rspSafe : Rsp := ⟨1, 0x36, 2, none, []⟩

/-- The bytes of a response (Table 14.6). -/
def rspBytes (s : State) (p seq op : Nat) (r : Rsp) : List Byte :=
  let h := leBytes 2 0x4B52 ++ leBytes 1 1 ++ leBytes 1 (b2n (perr s) + r.flags + 16 * b2n (mbPair s p).krestart)
    ++ leBytes 2 seq ++ leBytes 2 op ++ leBytes 4 r.payload.length ++ leBytes 1 r.status ++ leBytes 1 r.reason ++ leBytes 2 0
    ++ leBytes 4 (r.gen.getD s.scan.gen) ++ leBytes 4 (Tab.get 0 s.scan.snap 24) ++ leBytes 4 (ready s)
  h ++ leBytes 4 (crc32c (h ++ r.payload)) ++ r.payload

/-- A stored response with REPLAY = 1 and a fresh CHK (R501); PERR and KRESTART stand in every response they apply to (R499, R500). -/
def replayBytes (s : State) (p : Nat) (l : List Byte) : List Byte :=
  let h := (l.take 3) ++ leBytes 1 (Nat.lor (leAt l 3 1) (8 + b2n (perr s) + 16 * b2n (mbPair s p).krestart)) ++ ((l.drop 4).take 24)
  h ++ leBytes 4 (crc32c (h ++ l.drop 32)) ++ l.drop 32

/-- A response leaves by the route of its pair (R488 to R490, R493). -/
def mbRoute (s : State) (p src : Nat) (b : List Byte) : State :=
  match p with
  | 0 => msix s 0
  | 1 => emit s (.udp 51720 src b)
  | 2 => cxMbox s src b
  | _ => { s with hinge := { s.hinge with answer := some (leAt b 12 1, leAt b 13 1, leAt b 16 4) } }

/-- The whole response is written, then RSP_VALID = 1 and OWNER = 0 in one write (R493). -/
def mbSend (s : State) (p : Fin 4) (src : Nat) (b : List Byte) : State :=
  let s1 := wbs (clearMem s (.rspBuf p) 0 4096) (.rspBuf p) 0 b
  let s2 := wr (wr (wr s1 R.MB_STAT_RSP_VALID 1 0 p.val) R.MB_STAT_OWNER 0 0 p.val) R.MB_STAT_LAST_SEQ (leAt b 4 2) 0 p.val
  mbRoute (wr s2 R.MB_STAT_PERR (b2n (perr s)) 0 p.val) p.val src b

/-- A command is answered: response, outcome log (R502), the pair free again. -/
def mbAnswer (s : State) (p : Fin 4) (c : MbCmd) (r : Rsp) : State :=
  let b := rspBytes s p.val c.seq c.opcode r
  let e : OutEnt := ⟨c.seq, c.opcode, r.status, r.reason, r.gen.getD s.scan.gen⟩
  let t := setMb s p.val (fun x => { x with cmd := none, queued := false, slot := none, last := some (c.src, c.seq),
                                            stored := b, log := (e :: x.log).take 256, krestart := false })
  mbSend t p c.src b

/-- The opcodes of Table 14.8, and those served in boot ROM recovery (R507). -/
def opcodes : List Nat :=
  [0x1, 0x2, 0x3, 0x10, 0x11, 0x12, 0x13, 0x100, 0x101, 0x102, 0x200, 0x201, 0x202, 0x203, 0x300, 0x301, 0x310, 0x311, 0x312,
   0x313, 0x400, 0x401, 0x500, 0x501, 0x502, 0x600, 0x601, 0x602, 0x700, 0x701, 0x702, 0x703, 0x704, 0x705, 0x800, 0x801, 0x802,
   0x803, 0x804, 0x900, 0x901, 0x902, 0x903, 0xA00, 0xA01, 0xA02, 0xA10, 0xA11, 0xB00, 0xB01, 0xB10, 0xB11]
def bootOpcodes : List Nat := [0x1, 0x2, 0x10, 0x11, 0x12, 0x13, 0x100, 0xA00, 0xA01, 0xA02]

/-- A command whose first payload byte names no row: a mode or a section that Table 14.8 does not list. -/
def badVariant (op : Nat) (l : List Byte) : Bool :=
  (op == 0x200 && !(l.length == 1 && decide (1 ≤ leAt l 0 1 ∧ leAt l 0 1 ≤ 4)))
    || (op == 0x400 && !decide (1 ≤ l.length ∧ 1 ≤ leAt l 0 1 ∧ leAt l 0 1 ≤ 7))

/-- The header check of R497: BAD_HEADER, BAD_CHK or none. -/
def headerFault (p : Nat) (l : List Byte) : Option Nat :=
  let len := leAt l 8 4
  if l.length < 16 ∨ leAt l 0 2 ≠ 0x4B4D ∨ leAt l 2 1 ≠ 1 ∨ 1 < leAt l 3 1 ∨ cmdMax p < len ∨ l.length ≠ 16 + len then some 3
  else if leAt l 12 4 ≠ crc32c (l.take 12 ++ l.drop 16) then some 4 else none

/-- The first response of a pair after a restart has been given (R500). -/
def krestarted (s : State) (p : Nat) : State := setMb s p (fun x => { x with krestart := false })

/-- The Keeper takes a command from a pair (R497, R501, R505, R507): a bad header or check value, a repeated SEQ and an
opcode that is not served are answered at once; otherwise the command is in execution. -/
def mbTake (s : State) (p : Fin 4) (src : Nat) (l : List Byte) : State :=
  let seq := leAt l 4 2
  let op := leAt l 6 2
  match headerFault p.val l with
  | some st => mbSend (krestarted s p.val) p src (rspBytes s p.val seq op (rspStatus st))
  | none =>
    let again := match (mbPair s p.val).last with
      | some (q, n) => n == seq && (p.val != 1 || q == src)
      | none => false
    if again then mbSend (krestarted s p.val) p src (replayBytes s p.val (mbPair s p.val).stored)
    else
      let c : MbCmd := ⟨src, seq, op, bitAt (leAt l 3 1) 0 = 1, l.drop 16⟩
      if !opcodes.contains op || (recovery s && !keeperUp s && !bootOpcodes.contains op) then mbAnswer s p c (rspStatus 5)
      else if badVariant op c.payload then mbAnswer s p c (rspStatus 6)
      else setMb s p.val (fun x => { x with cmd := some c, queued := false, slot := none, ringAt := s.time.now })

/-- The command that stands in a pair's command buffer. -/
def bufCmd (s : State) (p : Fin 4) : List Byte := rbs s (.cmdBuf p) 0 (16 + min 4080 (r32 s (.cmdBuf p) 8))

/-- A ring (R492): the pair goes to the Keeper, which takes the command while it serves; a ring of an owned pair is
counted. -/
def ring (s : State) (p : Fin 4) : State :=
  if rd s R.MB_STAT_OWNER 0 p.val = 1 then rcAdd s R.MB_CNT_RINGS_LOST 1 p.val
  else
    let t := wr (wr s R.MB_STAT_OWNER 1 0 p.val) R.MB_STAT_RSP_VALID 0 0 p.val
    if mbServing t p.val then mbTake t p 0 (bufCmd t p) else t

/-- MB_DOORBELL_RING (R492); pair 3 receives no commands where HINGE_EN is 0 (18 R592). -/
def execMbDoorbellRing (p : Fin 4) (s : State) : Answer := whenLive s <| .next (if p.val = 3 && !s.keeper.hinge then s else ring s p)

/-- A command that the Keeper writes into the buffer of pair 1 or 2 and takes (R488, R489). -/
def mbArrive (s : State) (p : Fin 4) (src : Nat) (l : List Byte) : State :=
  let s1 := wbs (clearMem s (.cmdBuf p) 0 4096) (.cmdBuf p) 0 (l.take 4096)
  mbTake (wr (wr s1 R.MB_STAT_OWNER 1 0 p.val) R.MB_STAT_RSP_VALID 0 0 p.val) p src l

/-- A command arriving at a pair that executes one: discarded where it is the same again, otherwise answered BUSY (R488). -/
def mbBusy (s : State) (p : Fin 4) (c : MbCmd) (src : Nat) (l : List Byte) : State :=
  if c.src = src ∧ c.seq = leAt l 4 2 then s
  else mbRoute (krestarted s p.val) p.val src (rspBytes s p.val (leAt l 4 2) (leAt l 6 2) (rspStatus 8))

/-- MAINT_DATAGRAM_RX (R488). -/
def execMaintDatagramRx (src : Nat) (bytes : List Byte) (s : State) : Answer := whenLive s <|
  .next (if s.keeper.eth.isSome ∧ mbServing s 1 then
      match (mbPair s 1).cmd with
      | some c => mbBusy s 1 c src bytes
      | none => mbArrive s 1 src bytes
    else s)

/-- The pair whose RELAY waits for a response from a position. -/
def relayPair (s : State) (pos : Nat) : Option (Fin 4 × MbCmd) :=
  allPorts.findSome? (fun p => match (mbPair s p.val).cmd with
    | some c => if c.opcode = 3 ∧ (mbPair s p.val).queued ∧ leAt c.payload 0 1 = pos then some (p, c) else none
    | none => none)

/-- CASCADE_MBOX_RX (R489): a command for this member is taken by pair 2, a response ends the RELAY that waits for it, a
frame for another member goes on. -/
def execCascadeMboxRx (dn : Bool) (src dst : Fin 4) (f : CxFrame) (s : State) : Answer := whenLive s <|
  .next (if !cxLink s dn || !cxGood f 3 || f.src != src.val || f.dst != dst.val || f.src == cxPos s then s
    else if f.dst ≠ cxPos s then
      if cxLink s (!dn) then emit s (.cx (!dn) f) else s
    else if !keeperUp s then s
    else if leAt f.data 0 2 = 0x4B52 then
      match relayPair s f.src with
      | some (p, c) => mbAnswer s p c (rspOk f.data)
      | none => s
    else
      match (mbPair s 2).cmd with
      | some c => mbBusy s 2 c f.src f.data
      | none => mbArrive s 2 f.src f.data)

/-! ## Requests and verdicts (01 R34 to R37, 14 R494, R495, 11 R423) -/

/-- A command's request goes to the end of what the Keeper has to post (R495). -/
def mbPost (s : State) (p : Fin 4) (c : MbCmd) (r : Request) : State :=
  let t := setMb s p.val (fun x => { x with queued := true })
  { t with keeper := { t.keeper with toPost := t.keeper.toPost ++ [(.pair p.val c.seq, r)] } }

/-- A request that a mailbox command has made. -/
def Origin.isPair : Origin → Bool
  | .pair _ _ => true
  | _ => false

/-- Start-up requests are those of R472 and R576. -/
def Origin.isStartup : Origin → Bool
  | .startup _ => true
  | _ => false

/-- The next request to post: while start-up requests are outstanding, no other (17 R576). -/
def nextPost (s : State) : Option (Origin × Request) :=
  if s.keeper.starting then s.keeper.toPost.find? (·.1.isStartup) else s.keeper.toPost.head?

/-- KEEPER_REQUEST_POST (R495): the next request enters the ring, at most 32 before any one freeze; an ASYNC command is
answered PENDING. -/
def execKeeperRequestPost (s : State) : Answer := whenLive s <|
  .next (match nextPost s with
    | none => s
    | some (o, r) =>
      if !keeperUp s ∨ s.keeper.safeSeen ∨ 32 ≤ s.keeper.nPosted then s
      else
        let slot := s.scan.slot
        let k := s.keeper
        let t := { s with keeper := { k with toPost := k.toPost.erase (o, r), posted := k.posted ++ [(slot, o, r)],
                                             nPosted := k.nPosted + 1 },
                          scan := { s.scan with ring := s.scan.ring ++ [(slot, r)], slot := slot + 1 } }
        match o with
        | .pair n seq =>
          if h : n < 4 then
            match (mbPair t n).cmd with
            | some c => if c.seq = seq then
                let u := setMb t n (fun x => { x with slot := some slot })
                if c.async then mbAnswer u ⟨n, h⟩ c (rspStatus 2) else u
              else t
            | none => t
          else t
        | _ => t)

/-- The PENDING entry of a SEQ in a pair's outcome log takes its outcome (R502). -/
def logOutcome (s : State) (p seq status reason gen : Nat) : State :=
  setMb s p (fun x => { x with log := x.log.map (fun e =>
    if e.seq = seq ∧ e.status = 2 then { e with status := status, reason := reason, gen := gen } else e) })

/-- What the Keeper does with an accepted request of its own: the journal record that makes it stand (14 "Accepted settings
are journalled", 17 Table 17.4, R574), and the slots in use. -/
def accepted (s : State) (gen : Nat) (startup : Bool) : Request → State
  | .cfg sect c => if startup ∨ !s.jrnl.up then s else writeConfig s sect c gen
  | .luSched o _ =>
    let k := s.keeper
    let t := { s with keeper := { k with schedSlot := some (match k.schedSlot with | some b => !b | none => false) } }
    if startup then s else if !s.jrnl.up then t else writeConfig t 8 o gen
  | .progLoad addr _ id =>
    let b := decide (0x8000000 ≤ addr)
    let t := { s with keeper := { s.keeper with progSlot := some b } }
    if startup ∨ !s.jrnl.up then t else appendRec t 0x21 0 (payProgram id b)
  | .safeCfg _ _ _ =>
    let k := s.keeper
    let b := if startup then (match s.jrnl.state.safety with | some (_, b) => b | none => false)
      else (match k.safeSlot with | some b => !b | none => false)
    let t := { s with keeper := { k with safeId := k.safeNext, safeSlot := some b } }
    match k.safeNext with
    | some (d, _) => if startup ∨ !s.jrnl.up then t else appendRec t 0x22 0 (paySafety d b)
    | none => t
  | _ => s

/-- VERDICT_READ (01 R37): the next voted verdict ends the command that waits for it, updates a PENDING outcome, or ends a
start-up item. -/
def execVerdictRead (s : State) : Answer := whenLive s <|
  .next (match keeperUp s, s.scan.verdicts with
    | true, v :: vs =>
      let s0 := { s with scan := { s.scan with verdicts := vs } }
      match s0.keeper.posted.find? (fun e => e.1 == v.slot) with
      | none => s0
      | some (_, o, r) =>
        let s1 := { s0 with keeper := { s0.keeper with posted := s0.keeper.posted.filter (fun e => e.1 != v.slot) } }
        let s2 := if v.reason = 0 then accepted s1 v.gen o.isStartup r else s1
        match o with
        | .pair n seq =>
          if h : n < 4 then
            match (mbPair s2 n).cmd with
            | some c =>
              if c.seq = seq ∧ (mbPair s2 n).slot = some v.slot then
                mbAnswer s2 ⟨n, h⟩ c ⟨b2n (v.reason != 0), v.reason, 0, some v.gen, []⟩
              else logOutcome s2 n seq (b2n (v.reason != 0)) v.reason v.gen
            | none => logOutcome s2 n seq (b2n (v.reason != 0)) v.reason v.gen
          else s2
        | .startup n =>
          let more := s2.keeper.posted.any (fun e => e.2.1 == .startup n) || s2.keeper.toPost.any (fun e => e.1 == .startup n)
          let k := s2.keeper
          let t := { s2 with keeper := { k with waitItems := if more then k.waitItems else k.waitItems.filter (· != n),
                                                badItems := if v.reason = 0 then k.badItems else (n :: k.badItems).eraseDups } }
          if v.reason = 0 then t else recordRefusal t n v.reason
        | .auto => if v.reason = 0 then s2 else recordRefusal s2 0xFF v.reason
    | _, _ => s)

/-- REQUEST_PENDING_TIMEOUT (R494): 2 s after the ring without a verdict. -/
def execRequestPendingTimeout (p : Fin 4) (s : State) : Answer := whenLive s <|
  .next (match (mbPair s p.val).cmd with
    | some c =>
      if keeperUp s ∧ (mbPair s p.val).queued ∧ c.opcode ≠ 3 ∧ (mbPair s p.val).ringAt + 2000000000 ≤ s.time.now then
        mbAnswer s p c (rspStatus 2)
      else s
    | none => s)

/-- KEEPER_SAFE_SEEN (11 R423): no further request is posted; every command and outcome still pending is refused with
0x36. -/
def execKeeperSafeSeen (s : State) : Answer := whenLive s <|
  .next (if keeperUp s ∧ !s.keeper.safeSeen ∧ (s.modl.mode = .safe ∨ s.modl.prismStop) then
      let s1 := { s with keeper := { s.keeper with safeSeen := true, toPost := [] } }
      allPorts.foldl (fun t p =>
        let u := setMb t p.val (fun x => { x with log := x.log.map (fun e =>
          if e.status = 2 then { e with status := 1, reason := 0x36, gen := t.scan.gen } else e) })
        match (mbPair u p.val).cmd with
        | some c => if (mbPair u p.val).queued ∧ c.opcode ≠ 3 then mbAnswer u p c rspSafe else u
        | none => u) s1
    else s)

/-- The bits of the frozen input image as the last commit mirrored it (01 R48), first at bit 0. -/
def mirrorBits (s : State) (l : List Nat) : Nat :=
  (l.zipIdx.map (fun e => 2 ^ e.2 * b2n ((rb s .bar2 (mirrorIn + e.1 / 8)).getLsbD (e.1 % 8)))).foldl (· + ·) 0

/-- The voted value of a unit in the status words of the last commit (11 R432). The spec numbers no unit classes: 0 the status words 16 to
63 (lanes, Prism, mode, faults), 1 Luosh lines, 2 stations, 3 DIO banks, 4 Penesh connections, 5 axes and, from index 4, brakes, 6 the
Hasp, 7 cascade members (DESIGN CHOICE, log entry 145). -/
def votedView (s : State) (cls idx : Nat) : Option Nat :=
  match cls with
  | 0 => if 16 ≤ idx ∧ idx < 64 then some (Tab.get 0 s.scan.snap idx) else none
  | 1 => if idx < 2 then some (rd s (if idx = 0 then R.LU_STAT_LINE_A else R.LU_STAT_LINE_B)) else none
  | 2 => if idx < 1024 then some (mirrorBits s [2048 + 2 * idx, 2049 + 2 * idx]) else none
  | 3 => if idx < 6 then some (mirrorBits s [192 + idx, 200 + idx, 208 + idx]) else none
  | 4 => if idx < s.psl.conns.length then some (imgWord s ((firstLane s).getD .x) (s.psl.statBase + idx)) else none
  | 5 => if idx < 4 then some (mirrorBits s [552 + idx, 556 + idx, 560 + idx])
      else if idx < 6 then some (mirrorBits s [560 + idx, 562 + idx, 564 + idx, 566 + idx]) else none
  | 6 => if idx = 0 then some (rd s R.HASP_STAT_HELD + 2 * rd s R.HASP_STAT_PEER_HELD + 4 * rd s R.HASP_STAT_CONFLICT) else none
  | 7 => if idx < 4 then some (mirrorBits s [rdL s R.CX_QUAL_QUAL_BASE .x + 2 * idx, rdL s R.CX_QUAL_QUAL_BASE .x + 2 * idx + 1]) else none
  | _ => none

/-- What the comparison of a view with the voted value leaves (R433 to R435): none before the unit was ever compared; one at a commit
already compared takes the view alone; a difference counts on where the commit before was compared too. -/
def viewTake (s : State) (old : Option ViewSt) (view voted : Nat) : ViewSt :=
  match old with
  | some x =>
    if x.com = s.scan.commits then { x with view := view }
    else if view = voted then ⟨0, s.scan.commits, view⟩
    else ⟨(if x.com + 1 = s.scan.commits then x.n else 0) + 1, s.scan.commits, view⟩
  | none => ⟨b2n (view != voted), s.scan.commits, view⟩

/-- The last comparison of a unit. -/
def viewOf (s : State) (cls idx : Nat) : Option ViewSt := (s.keeper.views.find? (fun e => e.1 == 65536 * cls + idx)).map (·.2)

/-- The comparison recorded: still different after 3 further commits F0 0x0907; at 64 commits F1 0x0905, and the voted value replaces the
view (R433, R434). -/
def viewCompare (s : State) (cls idx view voted : Nat) : State :=
  let key := 65536 * cls + idx
  let old := viewOf s cls idx
  let x := viewTake s old view voted
  let put (y : ViewSt) : State := { s with keeper := { s.keeper with views := Tab.insert s.keeper.views key y } }
  if old.any (fun y => y.com == s.scan.commits) then put x
  else if 64 ≤ x.n then keeperEvent (put ⟨0, s.scan.commits, voted⟩) 0x0905 (leBytes 4 key)
  else if x.n = 4 then keeperEvent (put x) 0x0907 (leBytes 4 key)
  else put x

/-- MANAGEMENT_VIEW_COMPARE (11 R433 to R435): the Keeper's view against the voted words of the last commit. -/
def execManagementViewCompare (cls idx : Nat) (view : Word) (s : State) : Answer := whenLive s <|
  .next (match votedView s cls idx with
    | some voted => if keeperUp s then viewCompare s cls idx view.toNat voted else s
    | none => s)

/-! ## Expiries (14 R503, R513, R514) -/

/-- XFER_TIMEOUT (R503). -/
def execXferTimeout (kind : Nat) (s : State) : Answer := whenLive s <|
  .next (match s.keeper.xfers.find? (fun e => e.1 == kind) with
    | some (_, x) => if x.last + 60000000000 ≤ s.time.now
      then { s with keeper := { s.keeper with xfers := Tab.erase s.keeper.xfers kind } } else s
    | none => s)

/-- TOKEN_NONCE_EXPIRY (R513). -/
def execTokenNonceExpiry (s : State) : Answer := whenLive s <|
  .next (match s.keeper.nonce with
    | some (_, t) => if t + 600000000000 ≤ s.time.now then { s with keeper := { s.keeper with nonce := none } } else s
    | none => s)

/-- SERVICE_TOKEN_EXPIRY (R513). -/
def execServiceTokenExpiry (s : State) : Answer := whenLive s <|
  .next (match s.keeper.token with
    | some (_, _, t) => if t + 600000000000 ≤ s.time.now then { s with keeper := { s.keeper with token := none } } else s
    | none => s)

/-- SERVICE_EXPIRY (R514, 13 Table 13.4): once TX has reached the expiry, mode STOP follows at the next commit. -/
def execServiceExpiry (s : State) : Answer := whenLive s <|
  .next (if s.modl.mode = .service ∧ s.modl.serviceEnd ≤ s.scan.tx then
      { s with modl := { s.modl with nextMode := some .stop } }
    else s)

/-! ## Keeper restart (14 R516, R517, 18 R604) -/

/-- A restart begins: causes 0 watchdog, 1 exception, 2 command. A command's request that is not yet in the ring is lost with its command
(R517). -/
def keeperRestart (s : State) (cause : Nat) : State :=
  let s1 := allPorts.foldl (fun t p => wr t R.MB_STAT_KEEPER_DOWN 1 0 p.val) s
  let s2 := wr (wr s1 R.PTP_STAT_HOLDOVER 1) R.HB_LIVE_ARMED 0
  let left := s.keeper.toPost.filter (fun e => !e.1.isPair)
  { s2 with keeper := { s2.keeper with restart := some cause, xfers := [], token := none, toPost := left },
            time := { s2.time with ptpGood := 0 },
            hinge := { s2.hinge with shown := none, filled := none, armedAt := none } }

/-- KEEPER_WATCHDOG_EXPIRY (R516). -/
def execKeeperWatchdogExpiry (s : State) : Answer := whenLive s <| .next (if keeperUp s then keeperRestart s 0 else s)

/-- KEEPER_EXCEPTION (R516). -/
def execKeeperException (s : State) : Answer := whenLive s <| .next (if keeperUp s then keeperRestart s 1 else s)

/-- The newest entry of a pair's outcome log is PENDING: the verdict of a request in the ring will give its outcome (R502, R517). -/
def logPending (s : State) (p : Nat) : State :=
  setMb s p (fun x => { x with log := match x.log with | e :: es => { e with status := 2 } :: es | [] => [] })

/-- The pairs after a restart: a command in execution is answered LOST, where its request is in the ring with the outcome still to come;
a ring that waited is taken (R517). -/
def pairResume (s : State) (p : Fin 4) : State :=
  let t := setMb (wr s R.MB_STAT_KEEPER_DOWN 0 0 p.val) p.val (fun x => { x with krestart := true })
  match (mbPair t p.val).cmd with
  | some c =>
    let u := mbAnswer t p c (rspStatus 0xC)
    if (mbPair t p.val).slot.isSome then logPending u p.val else u
  | none => if rd t R.MB_STAT_OWNER 0 p.val = 1 ∧ p.val ≠ 1 ∧ p.val ≠ 2 then mbTake t p 0 (bufCmd t p) else t

/-- KEEPER_RESTART_DONE (R516, R517): the firmware of the booted bank checked again, the Keeper serves again and records F1 0x0903 with
the cause. -/
def execKeeperRestartDone (s : State) : Answer := whenLive s <|
  .next (match s.keeper.restart with
    | some cause =>
      if verifySlot s 1 (bootBank s) ≠ 1 then s
      else
      let s1 := { s with keeper := { s.keeper with restart := none } }
      flushOwed (allPorts.foldl pairResume (keeperEvent s1 0x0903 (leBytes 1 cause)))
    | none => s)

/-! ## Maintenance Ethernet (14 R488, 13 R481) -/

/-- MAINT_ETH_LINK_UP: READY.MAINT_ETH rises with an address held. -/
def execMaintEthLinkUp (ip : Nat) (s : State) : Answer := whenLive s <| .next { s with keeper := { s.keeper with eth := some ip } }

/-- ARP_REQUEST_RX (R488): a request for the own address is answered. -/
def execArpRequestRx (ip : Nat) (s : State) : Answer := whenLive s <|
  .next (if s.keeper.eth.isSome ∧ mbServing s 1 then emit s (.arp ip) else s)

/-- ICMP_ECHO_RX (R488). -/
def execIcmpEchoRx (ip : Nat) (data : List Byte) (s : State) : Answer := whenLive s <|
  .next (if s.keeper.eth.isSome ∧ mbServing s 1 then emit s (.icmp ip data) else s)

end Sys2Proof.Machine
end

