-- ==== Sys2Proof/Machine/Dma.lean ====
section
/-!
DEFINITION. DMA engines and check-value units (chapter 16).
-/

namespace Sys2Proof.Machine

/-! ## Check-value units: their commands (16 R557 to R560) -/

/-- Bytes fed to a CVU (R557, R558). -/
def cvuFeed (s : State) (e u : Nat) (l : List Byte) : State :=
  wr (cvuSet s e u (cvuAfter s e u l)) R.BYTES_COUNT (rd s R.BYTES_COUNT e u + l.length) e u

/-- INIT loaded into VALUE, BYTES cleared (R558). -/
def cvuLoad (s : State) (e u : Nat) : State :=
  let v := (rd s R.INIT_LO_INIT e u + 2 ^ 32 * rd s R.INIT_HI_INIT e u) % 2 ^ cvuWidth s e u
  wr (cvuSet s e u v) R.BYTES_COUNT 0 e u

/-- A count of an engine's block for both of its readers (the Keeper's own engine has one). -/
def rcEngine (s : State) (r : Row) (e n i : Nat) : State := rcMap s r (satAdd r n) i (if e < 3 then [e, 4 + e] else [e])

/-- A core write to a CVU: discarded and counted while the unit is claimed (R559). -/
def cvuWrite (s : State) (e u : Nat) (f : State → State) : State :=
  if rd s R.CVU_STAT_CLAIMED e u = 1 then rcEngine s R.CVU_STAT_WR_LOST e 1 u else f s

/-- CVU_INIT (R558). -/
def execCvuInit (e : Fin 4) (u : Fin 4) (s : State) : Answer := whenCore s e.val <| .next (cvuWrite s e.val u.val (fun t => cvuLoad t e.val u.val))

/-- DATA_B (R558). -/
def execDataB (e : Fin 4) (u : Fin 4) (v : Byte) (s : State) : Answer := whenCore s e.val <|
  .next (cvuWrite s e.val u.val (fun t => cvuFeed t e.val u.val [v]))

/-- DATA_W (R558): four bytes, bits [7:0] first. -/
def execDataW (e : Fin 4) (u : Fin 4) (v : Word) (s : State) : Answer := whenCore s e.val <|
  .next (cvuWrite s e.val u.val (fun t => cvuFeed t e.val u.val (leBytes 4 v.toNat)))

/-- CVU_LOW_WORD_READ (R558): the upper word is captured. -/
def execCvuLowWordRead (e : Fin 4) (u : Fin 4) (result : Bool) (s : State) : Answer := whenCore s e.val <|
  let r := cvuCapture s e.val u.val (if result then cvuResult s e.val u.val else cvuValue s e.val u.val)
  .next (emit r.1 (.read e.val r.2))

/-- CVU[2] of a lane after it has computed PROG_ID over bytes (R562, 03 R132): W 64, POLY 0x42F0_E1EB_A9EA_3693, INIT all ones, REFLECT
and FINV 1. -/
def cvuProgId (s : State) (l : Lane) (bytes : List Byte) : State :=
  let e := l.idx
  let s1 := wr (wr (wr s R.CVU_CFG_WIDTH 64 e 2) R.CVU_CFG_REFLECT 1 e 2) R.CVU_CFG_FINV 1 e 2
  let s2 := cvuPair s1 e 2 R.POLY_LO_POLY R.POLY_HI_POLY 0x42F0E1EBA9EA3693
  let s3 := cvuPair s2 e 2 R.INIT_LO_INIT R.INIT_HI_INIT 0xFFFFFFFFFFFFFFFF
  let s4 := cvuSet s3 e 2 (crcRefl 0xC96C5795D7870F42 0xFFFFFFFFFFFFFFFF bytes)
  wr s4 R.BYTES_COUNT bytes.length e 2

/-! ## Channels and descriptors (16 R538 to R556) -/

def DmaCh.zero : DmaCh := ⟨none, 0, 0, false, false, false⟩
def dmaCh (s : State) (e n : Nat) : DmaCh := Tab.get DmaCh.zero s.dma.chs (16 * e + n)
def setDma (s : State) (e n : Nat) (f : DmaCh → DmaCh) : State :=
  { s with dma := { s.dma with chs := Tab.put DmaCh.zero s.dma.chs (16 * e + n) (f (dmaCh s e n)) } }

/-- The states of CH_STAT. -/
def chIdle : Nat := 0
def chWait : Nat := 1
def chPend : Nat := 2
def chRun : Nat := 3
def chReadback : Nat := 4
def chDrain : Nat := 5
def chPaused : Nat := 6
def chError : Nat := 7

def chState (s : State) (e n : Nat) : Nat := rd s R.CH_STAT_DMA_STATE e n
/-- A channel's state, with its bit in DMA_STAT.PEND. -/
def setCh (s : State) (e n st : Nat) : State :=
  wr (wr s R.CH_STAT_DMA_STATE st e n) R.DMA_STAT_PEND (setB (rd s R.DMA_STAT_PEND e) n (st == chPend)) e

/-- The channel that runs on an engine. -/
def runCh (s : State) (e : Nat) : Option Nat := if rd s R.DMA_STAT_BUSY e = 1 then some (rd s R.DMA_STAT_RUN_CH e) else none

/-- The engine is free again. -/
def dmaFree (s : State) (e : Nat) : State := wr (wr s R.DMA_STAT_BUSY 0 e) R.DMA_STAT_RUN_CH 0x1F e

/-- A channel becomes pending for its next block: from DESC_HEAD where the list had ended (R543). -/
def dmaPend (s : State) (e n : Nat) : State :=
  setCh (if chState s e n = chIdle then wr s R.CUR_DESC_ADDR (32 * rd s R.DESC_HEAD_ADDR e n) e n else s) e n chPend

/-- A channel waits for its trigger. -/
def chWaits (s : State) (e n : Nat) : Bool := chState s e n == chIdle || chState s e n == chWait

/-- One more trigger waits for its block (R546). -/
def dmaCount (s : State) (e n : Nat) : State :=
  let k := rd s R.CH_STAT_DMA_TRIG_PEND e n
  if k < 255 then wr s R.CH_STAT_DMA_TRIG_PEND (k + 1) e n else wr s R.CH_STAT_DMA_TRIG_OVF 1 e n

/-- A trigger (R543, R546): the block of a waiting channel starts at once on an engine without other work; otherwise the trigger is
counted, and a waiting channel becomes pending. -/
def dmaTrigger (s : State) (e n : Nat) : State :=
  if rd s R.CH_CTRL_EN e n = 0 then s
  else if !chWaits s e n then dmaCount s e n
  else if (runCh s e).isNone ∧ rd s R.DMA_STAT_PEND e = 0 then setDma (dmaPend s e n) e n (fun x => { x with due := true })
  else dmaPend (dmaCount s e n) e n

/-- The memory of a descriptor address with a whole range in it (R539, R540, Tables 1.2, 1.6, 14.1, 16.1). -/
def dmaPlace (e addr len : Nat) (write : Bool) : Option (Region × Nat) :=
  let a := addr % 2 ^ 62
  let inside (lo hi : Nat) : Bool := decide (lo ≤ a ∧ a + len ≤ hi)
  match addr / 2 ^ 62 % 4 with
  | 0 =>
    if e = 3 then
      if inside 0 0x100000 then some (.keeperSram, a)
      else if (if write then inside 0x103C000 0x1040000 else inside 0x1000000 0x1100000) then some (.shared, a - 0x1000000)
      else if inside 0x40000000 0x44000000 then some (.mram, a - 0x40000000)
      else none
    else
      let l : Lane := if e = 0 then .x else if e = 1 then .y else .z
      if inside 0 0x800000 then some (.laneSram l, a)
      else if (if write then inside (0x1040000 + 0x40000 * e) (0x1080000 + 0x40000 * e) else inside 0x1000000 0x1100000) then
        some (.shared, a - 0x1000000)
      else if inside 0x10000000 0x10050000 then some (.image l, a - 0x10000000)
      else none
  | 1 => if !write && inside 0 0x10000000 then some (.flash, a) else none
  | 2 => if e = 3 then some (.hostMem, a) else none
  | _ => none

/-- The memory that an engine's descriptors lie in. -/
def descRegion (e : Nat) : Region := if e = 0 then .laneSram .x else if e = 1 then .laneSram .y else if e = 2 then .laneSram .z else .keeperSram
def descSpan (e : Nat) : Nat := if e = 3 then 0x100000 else 0x800000

/-- The descriptor at an address (Table 16.2). -/
def readDesc (s : State) (e a : Nat) : Desc :=
  let r := descRegion e
  ⟨r64 s r a, r64 s r (a + 8), r32 s r (a + 16), r32 s r (a + 20), r32 s r (a + 24)⟩

/-- The flags of a descriptor. -/
def Desc.dirAuto (d : Desc) : Bool := bitAt d.flags 31 == 1
def Desc.blockEnd (d : Desc) : Bool := bitAt d.flags 30 == 1 || d.next == 0
def Desc.irq (d : Desc) : Bool := bitAt d.flags 29 == 1
def Desc.hostIrq (d : Desc) : Bool := bitAt d.flags 28 == 1
def Desc.chainOut (d : Desc) : Bool := bitAt d.flags 27 == 1
def Desc.cvuEn (d : Desc) : Bool := bitAt d.flags 23 == 1
def Desc.cvu (d : Desc) : Nat := bits d.flags 22 21
def Desc.mode (d : Desc) : Nat := if d.cvuEn then bits d.flags 20 19 else 0
def Desc.cvuInit (d : Desc) : Bool := bitAt d.flags 18 == 1

/-- The bytes that a check value occupies at the end of the data (R560). -/
def descTail (s : State) (e : Nat) (d : Desc) : Nat := if d.mode = 1 ∨ d.mode = 2 then cvuWidth s e d.cvu / 8 else 0

/-- The number of bytes that a descriptor writes (R560). -/
def descOut (s : State) (e : Nat) (d : Desc) : Nat :=
  match d.mode with
  | 1 => d.len + descTail s e d
  | 2 => d.len - descTail s e d
  | 3 => 0
  | _ => d.len

/-- Source and destination share a byte (R550). -/
def descOverlap (s : State) (e : Nat) (d : Desc) : Bool :=
  let n := descOut s e d
  decide (0 < n ∧ d.src < d.dst + n ∧ d.dst < d.src + d.len)

/-- The copy runs descending (R551). -/
def descDown (s : State) (e : Nat) (d : Desc) : Bool := descOverlap s e d && d.dirAuto && decide (d.src < d.dst)

/-- The error with which a descriptor ends at its fetch, before any access; 0 is none (R539 to R542, R551, R559, R560). -/
def fetchError (s : State) (e n : Nat) (d : Desc) : Nat :=
  if d.len = 0 ∨ 2 ^ 24 < d.len ∨ bits d.flags 26 24 ≠ 0 ∨ bits d.flags 17 0 ≠ 0 ∨ (d.hostIrq ∧ e ≠ 3) then 3
  else if d.cvuEn ∧ rd s R.CVU_STAT_CLAIMED e d.cvu = 1 ∧ rd s R.CVU_STAT_CLAIM_CH e d.cvu ≠ n then 4
  else if (d.mode = 1 ∨ d.mode = 2) ∧ cvuWidth s e d.cvu % 8 ≠ 0 then 5
  else if (d.mode = 1 ∨ d.mode = 2) ∧ d.len < descTail s e d then 3
  else if (dmaPlace e d.src d.len false).isNone ∨ (d.mode ≠ 3 ∧ (dmaPlace e d.dst (descOut s e d) true).isNone) then 1
  else if descOverlap s e d ∧ !d.dirAuto then 2
  else if descDown s e d ∧ d.cvuEn then 5
  else 0

/-- The CVU claim of a channel ends. -/
def unclaim (s : State) (e n : Nat) : State :=
  [0, 1, 2, 3].foldl (fun t u => if rd t R.CVU_STAT_CLAIMED e u = 1 ∧ rd t R.CVU_STAT_CLAIM_CH e u = n then
    wr (wr t R.CVU_STAT_CLAIMED 0 e u) R.CVU_STAT_CLAIM_CH 0 e u else t) s

/-- A flag of DMA_INT is set. -/
def dmaInt (s : State) (e n : Nat) : State := setFlag s R.DMA_INT_CH (2 ^ n) e

/-- An error stops a channel (R554): the status word where the descriptor was fetched, ERR, DMA_INT; the engine is free
where the channel ran. -/
def dmaFail (s : State) (e n code : Nat) (fetched : Bool) : State :=
  let s1 := if fetched then w32 s (descRegion e) (rd s R.CUR_DESC_ADDR e n + 28) (2 ^ 30 + 2 ^ 16 * code) else s
  let s2 := setDma (unclaim s1 e n) e n (fun x => { x with desc := none, moved := 0, due := false })
  let s3 := dmaInt (setCh (wr s2 R.CH_STAT_DMA_ERR code e n) e n chError) e n
  if runCh s3 e = some n then dmaFree s3 e else s3

/-- REMAIN, CUR_SRC and CUR_DST of a channel's descriptor with bytes moved. -/
def dmaShow (s : State) (e n : Nat) (d : Desc) (moved : Nat) : State :=
  let down := descDown s e d
  let src := if down then d.src + (d.len - moved) - 1 else d.src + moved
  let dst := if down then d.dst + (d.len - moved) - 1 else d.dst + min moved (descOut s e d)
  let t := wr s R.REMAIN_BYTES (d.len - moved) e n
  wr (wr (wr (wr t R.CUR_SRC_LO_ADDR src e n) R.CUR_SRC_HI_ADDR (src / 2 ^ 32) e n) R.CUR_DST_LO_ADDR dst e n)
    R.CUR_DST_HI_ADDR (dst / 2 ^ 32) e n

/-- The words of a descriptor in lane SRAM as the engine reads them (04 R160): what the reads have counted and excluded, and whether one
is uncorrectable. -/
def descRead (s : State) (e a : Nat) : State × Bool :=
  match laneOf e with
  | none => (s, false)
  | some l => (List.range 4).foldl (fun r i =>
      (sramRead l r.1 (a / 8 + i) 0, r.2 || (match eccRead r.1 .sram l (a / 8 + i) 0 with | .uncorrectable _ => true | _ => false))) (s, false)

/-- The descriptor at CUR_DESC is fetched and checked, its CVU claimed (R542, R559). One with an uncorrectable word could not be fetched:
a read error (DESIGN CHOICE, log entry 146). -/
def dmaFetch (s0 : State) (e n : Nat) : State :=
  let a := rd s0 R.CUR_DESC_ADDR e n
  let (s, bad) := descRead s0 e a
  if a % 32 ≠ 0 ∨ descSpan e < a + 32 then dmaFail s0 e n 1 false
  else if bad then dmaFail s e n 6 false
  else
    let d := readDesc s e a
    match fetchError s e n d with
    | 0 =>
      let s1 := if d.cvuEn then wr (wr s R.CVU_STAT_CLAIMED 1 e d.cvu) R.CVU_STAT_CLAIM_CH n e d.cvu else s
      let s2 := if d.cvuEn && d.cvuInit then cvuLoad s1 e d.cvu else s1
      setCh (dmaShow (setDma s2 e n (fun x => { x with desc := some d, since := s.time.now, moved := 0 })) e n d 0) e n chRun
    | c => dmaFail s e n c true

/-- The outbound path sends (15 R527). -/
def outboundUp (s : State) : Bool := rd s R.BR_STAT_BME == 1 && rd s R.BR_STAT_L0 == 1

/-- Bytes `lo` up to `hi` of a descriptor in the order of the transfer: read, passed through the CVU, written (R550,
R551, R560). -/
def dmaMove (s : State) (e : Nat) (d : Desc) (lo hi : Nat) : State :=
  match dmaPlace e d.src d.len false with
  | none => s
  | some (rs, so) =>
    let o := if descDown s e d then d.len - hi else lo
    let l := rbs s rs (so + o) (hi - lo)
    let through := if d.mode = 2 then l.take (d.len - descTail s e d - lo) else l
    let s1 := if d.cvuEn then cvuFeed s e d.cvu through else s
    if d.mode = 3 then s1
    else match dmaPlace e d.dst (descOut s e d) true with
      | none => s1
      | some (r, w) => wKept s1 r (w + o) through

/-! ### Bursts (16 R549) -/

/-- The end of the burst that begins after `m` bytes of a descriptor: at the next 256-byte-aligned address of the source or of the
destination in the direction of transfer, whichever comes first (DESIGN CHOICE, log entry 110). -/
def burstEnd (s : State) (e : Nat) (d : Desc) (m : Nat) : Nat :=
  let step (a : Nat) : Nat := if descDown s e d then (if (a + d.len - m) % 256 = 0 then 256 else (a + d.len - m) % 256) else 256 - (a + m) % 256
  min d.len (m + (if d.mode = 3 then step d.src else min (step d.src) (step d.dst)))

/-- The bytes moved after so many more bursts. -/
def burstsFrom (s : State) (e : Nat) (d : Desc) : Nat → Nat → Nat
  | 0, m => m
  | n + 1, m => if d.len ≤ m then m else burstsFrom s e d n (burstEnd s e d m)

/-- The start of the burst that holds a byte of the data. -/
def burstOf (s : State) (e : Nat) (d : Desc) (off : Nat) : Nat → Nat → Nat
  | 0, m => m
  | n + 1, m => if off < burstEnd s e d m then m else burstOf s e d off n (burstEnd s e d m)

/-- The lane memory with check bits that a region is. -/
def eccOf : Region → Option (EccMem × Lane)
  | .laneSram l => some (.sram, l)
  | .image l => some (.image, l)
  | _ => none

/-- What a read of a word by a core or a DMA engine finds besides its data (04 R160, 03 R111): a correction is counted, an
uncorrectable word of lane SRAM excludes the lane. -/
def memRead (m : EccMem) (l : Lane) (s : State) (word : Nat) : State :=
  if m = .sram then sramRead l s word 0
  else match eccRead s m l word 0 with
    | .corrected _ => eccCorrected s l m
    | _ => s

/-- The words of the source of bytes `lo` up to `hi`, in the order of transfer, whose stored bits are not a code word. -/
def badWords (s : State) (e : Nat) (d : Desc) (lo hi : Nat) : List (EccMem × Lane × Nat × Nat) :=
  match dmaPlace e d.src d.len false with
  | none => []
  | some (r, so) =>
    match eccOf r with
    | none => []
    | some (m, l) =>
      let o := so + (if descDown s e d then d.len - hi else lo)
      let b := r.at 0 / 8
      let ws := (Tab.range s.marks.flips (b + o / 8) (b + (o + (hi - lo) + 7) / 8)).map (fun x => x.1 - b)
      let off (w : Nat) : Nat := if descDown s e d then so + d.len - min (so + d.len) (8 * w + 8) else 8 * w - min so (8 * w)
      (if descDown s e d then ws.reverse else ws).map (fun w => (m, l, w, off w))

/-- Bytes of a descriptor moved from `lo` up to `hi`, and whether an uncorrectable word stopped the transfer in its burst. -/
def dmaRun (s : State) (e : Nat) (d : Desc) (lo hi : Nat) : State × Nat × Bool :=
  let ws := badWords s e d lo hi
  let isBad (w : EccMem × Lane × Nat × Nat) : Bool := match eccRead s w.1 w.2.1 w.2.2.1 0 with | .uncorrectable _ => true | _ => false
  let seen := ws.takeWhile (fun w => !isBad w)
  let t (u : State) (l : List (EccMem × Lane × Nat × Nat)) : State := l.foldl (fun v w => memRead w.1 w.2.1 v w.2.2.1) u
  match ws.find? isBad with
  | none => (t (dmaMove s e d lo hi) ws, hi, false)
  | some w => let stop := burstOf s e d w.2.2.2 131073 lo
              (t (dmaMove s e d lo stop) (seen ++ [w]), stop, true)

/-- A Tumbler pass holds the image accesses of its lane's engine (R540, 03 R110). -/
def dmaHeld (s : State) (e : Nat) (d : Desc) : Bool :=
  match laneOf e with
  | none => false
  | some l => rdL s R.TUM_STAT_STATE l == 1
      && ((dmaPlace e d.src d.len false).any (fun x => x.1 == .image l)
        || (d.mode != 3 && (dmaPlace e d.dst (descOut s e d) true).any (fun x => x.1 == .image l)))

/-- The check value as bytes in the order of ORDER (R560). -/
def cvuBytes (s : State) (e : Nat) (d : Desc) : List Byte :=
  if rd s R.CVU_CFG_ORDER e d.cvu = 1 then beBytes (descTail s e d) (cvuResult s e d.cvu)
  else leBytes (descTail s e d) (cvuResult s e d.cvu)

/-- The end of a descriptor's data: RESULT appended in mode 1. -/
def dmaAppend (s : State) (e : Nat) (d : Desc) : State :=
  if d.mode = 1 then
    match dmaPlace e d.dst (descOut s e d) true with
    | some (r, w) => wKept s r (w + d.len) (cvuBytes s e d)
    | none => s
  else s

/-- The last bytes of the source differ from RESULT in mode 2. -/
def stripBad (s : State) (e : Nat) (d : Desc) : Bool :=
  d.mode == 2 && (match dmaPlace e d.src d.len false with
    | some (r, o) => rbs s r (o + d.len - descTail s e d) (descTail s e d) != cvuBytes s e d
    | none => false)

/-- After a block a level channel goes on while LEVEL is above LO; another starts a block it has counted (R543, R546,
R547). -/
def dmaNextBlock (s : State) (e n : Nat) : State :=
  if rd s R.CH_CTRL_TRIG e n = 3 then
    let s1 := wr s R.LVL_LEVEL (rd s R.LVL_LEVEL e n - 1) e n
    if (dmaCh s e n).lvlOn ∧ rd s1 R.LVL_LEVEL e n > rd s1 R.LVL_CFG_LO e n then
      setDma (dmaPend s1 e n) e n (fun x => { x with due := true })
    else
      let s2 := setDma s1 e n (fun x => { x with lvlOn := false })
      if 0 < rd s R.CH_STAT_DMA_TRIG_PEND e n then dmaPend s2 e n else s2
  else if 0 < rd s R.CH_STAT_DMA_TRIG_PEND e n then dmaPend s e n
  else s

/-- The channels chained to one (R553). -/
def dmaChain (s : State) (e n : Nat) : State :=
  ((List.range 16).filter (fun m => rd s R.CH_CTRL_TRIG e m == 2 && rd s R.CH_CTRL_CHAIN_SRC e m == n)).foldl
    (fun t m => dmaTrigger t e m) s

/-- What follows a completed descriptor (R543, R553, R555). -/
def dmaAfter (s : State) (e n : Nat) (d : Desc) : State :=
  let s1 := wr (setDma s e n (fun x => { x with desc := none, moved := 0 })) R.CUR_DESC_ADDR d.next e n
  if d.blockEnd then
    dmaNextBlock (setCh (dmaFree s1 e) e n (if d.next = 0 then chIdle else chWait)) e n
  else if rd s R.CH_CTRL_PAUSE e n = 1 then setCh (dmaFree s1 e) e n chPaused
  else dmaFetch s1 e n

/-- The completion of R553 in its order. -/
def dmaComplete (s : State) (e n : Nat) (d : Desc) : State :=
  let s1 := w32 s (descRegion e) (rd s R.CUR_DESC_ADDR e n + 28) (2 ^ 31)
  let s2 := if d.blockEnd then rcEngine s1 R.DONE_CNT_BLOCKS e 1 n else s1
  let s3 := if d.irq then dmaInt s2 e n else s2
  let s4 := if d.hostIrq then msix s3 (16 + n) else s3
  let s5 := if d.chainOut then dmaChain s4 e n else s4
  dmaAfter (wr (unclaim s5 e n) R.REMAIN_BYTES 0 e n) e n d

/-- CH_GO_START (R544). -/
def execChGoStart (e : Fin 4) (n : Fin 16) (s : State) : Answer := whenAgent s e.val <| .next (dmaTrigger s e.val n.val)

/-- The time base has passed T_NEXT: its distance beyond it. -/
def timerPast (s : State) (e n : Nat) : Nat :=
  (rd s R.TB_VAL_NS 0 (rd s R.CH_CTRL_TB_SEL e n) + 2 ^ 32 - rd s R.T_NEXT_NS e n) % 2 ^ 32

/-- The steps of T_PERIOD that bring T_NEXT into the future (R545). -/
def timerSteps (past period : Nat) : Nat :=
  if period ≤ 2 ^ 31 then past / period + 1 else (2 ^ 31 - past + (2 ^ 32 - period) - 1) / (2 ^ 32 - period)

/-- DMA_TIMER_TRIGGER (R545). -/
def execDmaTimerTrigger (e : Fin 4) (n : Fin 16) (s : State) : Answer := whenAgent s e.val <|
  .next (let e := e.val
    let n := n.val
    let past := timerPast s e n
    let period := rd s R.T_PERIOD_NS e n
    if rd s R.CH_CTRL_TRIG e n = 1 ∧ bitAt (rd s R.TB_STAT_VALID) (rd s R.CH_CTRL_TB_SEL e n) = 1 ∧ past < 2 ^ 31
        ∧ !(dmaCh s e n).fired then
      if period = 0 then setDma (dmaTrigger s e n) e n (fun x => { x with fired := true })
      else
        let k := timerSteps past period
        dmaTrigger (rcEngine (wr s R.T_NEXT_NS (rd s R.T_NEXT_NS e n + k * period) e n) R.DONE_CNT_MISSED e (k - 1) n) e n
    else s)

/-- LVL_ADD (R547). -/
def execLvlAdd (e : Fin 4) (n : Fin 16) (v : Nat) (s : State) : Answer := whenAgent s e.val <|
  .next (let e := e.val
    let n := n.val
    let s1 := wr s R.LVL_LEVEL (min 0xFFFF (rd s R.LVL_LEVEL e n + v % 2 ^ 16)) e n
    if rd s R.CH_CTRL_TRIG e n = 3 ∧ rd s R.CH_CTRL_EN e n = 1 ∧ !(dmaCh s e n).lvlOn
        ∧ rd s1 R.LVL_LEVEL e n ≥ rd s R.LVL_CFG_HI e n then
      if chWaits s e n then setDma (dmaPend s1 e n) e n (fun x => { x with lvlOn := true, due := true })
      else setDma s1 e n (fun x => { x with lvlOn := true })
    else s1)

/-- The pending channel of highest priority, the lowest number among equals (R548). -/
def dmaWinner (s : State) (e : Nat) : Option Nat :=
  let c := (List.range 16).filter (fun n => chState s e n == chPend && rd s R.CH_CTRL_PAUSE e n == 0)
  [3, 2, 1, 0].findSome? (fun p => c.find? (fun n => rd s R.CH_CTRL_PRIO e n == p))

/-- A block that a counted trigger asked for takes one from TRIG_PEND (R546). -/
def dmaTake (s : State) (e n : Nat) : State :=
  if (dmaCh s e n).due then setDma s e n (fun x => { x with due := false })
  else wr s R.CH_STAT_DMA_TRIG_PEND (rd s R.CH_STAT_DMA_TRIG_PEND e n - 1) e n

/-- DMA_GRANT (R546, R548): the channel runs from the point saved at its pause, or fetches its descriptor. -/
def execDmaGrant (e : Fin 4) (s : State) : Answer := whenAgent s e.val <|
  .next (match runCh s e.val, dmaWinner s e.val with
    | none, some n =>
      let t := setCh (wr (wr (dmaTake s e.val n) R.DMA_STAT_BUSY 1 e.val) R.DMA_STAT_RUN_CH n e.val) e.val n chRun
      if (dmaCh t e.val n).desc.isSome then t else dmaFetch t e.val n
    | _, _ => s)

/-- A posted failure is entered in the log (15 R532, R533, R535): address, direction, cause, tag, bytes. -/
def pelAppend (s : State) (x : PelEnt) : State :=
  let n := s.bridge.log.length
  let s1 := wr s R.PEL_STAT_TOTAL (rd s R.PEL_STAT_TOTAL + 1)
  let s2 := if n < 16 then
      let t := wr { s1 with bridge := { s1.bridge with log := s1.bridge.log ++ [x] } } R.PEL_STAT_COUNT (n + 1)
      if n = 0 then msix t 1 else t
    else if rd s R.PEL_STAT_OVF = 1 then s1 else msix (setFlag s1 R.PEL_STAT_OVF) 1
  allPorts.foldl (fun t p => wr t R.MB_STAT_PERR 1 0 p.val) s2

/-- A descriptor touches host memory at its source, at its destination. -/
def hostSrc (d : Desc) : Bool := d.src / 2 ^ 62 % 4 == 2
def hostDst (d : Desc) : Bool := d.mode != 3 && d.dst / 2 ^ 62 % 4 == 2

/-- The rest of a descriptor is moved and its completion follows (R552, R553, R560); without the outbound path a host
transfer ends with an error, its write entered in the posted-error log (15 R527, R532). -/
def dmaFinish (s : State) (e n : Nat) (d : Desc) (ok : Bool) : State :=
  if hostDst d && !outboundUp s then
    let cause := if rd s R.BR_STAT_L0 = 0 then 9 else 8
    let m := (dmaCh s e n).moved
    let k := min (burstEnd s e d m - m) (if Config.maxPayload256 then 256 else 128)
    dmaFail (pelAppend s ⟨(d.dst + m) % 2 ^ 62, true, cause, 0x80 + n, k, tb1 s⟩) e n 7 true
  else if hostSrc d && !outboundUp s then dmaFail s e n 6 true
  else
    let r := dmaRun s e d (dmaCh s e n).moved d.len
    let s1 := r.1
    let s2 := dmaAppend s1 e d
    if r.2.2 then dmaFail (dmaShow s1 e n d r.2.1) e n 6 true
    else if !ok && d.mode != 3 then dmaFail s2 e n 8 true
    else if stripBad s2 e d then dmaFail s2 e n 9 true
    else dmaComplete s2 e n d

/-- DESCRIPTOR_COMPLETE (R552); during a Tumbler pass no access to the image completes (03 R110). -/
def execDescriptorComplete (e : Fin 4) (ok : Bool) (s : State) : Answer := whenAgent s e.val <|
  .next (match runCh s e.val with
    | some n => match (dmaCh s e.val n).desc with
      | some d => if chState s e.val n = chDrain ∨ dmaHeld s e.val d then s else dmaFinish s e.val n d ok
      | none => s
    | none => s)

/-- So many more bursts of a running descriptor; an uncorrectable word at the source ends it with error 0x06. Whether it ended so. -/
def dmaProgress (s : State) (e n : Nat) (d : Desc) (bursts : Nat) : State × Bool :=
  let from_ := (dmaCh s e n).moved
  let r := dmaRun s e d from_ (if dmaHeld s e d then from_ else burstsFrom s e d bursts from_)
  let t := dmaShow (setDma r.1 e n (fun x => { x with moved := r.2.1 })) e n d r.2.1
  if r.2.2 then (dmaFail t e n 6 true, true) else (t, false)

/-- The error codes that an access of a descriptor can end with: a read, and where it writes, a write and its read-back (Table 16.6). -/
def accessError (d : Desc) (code : Nat) : Bool := code == 6 || (d.mode != 3 && (code == 7 || code == 8))

/-- A read error at a source in lane SRAM is an uncorrectable word there: the lane is excluded (R554, 04 R160). -/
def sourceUnc (s : State) (e n : Nat) (d : Desc) : State :=
  match dmaPlace e d.src d.len false with
  | some (.laneSram l, o) =>
    let m := min ((dmaCh s e n).moved) (d.len - 1)
    eccUnc (setLane s l (fun x => { x with busErrs := x.busErrs + 1 })) l .sram ((o + (if descDown s e d then d.len - 1 - m else m)) / 8)
  | _ => s

/-- DMA_ERROR (R554): a read, write or read-back error of the running channel. -/
def execDmaError (e : Fin 4) (code : Fin 12) (bursts : Nat) (s : State) : Answer := whenAgent s e.val <|
  .next (match runCh s e.val with
    | some n => match (dmaCh s e.val n).desc with
      | some d =>
        if accessError d code.val then
          let r := dmaProgress s e.val n d bursts
          if r.2 then r.1 else dmaFail (if code.val = 6 then sourceUnc r.1 e.val n d else r.1) e.val n code.val true
        else s
      | none => s
    | none => s)

/-- CH_PAUSE (R555): PAUSE = 1; the running channel stops issuing reads. -/
def execChPause (e : Fin 4) (n : Fin 16) (bursts : Nat) (s : State) : Answer := whenAgent s e.val <|
  .next (let t := wr s R.CH_CTRL_PAUSE 1 e.val n.val
    match (dmaCh s e.val n.val).desc with
    | some d =>
      if runCh s e.val = some n.val ∧ chState s e.val n.val = chRun then
        let u := dmaProgress t e.val n.val d bursts
        if u.2 then u.1 else setCh u.1 e.val n.val (if d.len ≤ (dmaCh u.1 e.val n.val).moved then chReadback else chDrain)
      else t
    | none => t)

/-- CH_PAUSE_DRAINED (R555): the channel is PAUSED and the engine free. -/
def execChPauseDrained (e : Fin 4) (n : Fin 16) (s : State) : Answer := whenAgent s e.val <|
  .next (if runCh s e.val = some n.val ∧ chState s e.val n.val = chDrain then
      setCh (dmaFree s e.val) e.val n.val chPaused
    else s)

/-- CH_RESUME (R555). -/
def execChResume (e : Fin 4) (n : Fin 16) (s : State) : Answer := whenAgent s e.val <|
  .next (let t := wr s R.CH_CTRL_PAUSE 0 e.val n.val
    if chState s e.val n.val = chPaused then setDma (setCh t e.val n.val chPend) e.val n.val (fun x => { x with due := true }) else t)

/-- EN = 0: triggers waiting are cleared; a running or paused channel is aborted after its bursts in flight (R546, R556). -/
def chDisable (s : State) (e n bursts : Nat) : State :=
  let t := wr (wr (wr s R.CH_CTRL_EN 0 e n) R.CH_STAT_DMA_TRIG_PEND 0 e n) R.CH_STAT_DMA_TRIG_OVF 0 e n
  let u := setDma t e n (fun x => { x with lvlOn := false, due := false })
  match (dmaCh s e n).desc with
  | some d =>
    let r := if runCh s e = some n ∧ chState s e n = chRun then dmaProgress u e n d bursts else (u, false)
    if r.2 then r.1 else dmaFail r.1 e n 0xB true
  | none => if chState s e n = chPaused then dmaFail u e n 0xB false else setCh u e n chIdle

/-- CH_ABORT (R556). -/
def execChAbort (e : Fin 4) (n : Fin 16) (bursts : Nat) (s : State) : Answer := whenAgent s e.val <| .next (chDisable s e.val n.val bursts)

/-- The end of an input freeze triggers the freeze-end channels of the lanes' engines (R544). -/
def dmaFreezeEnd (s : State) : State :=
  ([0, 1, 2].filter (agentUp s)).foldl (fun t e => ((List.range 16).filter (fun n => rd t R.CH_CTRL_TRIG e n == 4)).foldl
    (fun u n => dmaTrigger u e n) t) s

end Sys2Proof.Machine
end

