-- ==== Sys2Proof/Machine/Power.lean ====
section
/-!
DEFINITION. Power, clocks, sleep and bring-up (chapters 12 and 13).
-/

namespace Sys2Proof.Machine

/-! ## The always-on domain (12 R442 to R459) -/

/-- The registers of the always-on domain (Table 12.6). -/
def aonRows : List Row :=
  [R.SUPW_CFG_WIN_MS, R.SUPW_STAT_LOW, R.SUPW_STAT_WIN_OPEN, R.SUPW_STAT_EDGES, R.AON_TICK_LO_TICK, R.AON_TICK_HI_TICK,
   R.AON_ALARM_LO_TICK, R.AON_ALARM_HI_TICK, R.AON_STAT_VALID, R.AON_STAT_VBAT_LOW, R.AON_STAT_LAST_WAKE, R.WAKE_CFG_ALARM_EN,
   R.WAKE_CFG_LUOSH_EN, R.WAKE_CFG_WAKEN_EN, R.WAKE_CNT_SPUR, R.WAKE_CNT_WAKES]

/-- AON_TICK shows the tick count. -/
def tickShow (s : State) : State :=
  wr (wr s R.AON_TICK_LO_TICK (s.aon.ticks % 2 ^ 32)) R.AON_TICK_HI_TICK (s.aon.ticks / 2 ^ 32)

/-- The tick count set, modulo 2⁴⁸ (R457). -/
def setTicks (s : State) (n : Nat) : State := tickShow { s with aon := { s.aon with ticks := n % 2 ^ 48 } }

/-- Ticks of 32,768 Hz in ns, to a multiple of 4 (09 R376). -/
def tickNs (n : Nat) : Nat := 4 * ((n * 1000000000 + 65536) / 131072)

/-- An event that the always-on domain keeps until the Keeper writes it (R444). -/
def owe (s : State) (code arg : Nat) : State :=
  flushOwed { s with aon := { s.aon with owed := s.aon.owed ++ [(code, arg, s.aon.ticks)] } }

/-- SUPW_N_FALL (R442): the edge opens a supply window, or is counted in the open one. -/
def execSupwNFall (s : State) : Answer :=
  .next (if s.modl.power = .off then s
    else
      let t := wr s R.SUPW_STAT_LOW 1
      match s.aon.win with
      | none => owe (wr { t with aon := { t.aon with win := some s.aon.ticks, winEdges := 1 } } R.SUPW_STAT_WIN_OPEN 1) 0x0901 0
      | some _ => rcAdd { t with aon := { t.aon with winEdges := t.aon.winEdges + 1 } } R.SUPW_STAT_EDGES)

/-- SUPPLY_WINDOW_EXPIRY (R443): WIN_MS after its edge the window ends; edges and low time in ms are the argument of 0x0902. -/
def execSupplyWindowExpiry (lowMs : Nat) (low : Bool) (s : State) : Answer :=
  .next (match s.aon.win with
    | none => s
    | some k =>
      if 1000 * ((s.aon.ticks + 2 ^ 48 - k) % 2 ^ 48) < 32768 * rd s R.SUPW_CFG_WIN_MS then s
      else
      let t := wr (wr { s with aon := { s.aon with win := none } } R.SUPW_STAT_WIN_OPEN 0) R.SUPW_STAT_LOW (b2n low)
      owe t 0x0902 (2 ^ 16 * s.aon.winEdges + min lowMs 65535))

/-- VBAT_LOW_CHANGE (R458). -/
def execVbatLowChange (low : Bool) (s : State) : Answer := .next (wr s R.AON_STAT_VBAT_LOW (b2n low))

/-- AON_SUPPLY_LOSS (R458): the tick counter and the stored pair are lost. -/
def execAonSupplyLoss (s : State) : Answer :=
  .next (setTicks { wr s R.AON_STAT_VALID 0 with aon := { s.aon with pair := none } } 0)

/-! ## Reset (01 R42, 13 R461, R462) -/

/-- A memory cell that neither reset nor a loss of supply touches: MRAM, flash, and the host's own memory. -/
def nonVolatile (c : Host.Cell) : Bool :=
  let r := c.1 / regionSpan
  r == Region.mram.idx || r == Region.flash.idx || r == Region.hostMem.idx

/-- The registers of some rows. -/
def keepRegs (s : State) (rows : List Row) : Tab (Tab (Tab Nat)) := s.regs.filter (fun e => rows.any (fun r => r.id == e.1))

/-- Everything at its reset value but non-volatile memory, the always-on domain, the OTP, the model's own time, the queue
and what has left the module; whether the reset follows mode SAFE or a present F3 is kept for R478. -/
def coreReset (s : State) (bad : Bool) : State :=
  let r := State.reset
  { r with pending := s.pending, regs := keepRegs s aonRows, mem := s.mem.filter nonVolatile,
           time := { r.time with now := s.time.now }, aon := s.aon,
           keeper := { r.keeper with otp := s.keeper.otp, badReset := bad },
           jrnl := { r.jrnl with ckptTai := s.jrnl.ckptTai, refresh := s.jrnl.refresh },
           out := s.out, free := s.free }

/-- The reset follows mode SAFE, or a present F3 (13 R478). -/
def badNow (s : State) : Bool := s.modl.mode == .safe || classPresent s 3

/-- RST_N_ASSERT (R42): both dies are held in reset; an open supply window closes; a fall in PARK ends PARK (R456). -/
def execRstNAssert (s : State) : Answer :=
  .next (if s.modl.rst then { s with modl := { s.modl with power := .run } }
    else
      let t := coreReset s (if s.modl.power = .off then s.keeper.badReset else badNow s)
      wr { t with aon := { t.aon with inPark := s.modl.power == .park, inWin := s.aon.win.isSome, win := none, wake := none,
                                      luosh := false, armAt := none } } R.SUPW_STAT_WIN_OPEN 0)

/-- The cause of R462. -/
def rstCause (s : State) : Nat := if s.aon.rose then 0 else if s.aon.inPark then 3 else if s.aon.inWin then 1 else 2

/-- TB[2] restored from the stored pair at power-up and after RST_N (09 R377). -/
def tb2Restore (s : State) : State :=
  match s.aon.pair with
  | some (k, v) =>
    if rd s R.AON_STAT_VALID = 1 then
      let n := (s.aon.ticks + 2 ^ 48 - k) % 2 ^ 48
      tb2Show (wr { s with time := { s.time with tb2 := (v + tickNs n) % 2 ^ 64, v2 := true } } R.PTP_STAT_HOLDOVER 1)
    else s
  | none => s

/-- The clocks other than the time PLL run (Table 13.6). -/
def clocksUp (s : State) : State :=
  wr (wr (wr (wr (wr s R.CLK_STAT_TCXO_OK 1) R.CLK_STAT_ICN 1) R.CLK_STAT_KEEPER 1) R.CLK_STAT_PORTS 1) R.CLK_STAT_LANE 7

/-- The Deadbolt leaves RESET for SELFTEST, with 24 V on every TPO (07 R304, Table 7.1). -/
def dbStart (s : State) : State := wr { s with db := { s.db with tpo := 0xF } } R.DB_STAT_STATE dbSelftest

/-- RST_N_RELEASE (R461, R462): mode INIT, straps and cause latched, the Deadbolt in SELFTEST, the clocks started. -/
def execRstNRelease (pos : Fin 4) (hinge : Bool) (htl : Fin 16) (s : State) : Answer :=
  .next (if !s.modl.rst ∨ s.modl.power = .off then s
    else
      let s1 := { s with modl := { s.modl with rst := false, rstAt := s.time.now, power := .run, mode := .init },
                         aon := { s.aon with rose := false, inPark := false, inWin := false },
                         keeper := { s.keeper with hinge := hinge }, jrnl := { s.jrnl with optAt := s.time.now } }
      let s2 := wr s1 R.BOOT_STAT_RST_CAUSE (rstCause s)
      let s3 := if s.aon.rose then wr s2 R.AON_STAT_LAST_WAKE 0 else if s.aon.inPark then wr s2 R.AON_STAT_LAST_WAKE 4 else s2
      let s4 := [0, 1, 2, 3].foldl (fun t e => wr t R.FENC_STAT_HTL (bitAt htl.val e) 0 e) (wrAll s3 R.CX_STAT_POS pos.val)
      let s5 := Lane.all.foldl (fun t l => wrL (scrubStart t l) R.LANE_ID_LANE l l.idx) s4
      let s6 := [0, 1, 2, 3].foldl (fun t e => wr t R.DMA_ID_ENGINE e e) s5
      tb2Restore (clocksUp (dbStart s6)))

/-- LOGIC_SUPPLY_COLLAPSE (R440): the logic is lost until the supply returns; what the always-on domain holds stays. -/
def execLogicSupplyCollapse (s : State) : Answer :=
  .next (if s.modl.power = .off then s
    else
      let t := coreReset s (badNow s)
      { t with modl := { t.modl with power := .off, rst := false }, aon := { t.aon with rose := true } })

/-! ## PLLs and temperature (12 R446, R460) -/

/-- The time PLL is lost: the bases and the scan grid stop. -/
def timeLost (s : State) : State :=
  timeSync { wr s R.CLK_STAT_TIME 0 with time := { s.time with pll := false }, scan := { s.scan with gridOn := false } }

/-- The interconnect PLL is lost: Prism stops, and PUMP_S with it, which releases the Hasp (10 R392). -/
def icnLost (s : State) : State :=
  let t := { wr s R.CLK_STAT_ICN 0 with modl := { s.modl with prismStop := true }, db := { s.db with pumpS := false } }
  haspRelease (vgdFall (wr (syncLanes t) R.DB_STAT_PUMP_S_OK 0))

/-- A lane PLL is lost: the lane's clock stops. -/
def laneLost (s : State) (l : Lane) : State :=
  setLane (wr s R.CLK_STAT_LANE (setB (rd s R.CLK_STAT_LANE) l.idx false)) l (fun x => { x with stopped := true })

/-- PLL_LOCK_LOSS (R446). -/
def execPllLockLoss (p : Pll) (s : State) : Answer := whenLive s <|
  .next (match p with
    | .lane l => laneLost s l
    | .time => timeLost s
    | .icn => icnLost s
    | .keeper => wr s R.CLK_STAT_KEEPER 0
    | .port => wr s R.CLK_STAT_PORTS 0
    | .tcxo => wr (wr (wr (icnLost (timeLost (Lane.all.foldl laneLost s))) R.CLK_STAT_KEEPER 0) R.CLK_STAT_PORTS 0) R.CLK_STAT_TCXO_OK 0)

/-- TJ_SAMPLE (R460), every 10 ms: above WARN the condition begins, 5 K below it ends. -/
def execTjSample (t : Int) (s : State) : Answer := whenLive s <|
  .next (if !keeperUp s ∨ s.time.now < s.modl.tjAt + 10000000 then s
    else
      let u := wr { s with modl := { s.modl with tjAt := s.time.now } } R.TJ_STAT_TJ (ofSigned 16 t)
      let warn : Int := 10 * rd s R.TJ_CFG_WARN
      if t > warn ∧ rd s R.TJ_STAT_HIGH = 0 then
        let v := keeperEvent (wr u R.TJ_STAT_HIGH 1) 0x0906 (leBytes 2 (ofSigned 16 t))
        { v with faults := { v.faults with active := Tab.put false v.faults.active (65536 * 0x0906) true } }
      else if t ≤ warn - 50 ∧ rd s R.TJ_STAT_HIGH = 1 then endCond (wr u R.TJ_STAT_HIGH 0) 0x0906 0
      else u)

/-! ## PARK (12 R451 to R456, 09 R376) -/

/-- Registers that PARK keeps beside the always-on domain: the time unit goes on from where it stopped (09 R376), BOOT_STAT
is fixed until the next reset (13 R484), the encoders' TYPE pins stay as they are (08 R358), the position is that of the strap at the
release of RST_N (10 R405). -/
def parkKept : List Row :=
  let boot := [R.BOOT_STAT_RST_CAUSE, R.BOOT_STAT_BANK, R.BOOT_STAT_RECOVERY, R.BOOT_STAT_KEEPER_RES, R.BOOT_STAT_RUNTIME_RES,
    R.BOOT_STAT_LANE_Z_RES, R.BOOT_STAT_LANE_Y_RES, R.BOOT_STAT_LANE_X_RES, R.BOOT_STAT_PROG_RES, R.BOOT_STAT_SAFE_RES]
  let time := [R.TB_VAL_NS, R.TB_STAT_STEP0, R.TB_STAT_STEP2, R.TB_STAT_STEP3, R.TB2_CTRL_SRC, R.TB2_CTRL_UTC_OFS, R.TB2_RATE_PPB,
    R.TB3_CTRL_EN, R.TB3_CTRL_REF, R.TB3_LOAD_NS, R.TB3_RATE_PPB, R.CAP_CTRL_EN, R.CAP_CTRL_TB, R.CAP_STAT_LIMIT, R.CAP_STAT_FILL,
    R.CAP_RD_IDX_IDX, R.CAP_LOST_COUNT] ++ capSelRows
  aonRows ++ boot ++ time ++ [R.FENC_STAT_HTL, R.CX_STAT_POS]

/-- The memories that are register state or a register block's own, lost in PARK (R453). -/
def parkGone : List Region := [.slotTab, .stnTab, .paramWin, .paramArmed, .msixTab, .frozen, .nfMap]

/-- A memory cell that PARK loses. -/
def parkLost (c : Host.Cell) : Bool := (parkGone.map Region.idx).contains (c.1 / regionSpan)

/-- The entry to PARK (R452, R453, 09 R376): the stored pair is written, SRAM, the always-on domain and the time unit's values stay,
everything else loses its state; DBG_ACT clears on RST_N and by admission alone (04 R193). Mode SAFE, left only through RST_N or power-off
(11 R422), outlasts PARK. -/
def parkEnter (s : State) : State :=
  let s1 := storePair s
  let r := State.reset
  let tb3 := if rd s R.TB3_CTRL_EN = 1 ∧ rd s R.TB3_CTRL_REF = 1 then some (rd s R.TB_VAL_NS 0 3) else none
  let lanes := Lane.all.foldl (fun (p : PerLane LaneSt) l =>
    let x := lane s l
    p.set l { LaneSt.reset with fenced := x.fenced || s.repair.target == some l, prog := x.prog, dbgAct := x.dbgAct,
                                runtimeOk := x.runtimeOk }) r.lanes
  let j := { s1.jrnl.state with optime := optime s }
  let safe := s.modl.mode == .safe
  let md := { r.modl with rst := false, power := .park, mode := if safe then .safe else .stop, prismStop := safe }
  { r with pending := s.pending, regs := keepRegs s1 parkKept, mem := s.mem.filter (fun c => !parkLost c),
           modl := md, faults := s.faults,
           scan := { r.scan with slot := s.scan.slot, verdicts := s.scan.verdicts, lost := s.scan.lost, snap := s.scan.snap,
                                 gen := s.scan.gen, commits := s.scan.commits, tx := s.scan.tx, tFreeze := s.scan.tFreeze, skips := s.scan.skips,
                                 retained := s.scan.retained },
           lanes := lanes, time := { s.time with pll := false, acc0 := 0, edges := [], ptpReq := none }, degr := { s.degr with known := false },
           aon := { s1.aon with armAt := none, parkTick := s.aon.ticks, parkTb1 := tb1 s, parkTb3 := tb3, luosh := false },
           keeper := { s.keeper with up := false, restart := none, eth := none, toPost := [], xfers := [], nPosted := 0 },
           jrnl := { s1.jrnl with state := j, optAt := s.time.now, backlog := .all [], resync := .all none, prev := .all [] },
           hinge := r.hinge, marks := ⟨s.marks.flips, none, []⟩, out := s.out, free := s.free }

/-- Every frame of the journal queue written (R452). -/
def drainQueue : Nat → State → State
  | 0, s => s
  | n + 1, s => match execJournalRecordWrite s with
    | .next t => drainQueue n t
    | _ => s

/-- The entry to PARK with what the Keeper writes before it, where it can: the remainder of the degraded allowance, where it is known, and a TIME record
(R452, 04 R178). -/
def parkWritten (s : State) : State :=
  if keeperUp s && s.jrnl.up then
    parkEnter (timeRecord (if s.degr.known then appendRec s 0x10 0 (wordBytes (frameWords s.scan.gen [⟨5, 1, [remainNow s]⟩])) else s))
  else parkEnter s

/-- PARK_GO (R452): once the Keeper has written its queue too. -/
def execParkGo (s : State) : Answer := whenLive s <|
  .next (if rd s R.PWR_STAT_PARK_ARM = 1 ∧ keeperUp s then parkWritten (drainQueue (s.jrnl.queue.length + 1) s) else s)

/-- PARK_ARM_TIMEOUT (R452): 100 ms after PARK_ARM. -/
def execParkArmTimeout (s : State) : Answer := whenLive s <|
  .next (match s.aon.armAt with
    | some t => if rd s R.PWR_STAT_PARK_ARM = 1 ∧ t + 100000000 ≤ s.time.now then parkWritten s else s
    | none => s)

/-- The module is parked, or on its way from PARK_ARM. -/
def parking (s : State) : Bool := s.modl.power == .park || rd s R.PWR_STAT_PARK_ARM == 1

/-- A wake source fires: the first one counts (R454). -/
def wakeBy (s : State) (source : Nat) : State :=
  if parking s ∧ s.aon.wake.isNone then { s with aon := { s.aon with wake := some source } } else s

/-- WAKE_N_FALL (R454). -/
def execWakeNFall (s : State) : Answer := .next (if rd s R.WAKE_CFG_WAKEN_EN = 1 then wakeBy s 1 else s)

/-- RTC_ALARM (R454): the tick count has come to AON_ALARM. -/
def execRtcAlarm (s : State) : Answer :=
  .next (if rd s R.WAKE_CFG_ALARM_EN = 1 ∧ s.aon.ticks = rd s R.AON_ALARM_LO_TICK + 2 ^ 32 * rd s R.AON_ALARM_HI_TICK then wakeBy s 3 else s)

/-- LUOSH_WAKE_ENERGY (R454). -/
def execLuoshWakeEnergy (s : State) : Answer := .next (if rd s R.WAKE_CFG_LUOSH_EN = 1 then wakeBy s 2 else s)

/-- WAKE_FRAME_RX (R454): a valid WAKE frame confirms a Luosh wake. -/
def execWakeFrameRx (p : Fin 4) (f : Frame) (s : State) : Answer := whenLive s <|
  .next (if fcsOk f && headerOk f && f.kind == 5 && f.plen == 8 && decide (8 ≤ f.body.length) && (portSt s p).up then
      { s with aon := { s.aon with luosh := false } }
    else s)

/-- SPURIOUS_WAKE_TIMEOUT (R454): no WAKE frame within 50 ms after a port's link came up: counted, and back to PARK by the
steps of R452. -/
def execSpuriousWakeTimeout (s : State) : Answer := whenLive s <|
  .next (if s.aon.luosh && allPorts.any (fun p => (portSt s p).up && decide ((portSt s p).upAt + 50000000 ≤ s.time.now))
    then parkWritten (rcAdd s R.WAKE_CNT_SPUR) else s)

/-- WAKE_COMPLETE (R455, R480, 09 R376): clocks, time bases, Keeper and lanes run again in mode STOP; the Deadbolt is in
SELFTEST; a lane whose PLL is not in lock has no clock (R446). -/
def execWakeComplete (locked : LaneSet) (s : State) : Answer :=
  .next (match s.modl.power, s.aon.wake with
    | .park, some src =>
      let ns := tickNs ((s.aon.ticks + 2 ^ 48 - s.aon.parkTick) % 2 ^ 48)
      let s2 := wr (rcAdd s R.WAKE_CNT_WAKES) R.AON_STAT_LAST_WAKE src
      let s3 := wr (wr s2 R.TB_VAL_NS ((s.aon.parkTb1 + ns) % 2 ^ 32) 0 1) R.PARK_NS_LO_NS ns
      let s4 := wr s3 R.PARK_NS_HI_NS (ns / 2 ^ 32)
      let s5 := match s.aon.parkTb3 with | some v => wr s4 R.TB_VAL_NS ((v + ns) % 2 ^ 32) 0 3 | none => s4
      let now := s.time.now + ns
      let tx := s5.scan.tx + (s.aon.parkTb1 + 2 ^ 32 - s5.scan.tFreeze) % 2 ^ 32 + ns
      let s6 := { s5 with
        modl := { s5.modl with power := .run }, aon := { s5.aon with wake := none, luosh := src == 2, parkTb3 := none },
        time := { s5.time with now := now, pll := true, tb2 := (s.time.tb2 + ns) % 2 ^ 64, ptpGood := 0 },
        keeper := { s5.keeper with up := true, restore := true, starting := true },
        scan := { s5.scan with gridOn := true, tx := tx, tFreeze := (s.aon.parkTb1 + ns) % 2 ^ 32, gridPer := 0, gridCyc := 0, due := false },
        jrnl := { s5.jrnl with optAt := now } }
      let s7 := wr (dbStart (wr s6 R.PTP_STAT_HOLDOVER 1)) R.CLK_STAT_TIME 1
      let s8 := Lane.all.foldl (fun t l => wrL (scrubStart t l) R.LANE_ID_LANE l l.idx) s7
      let s9 := [0, 1, 2, 3].foldl (fun t e => wr t R.DMA_ID_ENGINE e e) s8
      let s10 := allPorts.foldl (fun t p => wr t R.MB_STAT_KEEPER_DOWN 0 0 p.val) s9
      let s11 := Lane.all.foldl (fun t l => if locked.get l then t else laneLost t l) (clocksUp s10)
      flushOwed (validPair s11 (timeSync (tb2Show (syncLanes s11))))
    | _, _ => s)

/-- WAKE_RESTORE (13 R480): the start-up requests and the retained restore are posted again. -/
def execWakeRestore (s : State) : Answer := whenLive s <|
  .next (if keeperUp s ∧ s.keeper.restore then
      let t := postStartup s true
      { t with keeper := { t.keeper with restore := false } }
    else s)

/-! ## Boot (13 R466 to R468, R478) -/

/-- The scan controller starts the standalone grid (02 R54, 13 R471): its first point is TB[1] now. -/
def gridStart (s : State) : State :=
  let tx := s.scan.tx + (tb1 s + 2 ^ 32 - s.scan.tFreeze) % 2 ^ 32
  { s with scan := { s.scan with gridOn := true, tx := tx, tFreeze := tb1 s, gridPer := 0, due := false } }

/-- LANE_RUNTIME_CHECK_DONE (R467, R471, R484): after its injection test the lane's own check of the lane runtime, once per reset; a lane
that fails is not admitted. -/
def execLaneRuntimeCheckDone (l : Lane) (s : State) : Answer := whenLive s <|
  .next (
    let row := match l with | .x => R.BOOT_STAT_LANE_X_RES | .y => R.BOOT_STAT_LANE_Y_RES | .z => R.BOOT_STAT_LANE_Z_RES
    if rd s R.BOOT_STAT_RECOVERY = 1 ∨ rd s row ≠ 0 ∨ !laneClocked s l ∨ (lane s l).started ≠ some true then s
    else
      let res := verifySlot s 2 (bootBank s)
      let t := setLane (wr s row res) l (fun x => { x with runtimeOk := res == 1 })
      if res = 1 then (if t.time.pll && !t.scan.gridOn then gridStart t else t) else excludeOnly t l 0x0C)

/-- The boot selector (14 Table 14.10): a byte of bank A's flash, 1 for bank B. -/
def bootSelector : Nat := 0x2B00000

/-- Both images of a bank pass R465. -/
def bankPasses (s : State) (b : Bool) : Bool := verifySlot s 1 b == 1 && verifySlot s 2 b == 1

/-- KEEPER_FIRMWARE_CHECK_DONE (R466): the bank of the boot selector, else the other; neither, and the Keeper stays in its
boot ROM. -/
def execKeeperFirmwareCheckDone (s : State) : Answer := whenLive s <|
  .next (if s.keeper.up ∨ s.keeper.restart.isSome then s
    else
      let first := rb s .flash bootSelector == 1
      let bank := if bankPasses s first then some first else if bankPasses s !first then some !first else none
      let shown := bank.getD first
      let s1 := wr (wr s R.BOOT_STAT_KEEPER_RES (verifySlot s 1 shown)) R.BOOT_STAT_RUNTIME_RES (verifySlot s 2 shown)
      match bank with
      | some b =>
        let s2 := wr { s1 with keeper := { s1.keeper with up := true, starting := true } } R.BOOT_STAT_BANK (b2n b)
        allPorts.foldl (fun t p => wr t R.MB_STAT_KEEPER_DOWN 0 0 p.val) s2
      | none => wr s1 R.BOOT_STAT_RECOVERY 1)

/-- AUTOSTART_RUN_REQUEST (R478). -/
def execAutostartRunRequest (s : State) : Answer := whenLive s <|
  .next (let k := s.keeper
    if keeperUp s ∧ s.jrnl.up ∧ !k.starting ∧ !k.autoDone ∧ readyBit s 6 ∧ readyBit s 17
        ∧ (k.autostart = 1 ∨ (k.autostart = 2 ∧ !k.badReset)) then
      { s with keeper := { k with toPost := k.toPost ++ [(.auto, .modeRun)], autoDone := true } }
    else s)

/-! ## Program loads in the lanes (03 R133 to R137, R140) -/

/-- Mode STOP, with INIT counted as STOP (00 R20). -/
def stopLike (s : State) : Bool := s.modl.mode == .stop || s.modl.mode == .init

/-- The lane is the target of a RELOAD that has been accepted, and is not admitted or fenced since (R133). -/
def reloading (s : State) (l : Lane) : Bool :=
  s.repair.target == some l && (decide (2 ≤ rdL s R.REPAIR_STAT_STEP .x) || s.repair.waiting.isSome)

/-- LOAD_EN (R133): PS_WIN opens, PROG_VALID clears; the field is writable in STOP, and for the target of a RELOAD. -/
def execLoadEn (l : Lane) (s : State) : Answer := whenCore s l.idx <|
  .next (if stopLike s ∨ reloading s l then
      wrL (wrL (wrL (wrL s R.TUM_CTRL_LOAD_EN l 1) R.TUM_STAT_PROG_VALID l 0) R.TUM_STAT_STATE l 2) R.TUM_BUNDLES_COUNT l 0
    else s)

/-- PS_WIN_WRITE (R140): a word of the page that PS_PAGE shows; without LOAD_EN a bus error. -/
def execPsWinWrite (l : Lane) (off : Nat) (v : Word) (s : State) : Answer := whenCore s l.idx <|
  .next (if rdL s R.TUM_CTRL_LOAD_EN l = 1 then
      w32 s (.progStore l) (4096 * rdL s R.PS_PAGE_PAGE l + off % 4096 / 4 * 4) v.toNat
    else setLane s l (fun x => { x with busErrs := x.busErrs + 1 }))

/-- The valid force entries against a new variable map (R136): kept ones take the new identity, the others are cleared with
their plane bits and recorded. -/
def forcesMeet (s : State) (l : Lane) (vars : List VarEnt) (id : Nat) : State :=
  let r := (forceIdxs s l).foldl (fun (acc : State × Nat) n =>
    let e := forceAt acc.1 l n
    if !e.valid then acc
    else if forceKept vars e then (setForce acc.1 l n { e with pid := id }, acc.2)
    else (setForce (mergeOne acc.1 l { e with valid := false }) l n ⟨false, false, false, 0, 0, 0, 0⟩, acc.2 + 1)) (s, 0)
  let t := wrL (forceCount r.1 l) R.FORCE_DROP_COUNT l r.2
  forceGenInc t l

/-- The entries that a load drops, for their events (R136). -/
def forcesDropped (s : State) (l : Lane) (vars : List VarEnt) : List ForceEnt :=
  ((forceIdxs s l).map (forceAt s l)).filter (fun e => e.valid && !forceKept vars e)

/-- A load that stands (R135): the instances are cleared and take kind and unit (R112), the store's program and its identity are in
force; a force accepted since the load's checks awaits acknowledgement too (R137). -/
def takeLoad (s : State) (l : Lane) (q : LoadReq) : State :=
  let info := parseInfo s .flash q.addr
  let s0 := if 0 < forceValid s l then wrL s R.TUM_STAT_FACK_PEND l 1 else s
  let s1 := setLane (instLoad s0 l info.insts) l (fun x => { x with prog := info })
  let s2 := wrL (wrL (wrL s1 R.PROG_ID_LO_ID l q.progId) R.PROG_ID_HI_ID l (q.progId / 2 ^ 32)) R.PROG_VER_VERSION l
    (r32 s .flash (q.addr + 0x30))
  wrL (wrL s2 R.TUM_BUNDLES_COUNT l (r32 s .flash (q.addr + 0x10))) R.TUM_STAT_PROG_VALID l 1

/-- The last part of the checks of a load that passes (R136, R137). -/
def loadForces (s : State) (l : Lane) (q : LoadReq) : State :=
  let t := forcesMeet s l (parseInfo s .flash q.addr).vars q.progId
  if 0 < forceValid t l then wrL t R.TUM_STAT_FACK_PEND l 1 else t

/-- PROGRAM_LOAD_DONE (R134 steps 6 and 7): PROG_ID computed over the read-back on the lane's CVU[2] (16 R562), the checks, LOAD_EN
cleared, the result posted as a verdict; the target of a RELOAD keeps its result for RELOAD_DONE. -/
def execProgramLoadDone (l : Lane) (s : State) : Answer := whenCore s l.idx <|
  .next (match (lane s l).load with
    | none => s
    | some q =>
      if q.posted then s
      else
        let re := reloading s l
        let res := loadCheck s l q (stopLike s || re)
        let s0 := if res = 0 ∧ !re ∧ firstLane s = some l then
            (forcesDropped s l (parseInfo s .flash q.addr).vars).foldl (fun t (e : ForceEnt) =>
              raise t 0x0202 (e.addr + 2 ^ 24 * e.type + 2 ^ 31 * b2n e.word)) s
          else s
        let s1 := cvuProgId (wrL (wrL s0 R.TUM_CTRL_LOAD_EN l 0) R.TUM_STAT_STATE l 0) l (loadBytes s l q)
        let s2 := if res = 0 then loadForces s1 l q else s1
        if re then
          let t := setLane s2 l (fun x => { x with load := none })
          let u := { t with repair := { t.repair with readBack := if res = 0 then some (crc64 (loadBytes s l q)) else none } }
          if res = 0 then takeLoad u l q else u
        else setLane s2 l (fun x => { x with verdicts := x.verdicts ++ [⟨q.slot, res⟩],
                                             load := some { q with posted := true } }))

end Sys2Proof.Machine
end

