-- ==== Sys2Proof/Machine/Mailbox.lean ====
section
/-!
DEFINITION. The mailbox commands (14 Table 14.8).
-/

namespace Sys2Proof.Machine

/-! ## Serving a command (14 R482, R491, R505, R507, 11 R423) -/

/-- The command of a pair that a row executes: its opcode, in execution and not waiting for a verdict or an answer. -/
def inExec (s : State) (p : Fin 4) (op : Nat) : Option MbCmd :=
  match (mbPair s p.val).cmd with
  | some c => if c.opcode = op ∧ !(mbPair s p.val).queued ∧ mbServing s p.val then some c else none
  | none => none

/-- A changing command is permitted on a pair (R491); in boot ROM recovery MB_POLICY is not read. -/
def permitted (s : State) (p : Fin 4) : Bool := !keeperUp s || bitAt s.keeper.policy p.val == 1

/-- The READY bits a command needs, of which one must be set (R482); in boot ROM recovery KEEPER is not asked for. -/
def needsMet (s : State) (need : List Nat) : Bool := !keeperUp s || need.any (readyBit s)

/-- A command served: refused by MB_POLICY, in the safe state where it posts a request, or for a READY bit it needs;
otherwise done. -/
def serve (s : State) (p : Fin 4) (op : Nat) (need : List Nat) (changing posts : Bool) (f : MbCmd → State) : Answer :=
  .next (match inExec s p op with
    | none => s
    | some c =>
      if changing && !permitted s p then mbAnswer s p c (rspStatus 9)
      else if posts && s.keeper.safeSeen then mbAnswer s p c rspSafe
      else if !needsMet s need then mbAnswer s p c (rspStatus 7 (need.headD 0))
      else f c)

/-- A command that posts a request, where its payload is right. -/
def servePost (s : State) (p : Fin 4) (op : Nat) (need : List Nat) (mk : MbCmd → Option Request) : Answer :=
  serve s p op need true true (fun c => match mk c with
    | some r => mbPost s p c r
    | none => mbAnswer s p c (rspStatus 6))

/-- A command that reads: its response payload, or BAD_PAYLOAD. -/
def serveRead (s : State) (p : Fin 4) (op : Nat) (need : List Nat) (mk : MbCmd → Option (List Byte)) : Answer :=
  serve s p op need false false (fun c => match mk c with
    | some l => mbAnswer s p c (rspOk (l.take (rspMax p.val)))
    | none => mbAnswer s p c (rspStatus 6))

/-- A command row that one payload byte tells from its neighbours. -/
def variant (s : State) (p : Fin 4) (op first : Nat) (a : Answer) : Answer :=
  match inExec s p op with
  | some c => if leAt c.payload 0 1 = first then a else .next s
  | none => .next s

/-- READY bits by name. -/
def nKeeper : List Nat := [1]
def nPrism : List Nat := [5]
def nTumbler : List Nat := [6]
def nJournal : List Nat := [18]
def nRecorder : List Nat := [19]

/-- NOP. -/
def execNop (p : Fin 4) (s : State) : Answer := whenLive s <| serveRead s p 0x1 nKeeper (fun c => some c.payload)

/-- The outcome entry that a SEQ names, the newest first; LOST where its verdict was lost in a dropped frame (17 R568). -/
def outcome (s : State) (p : Fin 4) (seq : Nat) : Option OutEnt :=
  ((mbPair s p.val).log.find? (fun e => e.seq == seq)).map (fun e =>
    if e.status = 2 ∧ s.keeper.posted.any (fun x => x.2.1 == .pair p.val seq && s.scan.lost.contains x.1) then
      { e with status := 0xC } else e)

/-- REQ_STATUS (R502). -/
def execReqStatus (p : Fin 4) (s : State) : Answer := whenLive s <|
  serve s p 0x2 nKeeper false false (fun c =>
    if c.payload.length ≠ 2 then mbAnswer s p c (rspStatus 6)
    else match outcome s p (leAt c.payload 0 2) with
      | some e => mbAnswer s p c (rspOk (leBytes 2 e.seq ++ leBytes 2 e.opcode ++ leBytes 1 e.status ++ leBytes 1 e.reason
          ++ leBytes 2 0 ++ leBytes 4 e.gen))
      | none => mbAnswer s p c (rspStatus 0xF))

/-- RELAY (R489): the inner command goes out in one MBOX frame; the response ends the command. -/
def execRelay (p : Fin 4) (s : State) : Answer := whenLive s <|
  serve s p 0x3 [28] false false (fun c =>
    let pos := leAt c.payload 0 1
    if c.payload.length < 17 ∨ 257 < c.payload.length ∨ cxN s ≤ pos ∨ pos = cxPos s then mbAnswer s p c (rspStatus 6)
    else setMb (cxMbox s pos (c.payload.drop 1)) p.val (fun x => { x with queued := true }))

/-! ## Transfers (R503, R504) -/

/-- Where the bytes of an open transfer, or of an object not written to its slot, stand in Keeper SRAM. -/
def stageAt (kind : Nat) : Nat := kind * 2 ^ 32

/-- The flash bank of the inactive slot of a kind (R504). -/
def inactive : Option Bool → Bool
  | some b => !b
  | none => false

/-- The bank that an object of a kind is written to. -/
def objBank (s : State) (kind : Nat) : Bool :=
  match kind with
  | 3 => inactive s.keeper.progSlot
  | 4 => inactive s.keeper.safeSlot
  | 6 => inactive s.keeper.schedSlot
  | _ => !bootBank s

/-- The object that a handle names. -/
def object (s : State) (h kind : Nat) : Option Obj := (s.keeper.objs.find? (fun e => e.1 == h && e.2.kind == kind)).map (·.2)

/-- An open transfer by its handle: its kind. -/
def xferOf (s : State) (h : Nat) : Option (Nat × Xfer) := s.keeper.xfers.find? (fun e => e.2.handle == h)

/-- The transfers with one changed, or closed. -/
def setXfer (s : State) (kind : Nat) (x : Option Xfer) : State :=
  { s with keeper := { s.keeper with xfers := match x with
    | some v => Tab.insert s.keeper.xfers kind v
    | none => Tab.erase s.keeper.xfers kind } }

/-- XFER commands are changing commands but for a service token (R491). -/
def xferChanging (kind : Option Nat) : Bool := kind != some 5

/-- XFER_BEGIN (R503); in boot ROM recovery only kinds 0x01 and 0x02 (R507). -/
def execXferBegin (p : Fin 4) (s : State) : Answer := whenLive s <|
  let kind := match inExec s p 0x10 with | some c => leAt c.payload 0 1 | none => 0
  serve s p 0x10 nKeeper (xferChanging (some kind)) false (fun c =>
    let len := leAt c.payload 1 4
    if c.payload.length ≠ 5 ∨ kind = 0 ∨ 7 < kind ∨ len = 0 ∨ slotSize kind < len ∨ (!keeperUp s ∧ 2 < kind) then
      mbAnswer s p c (rspStatus 6)
    else if (s.keeper.xfers.any (fun e => e.1 == kind)) then mbAnswer s p c (rspStatus 8)
    else
      let h := s.keeper.handle + 1
      -- an object that stands in the staging area alone is gone with it
      let objs := s.keeper.objs.filter (fun e => !((kind ≤ 2 || kind == 5) && e.2.kind == kind))
      let t := setXfer { s with keeper := { s.keeper with handle := h, objs := objs } } kind (some ⟨h, len, [], s.time.now⟩)
      mbAnswer (clearMem t .keeperSram (stageAt kind) (slotSize kind)) p c (rspOk (leBytes 4 h)))

/-- XFER_DATA (R503): in any order, within the declared length. -/
def execXferData (p : Fin 4) (s : State) : Answer := whenLive s <|
  let x := match inExec s p 0x11 with | some c => xferOf s (leAt c.payload 0 4) | none => none
  serve s p 0x11 nKeeper (xferChanging (x.map (·.1))) false (fun c =>
    match x with
    | some (kind, v) =>
      let ofs := leAt c.payload 4 4
      let data := c.payload.drop 8
      if c.payload.length < 9 ∨ v.len < ofs + data.length then mbAnswer s p c (rspStatus 6)
      else
        let t := wbs s .keeperSram (stageAt kind + ofs) data
        mbAnswer (setXfer t kind (some { v with parts := v.parts ++ [(ofs, data.length)], last := s.time.now })) p c (rspOk)
    | none => mbAnswer s p c (rspStatus 6))

/-- Every byte of the declared length has been written. -/
def covered (x : Xfer) : Bool :=
  let rec go : Nat → Nat → Bool
    | 0, a => decide (x.len ≤ a)
    | n + 1, a =>
      if x.len ≤ a then true
      else match x.parts.find? (fun q => decide (q.1 ≤ a ∧ a < q.1 + q.2)) with
        | some q => go n (q.1 + q.2)
        | none => false
  go (x.parts.length + 1) 0

/-- The checks of a journal image (17 R581). -/
def imageOk (l : List Byte) : Bool :=
  decide (64 ≤ l.length) && leAt l 0 2 == 0x4A58 && leAt l 2 2 == 1 && decide (leAt l 4 2 ≤ 0x60) 
    && leAt l 20 4 == crc32c (l.drop 64)

/-- A complete object is written to its place (Table 14.9). -/
def storeObject (s : State) (kind : Nat) (bank : Bool) (l : List Byte) : State :=
  if kind = 3 ∨ kind = 4 ∨ kind = 6 then
    wbs (clearMem s .flash (slotAddr kind bank) (slotSize kind)) .flash (slotAddr kind bank) l
  else if kind = 7 then wbs (clearMem s .mram exportBase 0x200000) .mram exportBase l
  else s

/-- XFER_END (R503): length, CRC-32C and, for a signed kind, R465; then the object stands under its handle. -/
def execXferEnd (p : Fin 4) (s : State) : Answer := whenLive s <|
  let x := match inExec s p 0x12 with | some c => xferOf s (leAt c.payload 0 4) | none => none
  serve s p 0x12 nKeeper (xferChanging (x.map (·.1))) false (fun c =>
    match x with
    | some (kind, v) =>
      let l := rbs s .keeperSram (stageAt kind) v.len
      if c.payload.length ≠ 8 ∨ !covered v ∨ crc32c l ≠ leAt c.payload 4 4 ∨ (kind = 7 ∧ !imageOk l) then
        mbAnswer (setXfer s kind (some { v with last := s.time.now })) p c (rspStatus 6)
      else
        let signed := decide (kind ≤ 5)
        let n := v.len - 512
        let block := l.drop n
        let res := if !signed then 1 else if v.len ≤ 512 ∨ leAt block 0xC 4 ≠ n then 2 else verifyImage s kind (l.take n) block
        let s1 := setXfer s kind none
        let s2 := if kind = 3 then wr s1 R.BOOT_STAT_PROG_RES res else if kind = 4 then wr s1 R.BOOT_STAT_SAFE_RES res else s1
        if res ≠ 1 then mbAnswer s2 p c (rspStatus 0xA res)
        else
          let bank := objBank s kind
          let s3 := storeObject s2 kind bank l
          let o := (s3.keeper.objs.filter (fun e => e.2.kind != kind))
          let s4 := { s3 with keeper := { s3.keeper with objs := Tab.insert o v.handle ⟨kind, v.len, bank⟩ } }
          mbAnswer s4 p c (rspOk (leBytes 1 kind ++ leBytes 4 v.len ++ leBytes 4 (if signed then leAt block 8 4 else 0)))
    | none => mbAnswer s p c (rspStatus 6))

/-- XFER_ABORT (R503). -/
def execXferAbort (p : Fin 4) (s : State) : Answer := whenLive s <|
  let x := match inExec s p 0x13 with | some c => xferOf s (leAt c.payload 0 4) | none => none
  serve s p 0x13 nKeeper (xferChanging (x.map (·.1))) false (fun c =>
    match x with
    | some (kind, _) => mbAnswer (setXfer s kind none) p c (rspOk)
    | none => mbAnswer s p c (rspStatus 6))

/-! ## Identity and state (R433, R505, R509) -/

/-- ORDER of the order code (Table 14.13). -/
def orderByte : Nat := if Config.orderCode then 2 else 1

/-- IDENT (R509). -/
def execIdent (p : Fin 4) (s : State) : Answer := whenLive s <|
  serveRead s p 0x100 nKeeper (fun _ => some (
    leBytes 2 0x60 ++ leBytes 1 orderByte ++ leBytes 1 Config.hwRev.val ++ leBytes 8 Config.serial.val
      ++ leBytes 4 (leAt (slotBlock s 1 (bootBank s)) 0x10 4) ++ leBytes 4 (leAt (slotBlock s 2 (bootBank s)) 0x10 4)
      ++ leBytes 1 (b2n (bootBank s)) ++ leBytes 3 0 ++ leBytes 6 Config.mac.val ++ leBytes 2 0 ++ leBytes 4 (s.keeper.eth.getD 0)
      ++ leBytes 2 (ownNode s) ++ leBytes 1 (cxPos s) ++ leBytes 1 (b2n s.keeper.hinge)))

/-- STATUS_GET: words 16 to 29 of the last commit and BOOT_STAT. -/
def execStatusGet (p : Fin 4) (s : State) : Answer := whenLive s <|
  serveRead s p 0x101 nKeeper (fun _ => some (
    ((List.range 14).map (fun i => leBytes 4 (Tab.get 0 s.scan.snap (16 + i)))).flatten ++ leBytes 4 (bootStat s)))

/-- UNIT_GET (11 R433 to R435): the Keeper compares its view with the voted words before it answers, once they agree, or as in transition
after three further commits; without a commit since its last comparison, or any more, the answer is marked NOCOMMIT. -/
def execUnitGet (q : Fin 4 × Word) (s : State) : Answer := whenLive s <|
  let (p, view) := q
  serve s p 0x102 nKeeper false false (fun c =>
    let cls := leAt c.payload 0 1
    let idx := leAt c.payload 1 2
    match votedView s cls idx with
    | none => mbAnswer s p c (rspStatus 6)
    | some voted =>
      if c.payload.length ≠ 3 then mbAnswer s p c (rspStatus 6)
      else
        let old := viewOf s cls idx
        let n := (viewTake s old view.toNat voted).n
        let t := viewCompare s cls idx view.toNat voted
        let old' := s.modl.prismStop || old.any (fun y => y.com == s.scan.commits)
        if view.toNat = voted ∨ 4 ≤ n ∨ s.modl.prismStop then
          mbAnswer t p c ⟨0, 0, 2 * b2n old' + 4 * b2n (view.toNat != voted && decide (4 ≤ n)), some s.scan.gen,
            leBytes 4 view.toNat ++ leBytes 4 voted⟩
        else t)

/-! ## Requests for modes, faults, programs and forces -/

/-- MODE_SET STOP (13 R476). -/
def execModeSetStop (p : Fin 4) (s : State) : Answer := whenLive s <|
  variant s p 0x200 1 (servePost s p 0x200 nPrism (fun _ => some .modeStop))

/-- MODE_SET RUN. -/
def execModeSetRun (p : Fin 4) (s : State) : Answer := whenLive s <|
  variant s p 0x200 2 (servePost s p 0x200 nPrism (fun _ => some .modeRun))

/-- MODE_SET SERVICE (R514): with the held token, which is used up. -/
def execModeSetService (p : Fin 4) (s : State) : Answer := whenLive s <|
  variant s p 0x200 3 (serve s p 0x200 nPrism true true (fun c =>
    match s.keeper.token with
    | some (g, d, _) =>
      if bitAt g 0 = 1 then mbPost { s with keeper := { s.keeper with token := none } } p c (.modeService g d)
      else mbAnswer s p c (rspStatus 0xD)
    | none => mbAnswer s p c (rspStatus 0xD)))

/-- MODE_SET leave SERVICE (04 R195). -/
def execModeSetLeaveService (p : Fin 4) (s : State) : Answer := whenLive s <|
  variant s p 0x200 4 (servePost s p 0x200 nPrism (fun _ => some .leaveService))

/-- FAULT_ACK (11 R429). -/
def execFaultAck (p : Fin 4) (s : State) : Answer := whenLive s <| servePost s p 0x201 nPrism (fun _ => some .faultAck)

/-- PARK (12 R451). -/
def execPark (p : Fin 4) (s : State) : Answer := whenLive s <| servePost s p 0x202 nPrism (fun _ => some .park)

/-- KEEPER_RESTART (R516): answered OK before the restart begins. -/
def execKeeperRestart (p : Fin 4) (s : State) : Answer := whenLive s <|
  serve s p 0x203 nKeeper true false (fun c => keeperRestart (mbAnswer s p c (rspOk)) 2)

/-- PROG_LOAD (03 R134). -/
def execProgLoad (p : Fin 4) (s : State) : Answer := whenLive s <|
  servePost s p 0x300 nPrism (fun c =>
    if c.payload.length ≠ 12 then none
    else (object s (leAt c.payload 0 4) 3).map (fun o => .progLoad (slotAddr 3 o.bankB) (o.len - 512) (leAt c.payload 4 8)))

/-- The lane whose registers a report shows. -/
def reportLane (s : State) : Lane := (firstLane s).getD .x

/-- PROG_INFO. -/
def execProgInfo (p : Fin 4) (s : State) : Answer := whenLive s <|
  let l := reportLane s
  serveRead s p 0x301 nKeeper (fun _ => some (
    ([R.TUM_BUNDLES_COUNT, R.TUM_CLOCKS_CLOCKS, R.PROG_ID_LO_ID, R.PROG_ID_HI_ID, R.PROG_VER_VERSION].map
      (fun r => leBytes 4 (rdL s r l))).flatten
      ++ leBytes 1 (rdL s R.TUM_STAT_FACK_PEND l) ++ (lane s l).prog.name))

/-- The force entry that 16 bytes spell (03 Table 3.11). -/
def forceOfBytes (l : List Byte) : ForceEnt := forceOfWords (leAt l 0 8) (leAt l 8 8)

/-- Pieces of `n` bytes. -/
def pieces (n k : Nat) (l : List Byte) : List (List Byte) := (List.range k).map (fun i => (l.drop (n * i)).take n)

/-- FORCE_SET (03 R128). -/
def execForceSet (p : Fin 4) (s : State) : Answer := whenLive s <|
  servePost s p 0x310 nTumbler (fun c =>
    let k := (c.payload.length - 8) / 16
    if c.payload.length < 24 ∨ (c.payload.length - 8) % 16 ≠ 0 ∨ 32 < k then none
    else some (.forceSet (leAt c.payload 0 8) ((pieces 16 k (c.payload.drop 8)).map forceOfBytes)))

/-- FORCE_CLEAR (03 R129). -/
def execForceClear (p : Fin 4) (s : State) : Answer := whenLive s <|
  servePost s p 0x311 nTumbler (fun c =>
    let k := (c.payload.length - 8) / 4
    if c.payload.length < 12 ∨ (c.payload.length - 8) % 4 ≠ 0 ∨ 32 < k then none
    else some (.forceClear (leAt c.payload 0 8) ((pieces 4 k (c.payload.drop 8)).map ofLe)))

/-- The entries of a lane's force table that hold a force, by index. -/
def forceList (s : State) (l : Lane) : List ForceEnt := ((forceIdxs s l).map (forceAt s l)).filter (fun e => e.valid || e.pend)

/-- PROG_ID of a lane. -/
def progIdOf (s : State) (l : Lane) : Nat := rdL s R.PROG_ID_LO_ID l + 2 ^ 32 * rdL s R.PROG_ID_HI_ID l

/-- FORCE_LIST (R506). -/
def execForceList (p : Fin 4) (s : State) : Answer := whenLive s <|
  let l := reportLane s
  serveRead s p 0x312 nTumbler (fun c =>
    if c.payload.length ≠ 2 then none
    else
      let n := min 200 ((rspMax p.val - 16) / 16)
      let es := ((forceList s l).drop (leAt c.payload 0 2)).take n
      some (leBytes 8 (progIdOf s l) ++ leBytes 4 (rdL s R.FORCE_GEN_GEN l) ++ leBytes 2 es.length ++ leBytes 2 0
        ++ es.flatMap ForceEnt.bytes))

/-- FORCE_ACK (03 R138). -/
def execForceAck (p : Fin 4) (s : State) : Answer := whenLive s <|
  servePost s p 0x313 nTumbler (fun c =>
    if c.payload.length ≠ 12 then none else some (.forceAck (leAt c.payload 0 8) (leAt c.payload 8 4)))

/-! ## Configuration -/

/-- A section that the lanes validate: register addresses and values in pairs of words. -/
def sectionRequest (sect : Nat) (c : MbCmd) : Option Request :=
  let l := c.payload.drop 1
  if l.length % 8 ≠ 0 ∨ 16384 < l.length then none else some (.cfg sect l)

/-- CFG_SET 0x01 (R505). -/
def execCfgSetScan (p : Fin 4) (s : State) : Answer := whenLive s <| variant s p 0x400 1 (servePost s p 0x400 nPrism (sectionRequest 1))

/-- CFG_SET 0x02. -/
def execCfgSetFieldIo (p : Fin 4) (s : State) : Answer := whenLive s <| variant s p 0x400 2 (servePost s p 0x400 nPrism (sectionRequest 2))

/-- CFG_SET 0x03 (10 R414). -/
def execCfgSetPair (p : Fin 4) (s : State) : Answer := whenLive s <| variant s p 0x400 3 (servePost s p 0x400 nPrism (sectionRequest 3))

/-- CFG_SET 0x04 (10 R414). -/
def execCfgSetCascade (p : Fin 4) (s : State) : Answer := whenLive s <| variant s p 0x400 4 (servePost s p 0x400 nPrism (sectionRequest 4))

/-- CFG_SET 0x05. -/
def execCfgSetTime (p : Fin 4) (s : State) : Answer := whenLive s <| variant s p 0x400 5 (servePost s p 0x400 nPrism (sectionRequest 5))

/-- A section that the Keeper applies is kept in the configuration store (17 R574). -/
def keepSection (s : State) (kind : Nat) (l : List Byte) : State := if s.jrnl.up then writeConfig s kind l s.scan.gen else s

/-- CFG_SET 0x06 (R491): a change of MB_POLICY only on pair 0 or in mode SERVICE. -/
def execCfgSetModule (p : Fin 4) (s : State) : Answer := whenLive s <|
  variant s p 0x400 6 (serve s p 0x400 nPrism true false (fun c =>
    let l := c.payload.drop 1
    if !moduleOk l then mbAnswer s p c (rspStatus 6)
    else if leAt l 4 4 ≠ s.keeper.policy ∧ p.val ≠ 0 ∧ s.modl.mode ≠ .service then mbAnswer s p c (rspStatus 9)
    else mbAnswer (keepSection (applyModule s l) 6 l) p c (rspOk)))

/-- CFG_SET 0x07: kept for the maintenance port, which MAINT_ETH_LINK_UP brings up. -/
def execCfgSetMaintIpv4 (p : Fin 4) (s : State) : Answer := whenLive s <|
  variant s p 0x400 7 (serve s p 0x400 nPrism true false (fun c =>
    let l := c.payload.drop 1
    if l.length ≠ 13 ∨ 1 < leAt l 0 1 then mbAnswer s p c (rspStatus 6)
    else mbAnswer (keepSection s 7 l) p c (rspOk)))

/-- CFG_GET: the content that the configuration store holds in force. -/
def execCfgGet (p : Fin 4) (s : State) : Answer := whenLive s <|
  serveRead s p 0x401 nKeeper (fun c =>
    let k := leAt c.payload 0 1
    if c.payload.length ≠ 1 ∨ k = 0 ∨ 7 < k then none else some ((cfgContent s k).getD []))

/-- LU_SCHED (05 R216). -/
def execLuSched (p : Fin 4) (s : State) : Answer := whenLive s <|
  servePost s p 0x500 nPrism (fun c =>
    if c.payload.length ≠ 8 then none
    else (object s (leAt c.payload 0 4) 6).map (fun o => .luSched (rbs s .flash (slotAddr 6 o.bankB) o.len) (leAt c.payload 4 4)))

/-- LU_HANDOVER (05 R242). -/
def execLuHandover (p : Fin 4) (s : State) : Answer := whenLive s <|
  servePost s p 0x501 [7, 8] (fun c =>
    if c.payload.length ≠ 6 then none else some (.luHandover (leAt c.payload 0 4) (leAt c.payload 4 2)))

/-- Words of a common register block as the Keeper reads them, RC fields cleared for it (05 R258). -/
def keeperReads (s : State) (addrs : List Nat) : State × List Byte :=
  addrs.foldl (fun (acc : State × List Byte) a =>
    let rows := rowsAt .common a
    (clearRc acc.1 rows 3, acc.2 ++ leBytes 4 (readWord acc.1 rows 0 3))) (s, [])

/-- LU_STAT: LU_STAT and LINE_CNT[0..1]. -/
def execLuStat (p : Fin 4) (s : State) : Answer := whenLive s <|
  serve s p 0x502 nKeeper false false (fun c =>
    let r := keeperReads s (0x20060004 :: (List.range 16).map (fun i => 0x20060080 + 4 * i))
    mbAnswer r.1 p c (rspOk r.2))

/-- SAFE_CFG (R510): one request with the three sections. -/
def execSafeCfg (p : Fin 4) (s : State) : Answer := whenLive s <|
  serve s p 0x600 nPrism true true (fun c =>
    match (if c.payload.length = 4 then object s (leAt c.payload 0 4) 4 else none) with
    | some o =>
      let l := rbs s .flash (slotAddr 4 o.bankB) (o.len - 512)
      match safeSection l 1, safeSection l 2, safeSection l 3 with
      | some d, some q, some m =>
        mbPost { s with keeper := { s.keeper with safeNext := some (safeIdent s o.bankB) } } p c (.safeCfg d q m)
      | _, _, _ => mbAnswer s p c (rspStatus 6)
    | none => mbAnswer s p c (rspStatus 6))

/-- PSL_ACK (06 R275). -/
def execPslAck (p : Fin 4) (s : State) : Answer := whenLive s <|
  servePost s p 0x601 nPrism (fun c =>
    let n := leAt c.payload 0 2
    if c.payload.length ≠ 2 then none else some (.pslAck (if n = 0xFFFF then none else some n)))

/-- SAFE_INFO: DB_PARAM_ID and the identity of the safety configuration. -/
def execSafeInfo (p : Fin 4) (s : State) : Answer := whenLive s <|
  serveRead s p 0x602 nKeeper (fun _ =>
    let i := s.keeper.safeId.getD ([], 0, 0)
    some (leBytes 4 (rd s R.DB_PARAM_ID_ID) ++ (List.range 64).map (fun k => i.1.getD k 0) ++ leBytes 4 i.2.1 ++ leBytes 1 i.2.2))

/-! ## Journal and recorder (17 R580, R581, R588, R591) -/

/-- JRNL_INFO (17 Table 17.9). -/
def execJrnlInfo (p : Fin 4) (s : State) : Answer := whenLive s <|
  serveRead s p 0x700 nJournal (fun _ =>
    let j := s.jrnl
    some (leBytes 4 j.epoch ++ leBytes 1 j.half ++ leBytes 1 (b2n j.compact.isSome + 2 * b2n (Lane.all.any (fun l => (j.resync.get l).isSome)))
      ++ leBytes 2 0 ++ leBytes 4 j.pos ++ leBytes 4 j.recs ++ leBytes 8 (optime s) ++ leBytes 4 j.state.pcyc ++ leBytes 4 j.dropped
      ++ leBytes 4 (rdL s R.JQ_STAT_FILL .x) ++ leBytes 4 ((optime s - j.refresh) / 3600000) ++ leBytes 4 (jLimit s)))

/-- A byte of a retained range as the journal holds it (17 R570): kinds 0 digital image, 1 word image, 2 instances. -/
def retainedByte (j : JState) (kind a : Nat) : Byte :=
  let w := if kind = 0 then Tab.get 0 j.dig (a / 8 * 8) else if kind = 1 then Tab.get 0 j.word (a / 8 * 2) else Tab.get 0 j.inst (a / 8 * 8)
  BitVec.ofNat 8 (w / 2 ^ (8 * (a % 8)))

/-- JRNL_READ (R506): bytes of a retained range, by its place in the retained map. -/
def execJrnlRead (p : Fin 4) (s : State) : Answer := whenLive s <|
  serveRead s p 0x701 nJournal (fun c =>
    match (if c.payload.length = 7 then s.scan.retained[leAt c.payload 0 1]? else none) with
    | some (kind, start, len) =>
      let ofs := leAt c.payload 1 4
      let base := if kind = 1 then 4 * start else start
      let size := if kind = 1 then 4 * len else len
      let n := min (min (leAt c.payload 5 2) (rspMax p.val - 8)) (size - ofs)
      some (leBytes 4 ofs ++ leBytes 4 n ++ (List.range n).map (fun i => retainedByte s.jrnl.state kind (base + ofs + i)))
    | none => none)

/-- The newest slot of a ring; all ones where it is empty. -/
def newestSlot (s : State) (v : Nat) : Nat :=
  if s.jrnl.heldN.getD v 0 = 0 then 0xFFFFFFFF else ringBase v + (s.jrnl.slots.getD v 0 + ringSize v - 1) % ringSize v

/-- REC_INFO (17 Table 17.9). -/
def recInfo (s : State) : List Byte :=
  leBytes 8 s.jrnl.rseq ++ ((List.range 5).map (fun v => leBytes 4 (s.jrnl.heldN.getD v 0) ++ leBytes 4 (s.jrnl.overN.getD v 0)
    ++ leBytes 4 (s.jrnl.lostN.getD v 0) ++ leBytes 4 (newestSlot s v))).flatten ++ leBytes 4 s.jrnl.damaged

/-- REC_INFO. -/
def execRecInfo (p : Fin 4) (s : State) : Answer := whenLive s <| serveRead s p 0x702 nRecorder (fun _ => some (recInfo s))

/-- REC_READ (17 R588): records in slot order from a first slot. -/
def execRecRead (p : Fin 4) (s : State) : Answer := whenLive s <|
  serveRead s p 0x703 nRecorder (fun c =>
    let first := leAt c.payload 0 4
    if c.payload.length ≠ 6 ∨ 262144 ≤ first then none
    else
      let n := min (min (leAt c.payload 4 2) 63) (min ((rspMax p.val - 16) / 64) (262144 - first))
      some (leBytes 8 s.jrnl.rseq ++ leBytes 2 n ++ leBytes 6 0 ++ (List.range n).flatMap (fun i => slotShown s (first + i))))

/-- The export image (17 R580): header, checkpoint, configuration contents. -/
def exportImage (s : State) : List Byte :=
  let recs := ckptRecs { s.jrnl.state with optime := optime s } s.scan.gen
  let body := encRecs 2 (s.jrnl.epoch + 1) 0 recs ++ s.jrnl.state.cfg.flatMap (fun e => rbs s .mram (cfgBase e.1 e.2.1) e.2.2.1)
  leBytes 2 0x4A58 ++ leBytes 2 1 ++ leBytes 2 0x60 ++ leBytes 2 0 ++ leBytes 8 Config.serial.val ++ leBytes 4 (64 + body.length)
    ++ leBytes 4 (crc32c body) ++ leBytes 8 s.scan.gen ++ leBytes 32 0 ++ body

/-- JRNL_EXPORT (17 R580): built at offset 0, then read in parts. -/
def execJrnlExport (p : Fin 4) (s : State) : Answer := whenLive s <|
  serve s p 0x704 nJournal false false (fun c =>
    let ofs := leAt c.payload 0 4
    if c.payload.length ≠ 6 then mbAnswer s p c (rspStatus 6)
    else
      let t := if ofs = 0 then
          let l := exportImage s
          let u := wbs (clearMem s .mram exportBase 0x200000) .mram exportBase l
          { u with jrnl := { u.jrnl with expLen := l.length } }
        else s
      let n := min (min (leAt c.payload 4 2) (rspMax p.val - 8)) (t.jrnl.expLen - ofs)
      mbAnswer t p c (rspOk (leBytes 4 t.jrnl.expLen ++ leBytes 4 n ++ rbs t .mram (exportBase + ofs) n)))

/-- The records that bytes hold up to CKPT_END, and what follows them. -/
def parseRecs : Nat → List Byte → List (Nat × List Byte) × List Byte
  | 0, l => ([], l)
  | fuel + 1, l =>
    let k := leAt l 2 1
    let n := leAt l 12 4
    let r := (k, (l.drop 16).take n)
    let rest := l.drop (24 + n)
    if l.length < 24 ∨ k = 2 then ([r], rest)
    else
      let q := parseRecs fuel rest
      (r :: q.1, q.2)

/-- The records of an imported checkpoint with this module's slots and banks, its contents written (17 R581). -/
def importRecs (s : State) : List (Nat × List Byte) → List Byte → State × List (Nat × List Byte)
  | [], _ => (s, [])
  | (k, r) :: rs, l =>
    if k = 0x20 then
      let kind := leAt r 0 1
      let len := leAt r 4 4
      let slot := match s.jrnl.state.cfg.find? (fun e => e.1 == kind) with | some e => 1 - e.2.1 | none => 0
      let t := wbs s .mram (cfgBase kind slot) (l.take len)
      let q := importRecs t rs (l.drop len)
      (q.1, (k, payConfig kind slot len (leAt r 8 4) (leAt r 12 4)) :: q.2)
    else
      let q := importRecs s rs l
      let r' := if k = 0x21 then payProgram (leAt r 0 8) (s.keeper.progSlot.getD false)
        else if k = 0x22 then paySafety (r.take 64) (s.keeper.safeSlot.getD false) else r
      (q.1, (k, r') :: q.2)

/-- JRNL_IMPORT (17 R581): a compaction under way gives way to it. -/
def execJrnlImport (p : Fin 4) (s : State) : Answer := whenLive s <|
  serve s p 0x705 nJournal true false (fun c =>
    match (if c.payload.length = 4 then object s (leAt c.payload 0 4) 7 else none) with
    | none => mbAnswer s p c (rspStatus 6)
    | some o =>
      let recs := parseRecs 100000 ((rbs s .mram exportBase o.len).drop 64)
      let progOk : Bool := match recs.1.find? (fun e => e.1 == 0x21) with
        | some (_, r) => leAt r 0 8 == progIdOf s (reportLane s) && readyBit s 6
        | none => true
      let safeOk : Bool := match recs.1.find? (fun e => e.1 == 0x22) with
        | some (_, r) => some (r.take 64) == s.keeper.safeId.map (·.1) && dbArmed s
        | none => true
      let tokOk : Bool := match s.keeper.token with | some (g, _, _) => bitAt g 0 == 1 | none => false
      if (s.modl.mode == .stop && tokOk && progOk && safeOk) = true then
        let q := importRecs s recs.1 recs.2
        let h := 1 - s.jrnl.half
        let t := wbs (clearMem q.1 .mram (halfBase h) halfSize) .mram (halfBase h) (encRecs 2 (s.jrnl.epoch + 1) 0 q.2)
        mbAnswer { t with keeper := { t.keeper with token := none }, jrnl := { t.jrnl with compact := none, after := [] } } p c (rspOk)
      else mbAnswer s p c (rspStatus 9))

/-! ## Time (R508, 09 R371, 12 R454) -/

/-- TIME_GET: a snapshot of the bases, TB_STAT and PTP_STAT. -/
def execTimeGet (p : Fin 4) (s : State) : Answer := whenLive s <|
  serve s p 0x800 nKeeper false false (fun c =>
    let t := snapshot s
    let w (a : Nat) := leBytes 4 (readWord t (rowsAt .common a) 0 3)
    mbAnswer t p c (rspOk (w 0x20020020 ++ w 0x20020024 ++ w 0x20020028 ++ w 0x2002002C ++ w 0x20020030 ++ w 0x20020000 ++ w 0x2002004C)))

/-- TIME_SET (R508). -/
def execTimeSet (p : Fin 4) (s : State) : Answer := whenLive s <|
  serve s p 0x801 nKeeper true false (fun c =>
    if c.payload.length ≠ 9 then mbAnswer s p c (rspStatus 6)
    else if rd s R.TB2_CTRL_SRC = 1 then mbAnswer s p c (rspStatus 0xE)
    else
      let t := tb2Step s ((leAt c.payload 0 8 : Int) - s.time.tb2) true
      mbAnswer (wr t R.TB2_CTRL_UTC_OFS (leAt c.payload 8 1)) p c (rspOk))

/-- TIME_ADJ (R508). -/
def execTimeAdj (p : Fin 4) (s : State) : Answer := whenLive s <|
  serve s p 0x802 [22] true false (fun c =>
    if c.payload.length ≠ 8 then mbAnswer s p c (rspStatus 6)
    else if rd s R.TB2_CTRL_SRC = 1 then mbAnswer s p c (rspStatus 0xE)
    else mbAnswer (tb2Step s (toSigned 64 (leAt c.payload 0 8)) true) p c (rspOk))

/-- TIME_SRC (09 R371). -/
def execTimeSrc (p : Fin 4) (s : State) : Answer := whenLive s <|
  serve s p 0x803 nKeeper true false (fun c =>
    let src := leAt c.payload 0 1
    let dom := leAt c.payload 1 1
    if c.payload.length ≠ 2 ∨ 1 < src ∨ 127 < dom then mbAnswer s p c (rspStatus 6)
    else mbAnswer { wr s R.TB2_CTRL_SRC src with time := { s.time with domain := dom } } p c (rspOk))

/-- ALARM_SET (12 R454). -/
def execAlarmSet (p : Fin 4) (s : State) : Answer := whenLive s <|
  serve s p 0x804 [0] true false (fun c =>
    if c.payload.length ≠ 7 ∨ 1 < leAt c.payload 6 1 then mbAnswer s p c (rspStatus 6)
    else
      let t := wr (wr s R.AON_ALARM_LO_TICK (leAt c.payload 0 4)) R.AON_ALARM_HI_TICK (leAt c.payload 4 2)
      mbAnswer (wr t R.WAKE_CFG_ALARM_EN (leAt c.payload 6 1)) p c (rspOk))

/-! ## Hot repair (04 R180) -/

/-- A hot repair request that names its lane. -/
def laneRequest (c : MbCmd) (len : Nat) (mk : Lane → Request) : Option Request :=
  if c.payload.length = len then (laneOf (leAt c.payload 0 1)).map mk else none

/-- QUIESCE. -/
def execQuiesce (p : Fin 4) (s : State) : Answer := whenLive s <| servePost s p 0x900 nPrism (fun c => laneRequest c 1 .quiesce)

/-- RELOAD. -/
def execReload (p : Fin 4) (s : State) : Answer := whenLive s <|
  servePost s p 0x901 nPrism (fun c => laneRequest c 9 (fun l => .reload l (leAt c.payload 1 8)))

/-- SELFTEST. -/
def execSelftest (p : Fin 4) (s : State) : Answer := whenLive s <| servePost s p 0x902 nPrism (fun c => laneRequest c 1 .selftest)

/-- COPY. -/
def execCopy (p : Fin 4) (s : State) : Answer := whenLive s <| servePost s p 0x903 nPrism (fun c => laneRequest c 1 .copy)

/-! ## Firmware, OTP, attestation and tokens (R511 to R515) -/

/-- FW_WRITE (R511): into the bank that is not booted; after FW_ACTIVATE, BUSY. -/
def execFwWrite (p : Fin 4) (s : State) : Answer := whenLive s <|
  serve s p 0xA00 nKeeper true false (fun c =>
    let h := leAt c.payload 0 4
    let o := if c.payload.length = 4 then (match object s h 1 with | some o => some o | none => object s h 2) else none
    match o with
    | none => mbAnswer s p c (rspStatus 6)
    | some o =>
      if s.keeper.activated then mbAnswer s p c (rspStatus 8)
      else
        let a := slotAddr o.kind (!bootBank s)
        mbAnswer (wbs (clearMem s .flash a (slotSize o.kind)) .flash a (rbs s .keeperSram (stageAt o.kind) o.len)) p c (rspOk))

/-- FW_ACTIVATE (R511). -/
def execFwActivate (p : Fin 4) (s : State) : Answer := whenLive s <|
  serve s p 0xA01 nKeeper true false (fun c =>
    let b := leAt c.payload 0 1
    if c.payload.length ≠ 1 ∨ 1 < b then mbAnswer s p c (rspStatus 6)
    else
      let r1 := verifySlot s 1 (b == 1)
      let r2 := verifySlot s 2 (b == 1)
      if r1 ≠ 1 then mbAnswer s p c (rspStatus 0xA r1)
      else if r2 ≠ 1 then mbAnswer s p c (rspStatus 0xA r2)
      else
        let t := wb s .flash bootSelector (BitVec.ofNat 8 b)
        mbAnswer { t with keeper := { t.keeper with activated := true } } p c (rspOk))

/-- FW_INFO: BUILD, SVN and result per bank and image. -/
def execFwInfo (p : Fin 4) (s : State) : Answer := whenLive s <|
  serveRead s p 0xA02 nKeeper (fun _ => some (
    ([(1, false), (2, false), (1, true), (2, true)].map (fun e : Nat × Bool =>
      let b := slotBlock s e.1 e.2
      leBytes 8 (leAt b 0x10 8) ++ leBytes 4 (leAt b 8 4) ++ leBytes 1 (verifySlot s e.1 e.2))).flatten))

/-- The SVN of the image of a kind now in use. -/
def svnInUse (s : State) (kind : Nat) : Nat :=
  match kind with
  | 1 => leAt (slotBlock s 1 (bootBank s)) 8 4
  | 2 => leAt (slotBlock s 2 (bootBank s)) 8 4
  | 3 => match s.keeper.progSlot with | some b => leAt (slotBlock s 3 b) 8 4 | none => 0
  | 4 => match s.keeper.safeId with | some i => i.2.1 | none => 0
  | _ => 0

/-- The OTP commands are permitted (R512). -/
def otpMay (s : State) : Bool := s.modl.mode == .service && bitAt s.modl.grants 4 == 1

/-- OTP_SVN (R512): raised, never lowered. -/
def execOtpSvn (p : Fin 4) (s : State) : Answer := whenLive s <|
  serve s p 0xA10 nKeeper true false (fun c =>
    let k := leAt c.payload 0 1
    let n := leAt c.payload 1 4
    if c.payload.length ≠ 5 ∨ k = 0 ∨ 5 < k then mbAnswer s p c (rspStatus 6)
    else if !otpMay s ∨ (svnInUse s k < n ∧ svnMin s k < n) then mbAnswer s p c (rspStatus 9)
    else
      let o := s.keeper.otp
      let otp := { o with svnMin := Tab.put 0 o.svnMin k (max n (Tab.get 0 o.svnMin k)) }
      mbAnswer { s with keeper := { s.keeper with otp := otp } } p c (rspOk))

/-- OTP_REVOKE (R512). -/
def execOtpRevoke (p : Fin 4) (s : State) : Answer := whenLive s <|
  serve s p 0xA11 nKeeper true false (fun c =>
    let n := leAt c.payload 0 1
    if c.payload.length ≠ 1 ∨ 3 < n then mbAnswer s p c (rspStatus 6)
    else
      let after := setB (otpRevoked s) n true
      let signs := [1, 2].any (fun k => leAt (slotBlock s k (bootBank s)) 7 1 == n)
      if !otpMay s ∨ signs ∨ after % 16 = 15 then mbAnswer s p c (rspStatus 9)
      else
        let o := s.keeper.otp
        mbAnswer { s with keeper := { s.keeper with otp := { o with revoked := setB o.revoked n true } } } p c (rspOk))

/-- The report of 14 Table 14.14 before its signature. -/
def attestReport (s : State) (nonce : List Byte) : List Byte :=
  let l := reportLane s
  let dig (b : List Byte) := (List.range 64).map (fun i => b.getD (0x20 + i) 0)
  let armed := if dbArmed s then s.keeper.safeId else none
  nonce ++ leBytes 8 Config.serial.val ++ leBytes 4 (bootStat s) ++ leBytes 4 s.scan.gen
    ++ dig (slotBlock s 1 (bootBank s)) ++ dig (slotBlock s 2 (bootBank s))
    ++ (List.range 64).map (fun i => (armed.getD ([], 0, 0)).1.getD i 0)
    ++ leBytes 8 (if rdL s R.TUM_STAT_PROG_VALID l = 1 then progIdOf s l else 0)
    ++ leBytes 4 (rd s R.DB_PARAM_ID_ID) ++ leBytes 4 (rd s R.LU_SCHED_ID_ID)
    ++ ([1, 2, 3, 4, 5].map (fun k => leBytes 4 (svnMin s k))).flatten ++ leBytes 1 (otpRevoked s)
    ++ leBytes 1 (modeCode s.modl.mode) ++ leBytes 2 0 ++ leBytes 8 s.time.tb2 ++ List.replicate 208 0

/-- ATTEST (R515): the signature is a free value. -/
def execAttest (p : Fin 4) (s : State) : Answer := whenLive s <|
  serve s p 0xB00 nKeeper false false (fun c =>
    if c.payload.length ≠ 32 then mbAnswer s p c (rspStatus 6)
    else
      let l := attestReport s c.payload
      let f := fresh s
      mbAnswer f.2 p c (rspOk ((l ++ (Config.attestSign f.1 l).toList).take (rspMax p.val))))

/-- CERT_GET (R515). -/
def execCertGet (p : Fin 4) (s : State) : Answer := whenLive s <|
  serveRead s p 0xB01 nKeeper (fun c =>
    if c.payload.length ≠ 1 ∨ 1 < leAt c.payload 0 1 then none else some (Config.certificate (leAt c.payload 0 1)))

/-- TOKEN_NONCE (R513): a new nonce, a free value. -/
def execTokenNonce (p : Fin 4) (s : State) : Answer := whenLive s <|
  serve s p 0xB10 nKeeper false false (fun c =>
    let f := fresh s
    let n := (Config.nonce f.1).toList
    mbAnswer { f.2 with keeper := { f.2.keeper with nonce := some (n, s.time.now) } } p c (rspOk n))

/-- TOKEN_LOAD (R513): a verified token of this module over the current nonce, which it consumes. -/
def execTokenLoad (p : Fin 4) (s : State) : Answer := whenLive s <|
  serve s p 0xB11 nKeeper false false (fun c =>
    match (if c.payload.length = 4 then object s (leAt c.payload 0 4) 5 else none) with
    | none => mbAnswer s p c (rspStatus 6)
    | some o =>
      let l := rbs s .keeperSram (stageAt 5) o.len
      let img := l.take (o.len - 512)
      let res := verifyImage s 5 img (l.drop (o.len - 512))
      let dur := leAt img 0x20 4
      if res ≠ 1 then mbAnswer s p c (rspStatus 0xA res)
      else if leAt img 0 4 ≠ 0x544B4E31 ∨ img.length < 40 ∨ dur < 60 ∨ 28800 < dur then mbAnswer s p c (rspStatus 6)
      else if leAt img 4 8 ≠ Config.serial.val ∨ s.keeper.nonce.map (·.1) ≠ some ((img.drop 0xC).take 16) then
        mbAnswer s p c (rspStatus 0xD)
      else
        let g := leAt img 0x1C 4 % 32
        mbAnswer { s with keeper := { s.keeper with nonce := none, token := some (g, dur, s.time.now) } } p c
          (rspOk (leBytes 4 g ++ leBytes 4 dur)))

end Sys2Proof.Machine
end

