-- ==== Sys2Proof/Machine/Registers.lean ====
section
/-!
DEFINITION. Register accesses without a row of their own (00 R15 to R18).
-/

namespace Sys2Proof.Machine

/-! ## Where a register stands for its reader or writer (01 R44 to R46, 14 R485, Tables 14.1 and 14.2) -/

/-- The fields of a register with the bank of the reader or writer and the bank of its RC fields. -/
structure RegPlace where
  rows : List (Row × Nat)
  bank : Nat
  rc   : Nat

/-- The register blocks of the lanes' map (Table 1.6). -/
def inBlocks (a : Nat) : Bool := decide (0x20000000 ≤ a ∧ a < 0x200A0000)

/-- The windows of the register blocks that hold entries of a memory: PS_WIN, HND_Q, FORCE_TAB and INST; STN_TAB and SLOT_TAB;
CAP_DATA; PARAM_WIN; and the copy of BOOT_STAT (Tables 2.7, 3.9, 5.12, 7.10, 9.4). -/
def inWindow (a : Nat) : Bool :=
  decide ((0x20031000 ≤ a ∧ a < 0x20040000) ∨ (0x20068000 ≤ a ∧ a < 0x20080000) ∨ (0x20022000 ≤ a ∧ a < 0x20024000)
    ∨ (0x20091000 ≤ a ∧ a < 0x20091400) ∨ a = 0x20040060)

/-- A lane-local register address: the lane's own blocks, or the blocks that all lanes share, where CAP_RD_IDX is each reader's own (09
R384). -/
def lanePlace (a lane_ rcLane rcCommon : Nat) : RegPlace :=
  let own := rowsAt .lane a
  if own.isEmpty then ⟨rowsAt .common a, if a = 0x20020108 then rcCommon else 0, rcCommon⟩ else ⟨own, lane_, rcLane⟩

/-- A register address of the Keeper's map; outside it, no field. -/
def keeperPlace (a : Nat) : RegPlace :=
  if 0x60000000 ≤ a ∧ a < 0x63000000 ∧ a % 0x1000000 < 0x100000 then
    let l := a / 0x1000000 - 0x60
    lanePlace (0x20000000 + a % 0x1000000) l (4 + l) 3
  else if 0x70008000 ≤ a ∧ a < 0x70009000 then ⟨rowsAt .lane (0x20000000 + (a - 0x70008000)), 3, 3⟩
  else if 0x70009000 ≤ a ∧ a < 0x7000A000 then ⟨rowsAt .lane (0x20010000 + (a - 0x70009000)), 3, 3⟩
  else if 0x70000000 ≤ a ∧ a < 0x70001000 then ⟨rowsAt .keeper (a + 0x10000000), 0, 0⟩
  else if 0x70001000 ≤ a ∧ a < 0x70010000 then ⟨rowsAt .keeper a, 0, 0⟩
  else ⟨[], 0, 0⟩

/-- The place of a register for reader or writer 0 to 2, a lane, or 3, the Keeper. -/
def regPlace (who a : Nat) : RegPlace :=
  if who = 3 then keeperPlace a else if inBlocks a then lanePlace a who who who else ⟨[], 0, 0⟩

/-- A bus error: an exception in a lane (R45), or one to the Keeper core (14 R485). -/
def busError (s : State) (who : Nat) : State :=
  match laneOf who with
  | some l => setLane s l (fun x => { x with busErrs := x.busErrs + 1 })
  | none => { s with keeper := { s.keeper with busErrs := s.keeper.busErrs + 1 } }

/-- A byte of a buffer window of a pair (Table 14.4). -/
def winByte (s : State) (off : Nat) : Byte :=
  let p := (off - 0x1000) / 0x1000
  let o := off % 0x1000
  let port : Fin 4 := if p = 0 then 0 else if p = 1 then 1 else if p = 2 then 2 else 3
  if o < 0x400 then rb s (.cmdBuf port) (1024 * rd s R.MB_WIN_CMD_PAGE 0 p + o)
  else rb s (.rspBuf port) (1024 * rd s R.MB_WIN_RSP_PAGE 0 p + (o - 0x400))

/-- The identity registers (15 Table 15.5): member, order code and hardware revision; the serial number. -/
def identWord (off : Nat) : Nat :=
  if off = 0 then 2 ^ 16 * 0x60 + 2 ^ 8 * orderByte + Config.hwRev.val
  else if off = 4 then Config.serial.val % 2 ^ 32 else Config.serial.val / 2 ^ 32

/-- The word that a window of a lane's register blocks shows (Tables 2.7, 3.9, 5.12, 7.10, 9.4). -/
def windowWord (s : State) (l : Lane) (a : Nat) : Nat :=
  if a = 0x20040060 then bootStat s
  else if 0x20022000 ≤ a ∧ a < 0x20024000 then r32 s .capData (a - 0x20022000)
  else if a < 0x20032000 then r32 s (.progStore l) (4096 * rdL s R.PS_PAGE_PAGE l + (a - 0x20031000))
  else if a < 0x20034000 then r32 s (.hndQ l) (a - 0x20032000)
  else if a < 0x20038000 then r32 s (.forceTab l) (a - 0x20034000)
  else if a < 0x20040000 then r32 s (.inst l) (a - 0x20038000)
  else if a < 0x20070000 then r32 s .stnTab (a - 0x20068000)
  else if a < 0x20080000 then r32 s .slotTab (a - 0x20070000)
  else r32 s .paramWin (a - 0x20091000)

/-- The memory with a whole range in it that a reader or a writer reaches in the lane's map (Table 1.6) or the Keeper's
(Table 14.1): the shared SRAM is written only by the writers of Table 1.2, the flash window only read (R24). -/
def memPlace (who a n : Nat) (write : Bool) : Option (Region × Nat) :=
  let inside (lo hi : Nat) : Bool := decide (lo ≤ a ∧ a + n ≤ hi)
  match laneOf who with
  | some l =>
    let own := 0x1040000 + 0x40000 * l.idx
    if inside 0 0x800000 then some (.laneSram l, a)
    else if (if write then inside own (own + 0x40000) else inside 0x1000000 0x1100000) then some (.shared, a - 0x1000000)
    else if inside 0x10000000 0x10050000 then some (.image l, a - 0x10000000)
    else none
  | none =>
    if inside 0 0x100000 then some (.keeperSram, a)
    else if inside (if write then 0x103C000 else 0x1000000) (if write then 0x1040000 else 0x1100000) then some (.shared, a - 0x1000000)
    else if inside 0x40000000 0x44000000 then some (.mram, a - 0x40000000)
    else if !write && inside 0x50000000 0x60000000 then some (.flash, a - 0x50000000)
    else none

/-- The lane whose blocks an address of a reader reaches, and the address in the lane's map. -/
def blockOf (who a : Nat) : Option (Lane × Nat) :=
  match laneOf who with
  | some l => if inBlocks a then some (l, a) else none
  | none =>
    if 0x60000000 ≤ a ∧ a < 0x63000000 ∧ a % 0x1000000 < 0x100000 then
      (laneOf (a / 0x1000000 - 0x60)).map (fun l => (l, 0x20000000 + a % 0x1000000))
    else none

/-- A register's value where it is computed: SPARE_STAT with the entry that maps its spare slot (Table 5.17). -/
def spareWord (s : State) (a : Nat) : Nat :=
  if 0x20064000 ≤ a ∧ a < 0x20064800 then
    match (spareSlots s)[(a - 0x20064000) / 4]? with
    | some slot => (spareTemplate s slot).getD 0 % 1024
    | none => 0
  else 0

/-- What the Keeper reads in its system control region beside the register fields (Table 14.2): identity, READY, the buffer
windows of the mailbox pairs. What stands at the OTP and the Ethernet MAC has no layout: a free value. -/
def systemWord (s : State) (a : Nat) : Nat :=
  if a < 0x7000000C then identWord (a - 0x70000000)
  else if a = 0x70002010 then ready s
  else if 0x70004000 ≤ a ∧ a < 0x70008000 ∧ a % 0x1000 < 0x800 then
    ofLe ((List.range 4).map (fun i => winByte s (a - 0x70003000 + i)))
  else if (0x70001000 ≤ a ∧ a < 0x70002000) ∨ 0x7000A000 ≤ a then (Config.freeWord s.free a).toNat
  else readWord s (keeperPlace a).rows 0 0

/-- A place of a lane's register blocks that a chapter lists: a register, or a window (02 to 09, 16: offsets not listed follow
R45). -/
def listed (a : Nat) : Bool := inWindow a || !(rowsAt .lane a).isEmpty || !(rowsAt .common a).isEmpty

/-- A place of the Keeper's system control region that Table 14.2 lists. -/
def systemListed (a : Nat) : Bool :=
  decide (a < 0x7000000C ∨ (0x70001000 ≤ a ∧ a < 0x70002000) ∨ a = 0x70002010 ∨ 0x7000A000 ≤ a)
    || decide (0x70004000 ≤ a ∧ a < 0x70008000 ∧ a % 0x1000 < 0x800) || !(keeperPlace a).rows.isEmpty

/-- A read of fields by their access codes; a check-value unit of engine `e` has reads of its own (16 R557, R558). -/
def fieldsRead (s : State) (who e a : Nat) (p : RegPlace) (extra : Nat) : State :=
  match (if 0x20010000 ≤ a ∧ a < 0x20010100 then cvuReadWord s e (a - 0x20010000) else none) with
  | some (t, v) => emit t (.read who v)
  | none => clearRc (emit s (.read who (readWord s p.rows p.bank p.rc + extra))) p.rows p.rc

/-- A register read (00 R15, R16, R18, 05 R258): the value is returned, the RC fields go back to their reset value for this reader
only; reserved bits read 0; an unlisted place is a bus error and reads 0 (R45, 14 R485). -/
def registerRead (s : State) (who a : Nat) : State :=
  let p := regPlace who a
  match blockOf who a with
  | some (l, b) =>
    if !listed b then emit (busError s who) (.read who 0)
    else if inWindow b then emit s (.read who (windowWord s l b))
    else fieldsRead s who l.idx b p (spareWord s b)
  | none =>
    if !systemListed a then emit (busError s who) (.read who 0)
    else if 0x70008000 ≤ a ∧ a < 0x7000A000 then fieldsRead s who 3 (0x20010000 + (a - 0x70009000)) p 0
    else clearRc (emit { s with free := s.free + 1 } (.read who (systemWord s a))) p.rows p.rc

/-- The access is to a register block as the map gives it: a whole aligned register (R46). -/
def wholeRegister (who a n : Nat) : Bool :=
  n == 4 && a % 4 == 0 && ((blockOf who a).isSome || (who == 3 && decide (0x70000000 ≤ a ∧ a < 0x70010000)))

/-- The number that `n` bytes of lane SRAM spell as a core's read delivers them (04 R160). -/
def sramNumber (s : State) (l : Lane) (o n : Nat) : Nat :=
  ofLe ((List.range n).map (fun i => (BitVec.ofNat 64 (eccRead s .sram l ((o + i) / 8) 0).data).extractLsb' (8 * ((o + i) % 8)) 8))

/-- A read of `n` bytes (R44 to R46); a word of lane SRAM is corrected and counted, or a bus error (04 R160). -/
def accRead (s : State) (who a n : Nat) : State :=
  match memPlace who a n false with
  | some (.laneSram l, o) =>
    (List.range ((o + n + 7) / 8 - o / 8)).foldl (fun t i => sramRead l t (o / 8 + i) 0) (emit s (.read who (sramNumber s l o n)))
  | some (.image l, o) =>
    (List.range ((o + n + 7) / 8 - o / 8)).foldl (fun t i => memRead .image l t (o / 8 + i)) (emit s (.read who (ofLe (rbs s (.image l) o n))))
  | some (r, o) => emit s (.read who (ofLe (rbs s r o n)))
  | none => if wholeRegister who a n then registerRead s who a else emit (busError s who) (.read who 0)

/-- A lane's image memory or its instance memory is read or written while its Tumbler pass runs: the access is held until the
pass ends (03 R110). -/
def passHolds (s : State) (who a : Nat) : Option Lane :=
  let img : Option Lane := if 0x10000000 ≤ a ∧ a < 0x10050000 then laneOf who else none
  let inst : Option Lane := match blockOf who a with
    | some (l, b) => if 0x20038000 ≤ b ∧ b < 0x20040000 then some l else none
    | none => none
  match (if img.isSome then img else inst) with
  | some l => if rdL s R.TUM_STAT_STATE l = 1 then some l else none
  | none => none

/-- An access held, or carried out. -/
def holdOr (s : State) (c : Access1) (go : State) : State :=
  match passHolds s c.who c.addr with
  | some l => setLane s l (fun x => { x with heldAcc := x.heldAcc ++ [c] })
  | none => go

/-- RC_FIELD_READ (00 R15, R18, 05 R258): a read at an address that is not listed, or of a register block not as a whole aligned
register, is a bus error and returns 0 (R45, R46, 14 R485). -/
def execRcFieldRead (reader : Fin 4) (a : Nat × AccWidth) (s : State) : Answer := whenCore s reader.val <|
  .next (holdOr s ⟨reader.val, false, a.1, a.2.bytes, 0⟩ (accRead s reader.val a.1 a.2.bytes))

/-! ## Writes (00 R15, R20, 05 R257) -/

/-- One field written: RW and RWS set the value where it lies in the field's range, RWS only in STOP and INIT; W1C clears the
bits written 1 that hardware has not set in the same clock (R17); RO and RC ignore the write (Table 0.3). A value outside the
range or steps that a field's table states leaves the field as it is, and a write of SCAN_PERIOD never changes COMMIT_OFS (DESIGN CHOICE,
log entry 96). -/
def writeField (s : State) (r : Row) (b i v : Nat) : State :=
  let f := bits v r.hi r.lo
  let may := decide (r.min ≤ f ∧ f ≤ r.max) && (!(r.id == R.LU_WIN_WACC_NS.id || r.id == R.CX_OUT_W_WLEN.id) || f % 4 == 0)
    && (r.id != R.COMMIT_OFS_OFS_US.id || decide (10 ≤ f ∧ f + 5 ≤ rd s R.SCAN_PERIOD_PERIOD_US b))
  let old := rd s r b i
  match r.acc with
  | .rw => if may then wr s r f b i else s
  | .rws => if may && stopLike s then wr s r f b i else s
  | .w1c => wr s r (old - Nat.land old (f - Nat.land f (Tab.get 0 s.clk.sets (regKey r b i)))) b i
  | _ => s

/-- Every field of a register written. -/
def writeRows (s : State) (p : RegPlace) (v : Nat) : State := p.rows.foldl (fun t e => writeField t e.1 p.bank e.2 v) s

/-- A write to a channel register of engine `e` (16 Table 16.9, R544 to R547, R554): EN from 0 to 1 starts the channel IDLE, EN
to 0 ends it; TRIG, CHAIN_SRC, TB_SEL, PRIO and DESC_HEAD stand while EN is 1; a write of T_NEXT lets a one-shot timer fire again;
LVL_CFG with HI ≤ LO is ignored. -/
def dmaWrite (s : State) (e off v : Nat) : State :=
  let q : RegPlace := ⟨rowsAt .lane (0x20000000 + off), e, e⟩
  if off < 0x100 then writeRows s q v
  else
    let n := (off - 0x100) / 0x40
    let en := rd s R.CH_CTRL_EN e n
    match (off - 0x100) % 0x40 with
    | 0x00 =>
      if en = 1 then if bitAt v 31 = 0 then chDisable s e n 0 else wr s R.CH_CTRL_PAUSE (bitAt v 30) e n
      else
        let t := writeRows s q v
        if bitAt v 31 = 1 then setCh t e n chIdle else t
    | 0x08 => if en = 1 then s else writeRows s q v
    | 0x28 => setDma (writeRows s q v) e n (fun x => { x with fired := false })
    | 0x30 => if bits v 31 16 ≤ bits v 15 0 then s else writeRows s q v
    | _ => writeRows s q v

/-- A core write to a register of a CVU of engine `e` (16 R558, R559). -/
def cvuRegWrite (s : State) (e off v : Nat) : State :=
  cvuWrite s e (off / 0x40) (fun t => cvuSync (writeRows t ⟨rowsAt .lane (0x20010000 + off), e, e⟩ v) e (off / 0x40))

/-- DEG_ALLOW written (04 R177): with three lanes admitted the remainder is the whole allowance, in a count the lesser of both. -/
def degAllowWrite (s : State) (l : Lane) (v : Nat) : State :=
  let t := writeRows s (regPlace l.idx 0x2005003C) v
  let n := 3600 * rdL t R.DEG_ALLOW_HOURS l
  wrL t R.DEG_REMAIN_SECONDS l (if (admittedLanes t).length = 3 then n else min n (rdL t R.DEG_REMAIN_SECONDS l))

/-- A lane's write to a common register is staged for the vote (R257, R331, R364, R384, R415): RW, RWS and WO fields, the
schedule tables and PARAM_WIN; DB_PRESP goes with the lane's Prism-path words (07 R300). TB_SNAP, CAP_RD_IDX and DB_RESP are not
voted and have rows of their own; lane writes to TB2_CTRL, TB2_ADJ and TB2_RATE are discarded. -/
def stageWrite (s : State) (l : Lane) (a v : Nat) : State :=
  let old := (lane s l).presp.getD (0, 0)
  if a = 0x20090010 then setLane s l (fun x => { x with presp := some (v, old.2) })
  else if a = 0x20090014 then setLane s l (fun x => { x with presp := some (old.1, v) })
  else if a = 0x2009000C ∨ a = 0x20020004 ∨ a = 0x20020108 ∨ (0x20020040 ≤ a ∧ a < 0x20020050) then s
  else if inWindow a || (rowsAt .common a).any (fun e => e.1.acc == .rw || e.1.acc == .rws || e.1.acc == .wo) then
    if 0x20022000 ≤ a ∧ a < 0x20024000 then s
    else setLane s l (fun x => { x with staged := x.staged ++ [⟨a, v⟩] })
  else s

/-- A word of FORCE_TAB and of INST written by a core: the reserved bits stay 0 (03 Tables 3.5 and 3.11). -/
def forceWord (s : State) (l : Lane) (o v : Nat) : State :=
  let m := if o % 16 / 4 = 0 then 0xFF03FFFF else 0xFFFFFFFF
  forceGenInc (forceCount (w32 s (.forceTab l) (o - o % 4) (Nat.land v m)) l) l
def instWord (s : State) (l : Lane) (o v : Nat) : State := instFix (w32 s (.inst l) (o - o % 4) v) l (o / 16)

/-- A whole register written by a lane's software at a lane-local address (R22 to R24, R44 to R46, 03 R126, R141). A register whose
write is a command of its own is left to that command. -/
def laneReg (s : State) (l : Lane) (a v : Nat) : State :=
  if !listed a then busError s l.idx
  else if a < 0x20010000 then dmaWrite s l.idx (a - 0x20000000) v
  else if a < 0x20020000 then cvuRegWrite s l.idx (a - 0x20010000) v
  else if 0x20034000 ≤ a ∧ a < 0x20038000 then forceWord s l (a - 0x20034000) v
  else if 0x20038000 ≤ a ∧ a < 0x20040000 then if stopLike s then instWord s l (a - 0x20038000) v else s
  else if a = 0x20030000 then
    if bitAt v 0 = 0 ∧ (stopLike s ∨ reloading s l) ∧ rdL s R.TUM_CTRL_LOAD_EN l = 1 then
      wrL (wrL s R.TUM_CTRL_LOAD_EN l 0) R.TUM_STAT_STATE l 0 else s
  else if a = 0x2005003C then degAllowWrite s l v
  else if 0x20060000 ≤ a ∨ a < 0x20030000 then stageWrite s l a v
  else writeRows s (regPlace l.idx a) v

/-- A whole register written by the Keeper (14 R485, Table 14.1): CAP_RD_IDX and TB2_ADJ are commands of their own; in the lane
windows it writes TB2_CTRL and TB2_RATE only (09 R384), within ±200,000 ppb; any other write to them, or to a place that is not
listed, is a bus error; the fields of the system control region act by their access codes. -/
def keeperReg (s : State) (a v : Nat) : State :=
  if 0x60000000 ≤ a ∧ a < 0x63000000 then
    let o := a % 0x1000000
    if o = 0x20040 ∨ (o = 0x20048 ∧ (toSigned 32 v).natAbs ≤ 200000) then writeRows s (keeperPlace a) v
    else if o = 0x20044 ∨ o = 0x20048 ∨ o = 0x20108 then s
    else busError s 3
  else if !systemListed a then busError s 3
  else if 0x70008000 ≤ a ∧ a < 0x70009000 then dmaWrite s 3 (a - 0x70008000) v
  else if 0x70009000 ≤ a ∧ a < 0x7000A000 then cvuRegWrite s 3 (a - 0x70009000) v
  else writeRows s (keeperPlace a) v

/-- A write of `n` bytes (R24, R44 to R46, 14 R485). -/
def accWrite (s : State) (who a n v : Nat) : State :=
  match memPlace who a n true with
  | some (r, o) => wKept s r o (leBytes n v)
  | none =>
    if wholeRegister who a n then
      match laneOf who with
      | some l => laneReg s l a (v % 2 ^ 32)
      | none => keeperReg s a (v % 2 ^ 32)
    else busError s who

/-- An access that came during a Tumbler pass is carried out at its end (03 R110). -/
def accDo (s : State) (c : Access1) : State := if c.write then accWrite s c.who c.addr c.bytes c.val else accRead s c.who c.addr c.bytes

/-- The accesses that a Tumbler pass has held complete in their order. -/
def releaseHeld (s : State) (l : Lane) : State :=
  (lane s l).heldAcc.foldl accDo (setLane s l (fun x => { x with heldAcc := [] }))

/-- A write by a lane's software, or held while its pass runs. -/
def laneWrite (s : State) (l : Lane) (a v : Nat) : State := holdOr s ⟨l.idx, true, a, 4, v⟩ (accWrite s l.idx a 4 v)

/-- REGISTER_WRITE (00 R15, R16, 01 R46): a write that is not a whole aligned register is a bus error. -/
def execRegisterWrite (writer : Fin 4) (addr : Nat) (v : BitVec 64) (w : AccWidth) (s : State) : Answer := whenCore s writer.val <|
  .next (holdOr s ⟨writer.val, true, addr, w.bytes, v.toNat⟩ (accWrite s writer.val addr w.bytes v.toNat))

end Sys2Proof.Machine
end

