-- ==== Sys2Proof/Machine/Bridge.lean ====
section
/-!
DEFINITION. The PCIe host bridge (chapter 15).
-/

namespace Sys2Proof.Machine

/-! ## The posted-error log (15 R531 to R535) -/

/-- The sticky PERR of every pair follows the log (R499, R535). -/
def pelSync (s : State) : State := allPorts.foldl (fun t p => wr t R.MB_STAT_PERR (b2n (perr t)) 0 p.val) s

/-- A read of PEL_POP (R531, R534): the oldest entry moves into PEL_ENT and the pop is counted; an empty log changes nothing. The
value read is returned. -/
def pelTake (s : State) : State × Nat :=
  match s.bridge.log with
  | [] => (s, 2 ^ 16 * s.bridge.pops)
  | x :: xs =>
    let n := (s.bridge.pops + 1) % 2 ^ 16
    let s1 := wr { s with bridge := { s.bridge with log := xs, pops := n } } R.PEL_STAT_COUNT xs.length
    let s2 := wr (wr s1 R.PEL_ENT0_ADDR_LO x.addr) R.PEL_ENT1_ADDR_HI (x.addr / 2 ^ 32)
    let s3 := wr (wr (wr (wr s2 R.PEL_ENT2_DIR (b2n x.out)) R.PEL_ENT2_CAUSE x.cause) R.PEL_ENT2_TAG x.tag) R.PEL_ENT2_BYTES x.bytes
    (pelSync (wr s3 R.PEL_ENT3_TB1 x.tb1), 2 ^ 16 * n + 2 ^ 15 + xs.length)

/-- A read completes: status 0 with its data, 1 Unsupported Request, 4 Completer Abort. -/
def complete (s : State) (status : Nat) (data : List Byte) : State := emit s (.completion status data)

/-- PEL_POP (R534). -/
def execPelPop (s : State) : Answer := whenLive s <| .next (let r := pelTake s; complete r.1 0 (leBytes 4 r.2))

/-! ## MSI-X (R521, R537) -/

/-- A vector is unmasked; held in its PBA bit, it is sent once (R537). -/
def unmask (s : State) (v : Nat) : State :=
  let t := { s with bridge := { s.bridge with masked := setB s.bridge.masked v false } }
  if bitAt s.bridge.pba v = 1 then msix { t with bridge := { t.bridge with pba := setB t.bridge.pba v false } } v else t

/-- MSIX_UNMASK (R537). -/
def execMsixUnmask (v : Fin 32) (s : State) : Answer := whenLive s <|
  .next (unmask (wb s .msixTab (16 * v.val + 12) (rb s .msixTab (16 * v.val + 12) &&& 0xFE)) v.val)

/-- The entry of a vector after a write of the table: bit 0 of its last word masks it. -/
def msixEntry (s : State) (v : Nat) : State :=
  if (rb s .msixTab (16 * v + 12)).getLsbD 0 then { s with bridge := { s.bridge with masked := setB s.bridge.masked v true } }
  else if bitAt s.bridge.masked v = 1 then unmask s v else s

/-! ## Inbound requests (R520 to R525) -/

/-- A request is cut into bursts that end at or before the next 256-byte-aligned address (R523). -/
def cutBursts : Nat → Nat → List (Option Byte) → List (Nat × List (Option Byte))
  | 0, _, _ => []
  | fuel + 1, off, l =>
    if l.isEmpty then []
    else
      let n := 256 - off % 256
      (off, l.take n) :: cutBursts fuel (off + n) (l.drop n)

/-- Offsets in CMD_WIN or RSP_WIN of a pair (Tables 1.7, 14.4). -/
def inMbWin (off : Nat) : Bool := decide (0x1000 ≤ off ∧ off < 0x5000 ∧ off % 0x1000 < 0x800)

/-- The MSI-X table, and the table with the PBA (Table 15.1). -/
def inMsixTab (off : Nat) : Bool := decide (0xC000 ≤ off ∧ off < 0xC200)
def inMsix (off : Nat) : Bool := inMsixTab off || decide (0xC800 ≤ off ∧ off < 0xC808)

/-- A request to a register location keeps R521: one aligned DW with every byte enabled; DW or QW in the MSI-X structures. -/
def regRequestOk (off len : Nat) (full : Bool) : Bool :=
  (full && len == 4 && decide (off % 4 = 0)) || (full && len == 8 && decide (off % 8 = 0) && inMsix off)

/-- The enabled bytes of a burst written from an offset up. -/
def putEnabled (s : State) (r : Region) (off : Nat) : List (Option Byte) → State
  | [] => s
  | none :: l => putEnabled s r (off + 1) l
  | some b :: l => putEnabled (wb s r off b) r (off + 1) l

/-- A burst performed, or the cause for which it cannot be (Table 15.2): `ok` says that the request keeps R521. -/
def hostBurst (s : State) (off : Nat) (data : List (Option Byte)) (ok : Bool) : State × Nat :=
  let v := ofLe (data.map (·.getD 0))
  if 0x2000 ≤ off ∧ off < 0x5000 then (s, 2)
  else if 0x1000 ≤ off ∧ off < 0x1400 then
    if rd s R.MB_STAT_OWNER 0 0 = 1 then (rcAdd s R.MB_CNT_WR_LOST 1 0, 5)
    else (putEnabled s (.cmdBuf 0) (1024 * rd s R.MB_WIN_CMD_PAGE 0 0 + (off - 0x1000)) data, 0)
  else if 0x1400 ≤ off ∧ off < 0x1800 then (s, 3)
  else if !ok then (s, 4)
  else if off = 0x1800 then (wr (wr s R.MB_WIN_RSP_PAGE (bits v 17 16) 0 0) R.MB_WIN_CMD_PAGE (bits v 1 0) 0 0, 0)
  else if off = 0x1804 then
    if bitAt v 0 = 1 then (ring s 0, if rd s R.MB_STAT_OWNER 0 0 = 1 then 5 else 0) else (s, 0)
  else if off = 0x8000 then (pelSync (if bitAt v 31 = 1 ∧ Tab.get 0 s.clk.sets (regKey R.PEL_STAT_OVF 0 0) = 0
      then wr s R.PEL_STAT_OVF 0 else s), 0)
  else if inMsixTab off then (msixEntry (putEnabled s .msixTab (off - 0xC000) data) ((off - 0xC000) / 16), 0)
  else (s, 3)

/-- A burst performed, its failure entered in the log (R532). -/
def hostWrite (s : State) (bar2 : Bool) (off : Nat) (data : List (Option Byte)) (ok : Bool) (tag : Nat) : State :=
  let r := if bar2 then (s, 1) else hostBurst s off data ok
  if r.2 = 0 then r.1
  else pelAppend r.1 ⟨(Config.barBase bar2).val + off, false, r.2, tag, data.length, tb1 s⟩

/-- The request lies in its BAR, and the link carries it. -/
def inBar (s : State) (bar2 : Bool) (off len : Nat) : Bool :=
  rd s R.BR_STAT_L0 == 1 && decide (off + len ≤ (if bar2 then 0x100000 else 0x10000)) && decide (1 ≤ len)

/-- PCIE_INBOUND_WRITE (R50, R487, R492, R521 to R523, R532): the write is cut and each burst performed or logged. -/
def execPcieInboundWrite (bar2 : Bool) (off : Nat) (data : List (Option Byte)) (tag : Fin 256) (s : State) : Answer := whenLive s <|
  .next (if inBar s bar2 off data.length then
      let ok := regRequestOk off data.length (data.all (·.isSome))
      (cutBursts data.length off data).foldl (fun t b => hostWrite t bar2 b.1 b.2 ok tag.val) s
    else s)

/-- The bytes of the MSI-X structures: the table with its mask bits as they stand, and the PBA. -/
def msixByte (s : State) (off : Nat) : Byte :=
  if 0xC800 ≤ off then (leBytes 8 s.bridge.pba).getD (off - 0xC800) 0
  else
    let b := rb s .msixTab (off - 0xC000)
    if off % 16 = 12 then (b &&& 0xFE) ||| BitVec.ofNat 8 (bitAt s.bridge.masked ((off - 0xC000) / 16)) else b

/-- A register of BAR0 read (Tables 14.4, 15.4 to 15.6): the identity is the module's own, READY is computed, PEL_POP pops, the
counts of MB_CNT clear (R487). -/
def hostRead (s : State) (off : Nat) : State × Nat :=
  if off = 0x10 then (s, ready s)
  else if off < 0xC then (s, identWord off)
  else if off = 0x8004 then pelTake s
  else
    let rows := rowsAt .keeper (if 0x1000 ≤ off ∧ off < 0x5000 then 0x70004000 + (off - 0x1000) else 0x80000000 + off)
    (clearRc s rows 0, readWord s rows 0 0)

/-- The data of a read in completions: the first ends at the next 64-byte boundary, later ones hold Max_Payload_Size (R524). -/
def cutCompletions (mps : Nat) : Nat → Nat → List Byte → List (List Byte)
  | 0, _, _ => []
  | fuel + 1, n, l => if l.isEmpty then [] else l.take n :: cutCompletions mps fuel mps (l.drop n)

/-- A read completes with its data. -/
def completeAll (s : State) (off : Nat) (l : List Byte) : State :=
  (cutCompletions (if Config.maxPayload256 then 256 else 128) l.length (64 - off % 64) l).foldl (fun t d => complete t 0 d) s

/-- PCIE_INBOUND_READ (R521 to R524, R530): BAR2 and the buffer windows give any bytes; a register location gives one DW or, where
the request breaks R521, a Completer Abort that is counted and has no side effect. -/
def execPcieInboundRead (bar2 : Bool) (off len : Nat) (fullBe : Bool) (s : State) : Answer := whenLive s <|
  .next (if !inBar s bar2 off len then s
    else if bar2 then completeAll s off (rbs s .bar2 off len)
    else if inMbWin off && inMbWin (off + len - 1) && decide (off / 0x1000 = (off + len - 1) / 0x1000) then
      completeAll s off ((List.range len).map (fun i => winByte s (off + i)))
    else if !regRequestOk off len fullBe then complete (wr s R.BR_STAT_CA_CNT (rd s R.BR_STAT_CA_CNT + 1)) 4 []
    else if inMsix off then complete s 0 ((List.range len).map (fun i => msixByte s (off + i)))
    else let r := hostRead s off; complete r.1 0 (leBytes 4 r.2))

/-- PCIE_UNSUPPORTED_REQUEST (R520): completed with Unsupported Request, no part of it performed. -/
def execPcieUnsupportedRequest (s : State) : Answer := whenLive s <| .next (if rd s R.BR_STAT_L0 = 1 then complete s 1 [] else s)

/-! ## The link (R519, R527) -/

/-- PCIE_LINK_UP (R519): the link reaches L0. -/
def execPcieLinkUp (speed : Fin 4) (width : Fin 3) (bme : Bool) (s : State) : Answer := whenLive s <|
  .next (wr (wr (wr (wr s R.BR_STAT_L0 1) R.BR_STAT_BME (b2n bme)) R.BR_STAT_SPEED speed.val) R.BR_STAT_WIDTH width.val)

/-- The outbound read of the Keeper engine's running channel ends with an error: of its data, or the read-back of what it wrote to the
host (16 R552). -/
def endOutboundRead (s : State) (n code : Nat) : State :=
  match (dmaCh s 3 n).desc with
  | some d =>
    if runCh s 3 ≠ some n then s
    else if hostSrc d then dmaFail s 3 n code true
    else if hostDst d then
      let r := dmaRun s 3 d (dmaCh s 3 n).moved d.len
      dmaFail (dmaShow (if r.2.2 then r.1 else dmaAppend r.1 3 d) 3 n d r.2.1) 3 n (if r.2.2 then 6 else code) true
    else s
  | none => s

/-- PCIE_RESET (R519): an FLR, a hot reset or a loss of the link resets the PCIe side alone: link and configuration, the MSI-X
table, outstanding outbound reads. -/
def execPcieReset (s : State) : Answer := whenLive s <|
  .next (let s1 := wr (wr (wr (wr s R.BR_STAT_L0 0) R.BR_STAT_BME 0) R.BR_STAT_SPEED 0) R.BR_STAT_WIDTH 0
    let s2 := clearMem { s1 with bridge := { s1.bridge with masked := 0xFFFFFFFF, pba := 0 } } .msixTab 0 512
    match runCh s2 3 with
    | some n => if (dmaCh s2 3 n).desc.any hostSrc || chState s2 3 n == chReadback then endOutboundRead s2 n 6 else s2
    | none => s2)

/-- OUTBOUND_READ_TIMEOUT (R527): 50 ms after the read, so at the earliest after its descriptor's fetch, the channel ends with error
0x0A. -/
def execOutboundReadTimeout (ch : Fin 16) (s : State) : Answer := whenLive s <|
  .next (if (dmaCh s 3 ch.val).since + 50000000 ≤ s.time.now then endOutboundRead s ch.val 0xA else s)

end Sys2Proof.Machine
end

