-- ==== Sys2Proof/Machine/Hinge.lean ====
section
/-!
DEFINITION. The Hinge window (chapter 18).
-/

namespace Sys2Proof.Machine

/-! ## The lagged registers (18 R599, R600, R604) -/

/-- HB_MODE as it stands (Table 18.3). -/
def hbMode (s : State) : Nat :=
  let w := Tab.get 0 s.scan.snap 24
  2 ^ 12 * modeCode s.modl.mode + 2 ^ 8 * bits w 31 28 + 2 ^ 7 * bitAt w 27 + 2 ^ 6 * bitAt w 25
    + 2 ^ 5 * rdL s R.TUM_STAT_FACK_PEND (reportLane s) + 2 ^ 4 * b2n (decide ((admittedLanes s).length < 3))

/-- The high and low halves of a 32-bit value at two registers. -/
def split2 (a v : Nat) : List (Nat × Nat) := [(a, bits v 31 16), (a + 1, bits v 15 0)]

/-- The image windows out of one half of the mirror (R600); `sel` is IMG_SEL, and their keys are 256 × IMG_SEL + address. -/
def hbImage (s : State) (sel : Nat) : List (Nat × Nat) :=
  let b := if sel = 1 then mirrorOut else mirrorIn
  (List.range 64).map (fun i => (256 * sel + 0x80 + i, 256 * (rb s .bar2 (b + 0x200 + 2 * i)).toNat + (rb s .bar2 (b + 0x201 + 2 * i)).toNat))
    ++ (List.range 32).flatMap (fun i => split2 (256 * sel + 0xC0 + 2 * i) (r32 s .bar2 (b + 0x8000 + 4 * (256 + i))))

/-- The lagged registers filled from the last commit. -/
def hbCopy (s : State) : Tab Nat :=
  let l := reportLane s
  let id := progIdOf s l
  (((0x10, hbMode s) :: split2 0x11 s.scan.gen) ++ split2 0x13 (ready s) ++ [(0x15, bits (Tab.get 0 s.scan.snap 25) 31 16)]
    ++ split2 0x16 (rdL s R.FORCE_GEN_GEN l) ++ split2 0x18 (id / 2 ^ 32) ++ split2 0x1A id ++ hbImage s 0 ++ hbImage s 1).foldl
      (fun (t : Tab Nat) (e : Nat × Nat) => Tab.put 0 t e.1 e.2) []

/-- A register of a copy. -/
def lagged (c : Option (Tab Nat)) (k : Nat) : Nat := match c with | some t => Tab.get 0 t k | none => 0

/-- HINGE_REFRESH (R599): after a commit the copy filled at the commit before is shown, and the other is filled. -/
def execHingeRefresh (s : State) : Answer := whenLive s <|
  .next (let h := s.hinge
    let seen := match h.filled with | some _ => lagged h.filled 0x11 * 2 ^ 16 + lagged h.filled 0x12 == s.scan.gen | none => false
    if s.keeper.hinge && keeperUp s && s.scan.committed && !seen then
      { s with hinge := { h with shown := h.filled, filled := some (hbCopy s) } }
    else s)

/-! ## Commands (18 R601, R602, Table 18.4) -/

/-- ARMED follows the strike sequence. -/
def setArmed (s : State) (t : Option Nat) : State :=
  wr { s with hinge := { s.hinge with armedAt := t } } R.HB_LIVE_ARMED (b2n t.isSome)

/-- A mailbox command of pair 3 with its header (14 Table 14.5). -/
def hbCommand (s : State) (op : Nat) (payload : List Byte) : State :=
  let h := leBytes 2 0x4B4D ++ leBytes 1 1 ++ leBytes 1 0 ++ leBytes 2 s.hinge.seq ++ leBytes 2 op ++ leBytes 4 payload.length
  mbArrive { s with hinge := { s.hinge with seq := (s.hinge.seq + 1) % 2 ^ 16 } } 3 0
    (h ++ leBytes 4 (crc32c (h ++ payload)) ++ payload)

/-- ARG[i]. -/
def hbArg (s : State) (i : Nat) : Nat := s.hinge.args.getD i 0

/-- PROG_ID and FORCE_GEN as the host saw them one scan late. -/
def hbPid (s : State) : List Byte :=
  leBytes 2 (lagged s.hinge.shown 0x1B) ++ leBytes 2 (lagged s.hinge.shown 0x1A) ++ leBytes 2 (lagged s.hinge.shown 0x19)
    ++ leBytes 2 (lagged s.hinge.shown 0x18)
def hbGen (s : State) : List Byte := leBytes 2 (lagged s.hinge.shown 0x17) ++ leBytes 2 (lagged s.hinge.shown 0x16)

/-- The type of a variable in the map of the program in use, 0 where the map holds none at the address. -/
def hbType (s : State) (word : Bool) (addr : Nat) : Nat :=
  match (lane s (reportLane s)).prog.vars.find? (fun v => v.kind == word && v.addr == addr) with
  | some v => v.type
  | none => 0

/-- One entry of FORCE_SET. -/
def hbForce (s : State) (word : Bool) (addr value : Nat) : State :=
  hbCommand s 0x310 (hbPid s ++ (ForceEnt.mk true false word (hbType s word addr) addr value 0).bytes)

/-- The command of a code (Table 18.4); any other code is answered UNKNOWN in CMD_STAT. -/
def hbIssue (s : State) (code : Nat) : State :=
  match code with
  | 0x0001 => hbCommand s 0x200 (leBytes 1 1)
  | 0x0002 => hbCommand s 0x200 (leBytes 1 2)
  | 0x0003 => hbCommand s 0x201 []
  | 0x0010 => hbForce s false (2 ^ 16 * (hbArg s 0 % 4) + hbArg s 1) (hbArg s 2 % 2)
  | 0x0011 => hbForce s true (hbArg s 0) (2 ^ 16 * hbArg s 1 + hbArg s 2)
  | 0x0012 => hbCommand s 0x311 (hbPid s ++ leBytes 4 (2 ^ 31 * bitAt (hbArg s 0) 15 + 2 ^ 16 * (hbArg s 0 % 4) + hbArg s 1))
  | 0x0013 => hbCommand s 0x311 (hbPid s ++ leBytes 4 0xFFFFFFFF)
  | 0x0014 => hbCommand s 0x313 (hbPid s ++ hbGen s)
  | 0x0020 => hbCommand s 0x801 (leBytes 2 (hbArg s 3) ++ leBytes 2 (hbArg s 2) ++ leBytes 2 (hbArg s 1) ++ leBytes 2 (hbArg s 0)
      ++ leBytes 1 (rd s R.TB2_CTRL_UTC_OFS))
  | 0x007F => ring s 3
  | _ => wr (wr (wr (wr s R.CMD_STAT_BUSY 0) R.CMD_STAT_DONE 1) R.CMD_STAT_STATUS 5) R.CMD_STAT_REASON 0

/-- The second write of the strike sequence (R601, R602): armed and within 100 µs it is a strike, which is discarded and counted
while BUSY = 1 or KREADY = 0, and otherwise issues its command. -/
def hbStrike (s : State) : State :=
  let t := setArmed s none
  match s.hinge.armedAt with
  | none => t
  | some a =>
    if a + 100000 < s.time.now then t
    else if rd s R.CMD_STAT_BUSY = 1 ∨ !keeperUp s then hingeCount t 0x22
    else hbIssue (wr (wr t R.CMD_STAT_BUSY 1) R.CMD_STAT_DONE 0) s.hinge.code

/-- The window answers (R592). -/
def hbOn (s : State) : Bool := s.keeper.hinge && !s.modl.rst

/-- An access is presented (R594): one that comes within 1 µs of the start of the previous one waits, and is counted. -/
def hbAccess (s : State) : State :=
  let early := s.hinge.lastAt.any (fun t => decide (s.time.now < t + 1000))
  let t := if early then hingeCount s 0x24 else s
  { t with hinge := { t.hinge with lastAt := some s.time.now } }

/-- A strike of one code. -/
def hbStrikeOf (code : Nat) (s : State) : Answer := .next (if hbOn s && s.hinge.code == code then hbStrike (hbAccess s) else s)

/-- HINGE_STRIKE_ARM (R601). -/
def execHingeStrikeArm (s : State) : Answer := whenLive s <| .next (if hbOn s then setArmed (hbAccess s) (some s.time.now) else s)

/-- HINGE_STRIKE_TIMEOUT (R601). -/
def execHingeStrikeTimeout (s : State) : Answer := whenLive s <|
  .next (match s.hinge.armedAt with
    | some a => if a + 100000 < s.time.now then setArmed s none else s
    | none => s)

/-- HINGE_STOP: MODE_SET, mode 0x1. -/
def execHingeStop (s : State) : Answer := whenLive s <| hbStrikeOf 0x0001 s
/-- HINGE_RUN: MODE_SET, mode 0x2. -/
def execHingeRun (s : State) : Answer := whenLive s <| hbStrikeOf 0x0002 s
/-- HINGE_FAULT_ACK: FAULT_ACK. -/
def execHingeFaultAck (s : State) : Answer := whenLive s <| hbStrikeOf 0x0003 s
/-- HINGE_FORCE_POINT: FORCE_SET of one point. -/
def execHingeForcePoint (s : State) : Answer := whenLive s <| hbStrikeOf 0x0010 s
/-- HINGE_FORCE_WORD: FORCE_SET of one word. -/
def execHingeForceWord (s : State) : Answer := whenLive s <| hbStrikeOf 0x0011 s
/-- HINGE_FORCE_CLEAR: FORCE_CLEAR of one address. -/
def execHingeForceClear (s : State) : Answer := whenLive s <| hbStrikeOf 0x0012 s
/-- HINGE_FORCE_CLEAR_ALL: FORCE_CLEAR of all. -/
def execHingeForceClearAll (s : State) : Answer := whenLive s <| hbStrikeOf 0x0013 s
/-- HINGE_FORCE_ACK: FORCE_ACK with the lagged FORCE_GEN. -/
def execHingeForceAck (s : State) : Answer := whenLive s <| hbStrikeOf 0x0014 s
/-- HINGE_TIME_SET: TIME_SET with the current UTC_OFS. -/
def execHingeTimeSet (s : State) : Answer := whenLive s <| hbStrikeOf 0x0020 s
/-- HINGE_TUNNEL_SEND (R603): the command buffer as written. -/
def execHingeTunnelSend (s : State) : Answer := whenLive s <| hbStrikeOf 0x007F s
/-- HINGE_UNKNOWN_CODE: any code that Table 18.4 does not list. -/
def execHingeUnknownCode (s : State) : Answer := whenLive s <|
  .next (if hbOn s && !([0x1, 0x2, 0x3, 0x10, 0x11, 0x12, 0x13, 0x14, 0x20, 0x7F] : List Nat).contains s.hinge.code
    then hbStrike (hbAccess s) else s)

/-- HINGE_RESPONSE (R602): STATUS, REASON and RSP are written, DONE set and BUSY cleared in one step. -/
def execHingeResponse (s : State) : Answer := whenLive s <|
  .next (match s.hinge.answer with
    | some (st, reason, gen) =>
      wr (wr (wr (wr { s with hinge := { s.hinge with answer := none, rsp := gen } } R.CMD_STAT_BUSY 0) R.CMD_STAT_DONE 1)
        R.CMD_STAT_STATUS st) R.CMD_STAT_REASON reason
    | none => s)

/-! ## Accesses (18 R593 to R598, R603) -/

/-- A write of TUN_DATA (R603), discarded and counted while BUSY = 1 (R602). -/
def tunWrite (s : State) (d : Nat) : State :=
  if rd s R.CMD_STAT_BUSY = 1 then hingeCount s 0x23
  else
    let p := rd s R.TUN_PTR_PTR
    wr (wb (wb s (.cmdBuf 3) p (BitVec.ofNat 8 (d / 256))) (.cmdBuf 3) (p + 1) (BitVec.ofNat 8 d)) R.TUN_PTR_PTR (p + 2)

/-- What leaves on HB_D. -/
def hbData (s : State) (v : Nat) : State := emit s (.hinge (v % 2 ^ 16))

/-- A read of TUN_DATA (R603). -/
def tunRead (s : State) : State :=
  let p := rd s R.TUN_PTR_PTR
  wr (hbData s (256 * (rb s (.rspBuf 3) p).toNat + (rb s (.rspBuf 3) (p + 1)).toNat)) R.TUN_PTR_PTR (p + 2)

/-- A register of the window without the effects of a read: lagged ones from the copy shown, by IMG_SEL for the images. -/
def hbValue (s : State) (a : Nat) : Nat :=
  if a = 0x00 then 0x1C40
  else if a = 0x01 then 0x0401
  else if a = 0x02 then rd s R.HB_CTRL_IMG_SEL
  else if a = 0x03 then 2 ^ 15 * b2n (keeperUp s) + 2 ^ 14 * b2n s.hinge.armedAt.isSome
  else if a = 0x04 then 2 ^ 15 * rd s R.CMD_STAT_BUSY + 2 ^ 14 * rd s R.CMD_STAT_DONE + 2 ^ 8 * rd s R.CMD_STAT_STATUS + rd s R.CMD_STAT_REASON
  else if a = 0x06 then rd s R.TUN_PTR_PTR
  else if 0x20 ≤ a ∧ a ≤ 0x24 then hingeSeen s a
  else if a = 0x26 then hingeSeen s 0x26 / 2 ^ 16
  else if a = 0x40 then s.hinge.code
  else if 0x41 ≤ a ∧ a ≤ 0x47 then hbArg s (a - 0x41)
  else if a = 0x48 then s.hinge.rsp / 2 ^ 16 % 2 ^ 16
  else if 0x10 ≤ a ∧ a ≤ 0x1B then if keeperUp s then lagged s.hinge.shown a else 0
  else if 0x80 ≤ a then if keeperUp s then lagged s.hinge.shown (256 * rd s R.HB_CTRL_IMG_SEL + a) else 0
  else 0

/-- How many lower registers follow the highest register of a split value. -/
def splitTail (a : Nat) : Nat :=
  if a = 0x18 then 3
  else if a = 0x11 ∨ a = 0x13 ∨ a = 0x16 ∨ a = 0x26 ∨ a = 0x48 ∨ (0xC0 ≤ a ∧ a % 2 = 0) then 1 else 0

/-- A lower register of a split value. -/
def isLower (a : Nat) : Bool :=
  decide ((0x19 ≤ a ∧ a ≤ 0x1B) ∨ a = 0x12 ∨ a = 0x14 ∨ a = 0x17 ∨ a = 0x27 ∨ a = 0x49 ∨ (0xC0 ≤ a ∧ a % 2 = 1))

/-- The part of a split value that a lower register shows. -/
def lowerPart (s : State) (a : Nat) : Nat :=
  if a = 0x27 then hingeSeen s 0x26 % 2 ^ 16 else if a = 0x49 then s.hinge.rsp % 2 ^ 16 else hbValue s a

/-- A read of a highest register latches the lower parts into the shadow of its value (R597). -/
def latchShadow (s : State) (a : Nat) : State :=
  { s with hinge := { s.hinge with shadow :=
      (List.range (splitTail a)).foldl (fun t i => Tab.put 0 t (a + 1 + i) (lowerPart s (a + 1 + i))) s.hinge.shadow } }

/-- What a read of a lower register returns: its shadow; 0 of a lagged value while the Keeper does not serve (R597, R604). -/
def lowerShown (s : State) (a : Nat) : Nat :=
  if !keeperUp s && (decide (a < 0x20) || decide (0x80 ≤ a)) then 0 else Tab.get 0 s.hinge.shadow a

/-- A read of the window: shadows for lower registers, counts cleared, TUN_DATA moving its pointer. -/
def hbRead (s : State) (a : Nat) : State :=
  if a = 0x07 then tunRead s
  else
    let t := latchShadow (hbData s (if isLower a then lowerShown s a else hbValue s a)) a
    if (0x20 ≤ a ∧ a ≤ 0x24) ∨ a = 0x26 then hingeClear t a else t

/-- A write of the window (R596, R601, R602): every write but the second of the sequence disarms it. -/
def hbWrite (s : State) (a d : Nat) : State :=
  if a = 0x05 then
    if d = 0x0055 then setArmed s (some s.time.now) else if d = 0x00AA then hbStrike s else setArmed s none
  else
    let t := setArmed s none
    let busy : Bool := rd s R.CMD_STAT_BUSY == 1
    if a = 0x02 then wr t R.HB_CTRL_IMG_SEL (d % 2)
    else if a = 0x06 then wr t R.TUN_PTR_PTR (d % 2 ^ 12 / 2 * 2)
    else if a = 0x07 then tunWrite t d
    else if a = 0x40 then if busy then hingeCount t 0x23 else { t with hinge := { t.hinge with code := d } }
    else if 0x41 ≤ a ∧ a ≤ 0x47 then
      if busy then hingeCount t 0x23
      else { t with hinge := { t.hinge with args := (List.range 7).map (fun i => if i = a - 0x41 then d else hbArg s i) } }
    else hingeCount t 0x23

/-- HINGE_ACCESS (R592 to R597): an access with exactly one strobe low, a write or a read; with both or neither low none takes place. -/
def execHingeAccess (oe we : Bool) (a : Byte) (d : BitVec 16) (s : State) : Answer := whenLive s <|
  .next (if !hbOn s ∨ oe = we then s
    else if we then hbWrite (hbAccess s) a.toNat d.toNat
    else hbRead (hbAccess s) a.toNat)

/-- HINGE_SPLIT_HIGH_READ (R597). -/
def execHingeSplitHighRead (a : Byte) (s : State) : Answer := whenLive s <|
  .next (if hbOn s && decide (1 ≤ splitTail a.toNat) then hbRead (hbAccess s) a.toNat else s)

/-- FCS_HI_READ (R598). -/
def execFcsHiRead (s : State) : Answer := whenLive s <| .next (if hbOn s then hbRead (hbAccess s) 0x26 else s)

/-- TUN_DATA_WRITE (R603): as every other write, it disarms the strike. -/
def execTunDataWrite (d : BitVec 16) (s : State) : Answer := whenLive s <| .next (if hbOn s then hbWrite (hbAccess s) 0x07 d.toNat else s)

/-- TUN_DATA_READ (R603). -/
def execTunDataRead (s : State) : Answer := whenLive s <| .next (if hbOn s then hbRead (hbAccess s) 0x07 else s)

end Sys2Proof.Machine
end

