-- ==== Sys2Proof/Machine/Requests.lean ====
section
/-!
DEFINITION. Requests in the lanes: their checks, verdicts and effects (01 R34 to R36, chapters 3 to 7, 10, 13).
-/

namespace Sys2Proof.Machine

/-! ## Checks of a schedule object (05 R211 to R217, Table 5.7) -/

/-- Step 2: the ranges of Tables 5.13 and 5.14. LU_WIN 250, its default, is no multiple of 4 and is refused in an object (DESIGN CHOICE, log
entry 147). -/
def SchedObj.rangesOk (o : SchedObj) : Bool :=
  let t := o.timers
  o.lenOk && o.hdrOk && decide (125 ≤ o.cycle ∧ o.cycle ≤ 16000) && decide (100 ≤ o.win ∧ o.win ≤ 400 ∧ o.win % 4 = 0)
    && decide (1 ≤ o.cnt ∧ o.cnt ≤ 4096) && decide (bits o.ctrl 5 4 ≠ 0) && decide (1 ≤ bits t 31 24)
    && decide (2 ≤ bits t 19 16) && decide (1 ≤ bits t 11 8) && decide (2 ≤ bits t 5 0)

/-- The coldstart nodes of LU_COLD, and step 3. -/
def coldOf (w : Nat) : List Nat := ([w % 2 ^ 10, bits w 19 10, bits w 29 20] : List Nat).take (bits w 31 30)
def ascending : List Nat → Bool
  | a :: b :: l => decide (a < b) && ascending (b :: l)
  | _ => true

/-- Item 2 of R211: starts rise, slots do not overlap, the last ends within the cycle. -/
def startsOk (tc : Nat) : List SlotEnt → Bool
  | [] => true
  | [a] => decide (a.start + a.slen ≤ tc)
  | a :: b :: l => decide (a.start < b.start ∧ a.start + a.slen ≤ b.start) && startsOk tc (b :: l)

/-- Step 4: item 1 of R211, then item 2. -/
def SchedObj.slotsOk (o : SchedObj) : Bool :=
  o.slotOk && o.slots.all (fun e => decide (e.kind ≤ 2)) && (o.slots.head?.any (fun e => e.kind == 0 && e.start == 0 && e.dir && !e.dn
      && e.owner == 0 && e.plen == 128))
    && o.slots.tail.all (fun e => e.kind != 0) && startsOk (1000 * o.cycle) o.slots

/-- Item 3 of R211: every slot holds its frame with both margins, a slot of a burst its frame alone. -/
def lensOk (win : Nat) : List SlotEnt → Bool
  | [] => true
  | a :: l =>
    let burst := match l with
      | b :: _ => b.start == a.start + a.slen && a.kind == 1 && b.kind == 1 && b.owner == a.owner && b.dir == a.dir && b.dn == a.dn
      | [] => false
    decide (wireNs a.plen + (if burst then 0 else 2 * win) ≤ a.slen) && lensOk win l

/-- Step 5. -/
def SchedObj.lengthsOk (o : SchedObj) : Bool :=
  o.slots.all (fun e => decide (1000 ≤ e.slen ∧ e.slen ≤ 65535 ∧ 8 ≤ e.plen ∧ e.plen ≤ 1024)) && lensOk o.win o.slots
    && o.slots.head?.any (fun e => decide (wireNs 128 + ((coldOf o.cold).length - 1) * 1000 + 2 * o.win ≤ e.slen))

/-- Step 6: items 5 and 6 of R211. -/
def SchedObj.phasesOk (o : SchedObj) : Bool :=
  o.slots.any (·.dn) && (o.slots.dropWhile (fun e => !e.dn)).all (·.dn)
    && o.slots.all (fun e => !e.dn || (e.kind == 1 && e.dir && e.owner == 0))
    && o.slots.all (fun e => e.kind != 2 || (!e.dir && !e.dn && decide (16 ≤ e.plen)))
    && decide ((o.slots.filter (fun e => e.kind == 2)).length ≤ 512)

/-- SCHED_ID (R215). -/
def SchedObj.schedId (o : SchedObj) (b : List Byte) : Nat :=
  crc32c (leBytes 4 o.cycle ++ leBytes 4 o.win ++ leBytes 4 o.cold ++ (b.drop 64).take (16 * o.cnt))

/-- The entries with EN = 1 and their node IDs. -/
def SchedObj.used (o : SchedObj) : List (StnEnt × Nat) := o.stns.zipIdx.filter (·.1.en)

/-- Step 8: R213 and R214. -/
def SchedObj.stationsOk (o : SchedObj) : Bool :=
  o.stnOk && o.used.all (fun x =>
    let e := x.1
    match o.slots[e.inSlot]? with
    | none => false
    | some i =>
      (if e.spare then i.kind == 2 && !(o.slots.any (fun q => q.kind == 1 && !q.dn && q.owner == x.2))
        else i.kind == 1 && !i.dn && !i.dir && i.owner == x.2)
      && e.inDlen + e.inWlen == i.plen && e.inWlen % 4 == 0 && e.outWlen % 4 == 0
      && (e.outDlen + e.outWlen == 0 ||
        (match o.slots[e.outSlot]? with
         | some q => q.dn && decide (e.outPos + e.outDlen + e.outWlen ≤ q.plen)
         | none => false)))
  && disjointAll ((o.used.filter (fun x => x.1.outDlen + x.1.outWlen != 0)).map (fun x =>
      (2048 * x.1.outSlot + x.1.outPos, x.1.outDlen + x.1.outWlen)))

/-- Step 9: the areas lie in the images, outside the fixed regions, and do not overlap (R70). -/
def SchedObj.areasOk (o : SchedObj) : Bool :=
  let as := o.used.flatMap (fun x => stnAreas x.1 false ++ stnAreas x.1 true)
  as.all areaFree && disjointAll as

/-- The aligned 8-byte words that hold some areas (R170). -/
def voteOffsets (as : List (Nat × Nat)) : List Nat :=
  (as.flatMap (fun a => (List.range ((a.1 + a.2 + 7) / 8 - a.1 / 8)).map (fun i => 8 * (a.1 / 8 + i)))).eraseDups

/-- The three vote words of DIO_OUT, RFX_ARM and the Deadbolt command word (R170, Tables 7.3 and 8.2). -/
def localWords : List Nat := [8, 40, 96]

/-- The first failing code of Table 5.7; 0 is a pass. `id` is the request's SCHED_ID. -/
def schedCheck (s : State) (l : Lane) (b : List Byte) (id : Nat) : Nat :=
  let o := schedObj b
  if !(s.modl.mode == .stop || s.modl.mode == .init) then 0x5B
  else if rdL s R.SCAN_CTRL_SRC l = 1 then (if bitAt o.ctrl 0 = 1 then 0x5C else 0x5B)
  else if !o.rangesOk then 0x50
  else if coldOf o.cold = [] ∨ !ascending (coldOf o.cold) then 0x5A
  else if !o.slotsOk then 0x51
  else if !o.lengthsOk then 0x52
  else if !o.phasesOk then 0x53
  else if o.schedId b ≠ id ∨ o.id ≠ id then 0x56
  else if !o.stationsOk then 0x58
  else if !o.areasOk then 0x57
  else if 4096 < (localWords ++ voteOffsets (o.used.flatMap (fun x => stnAreas x.1 true))).eraseDups.length then 0x59
  else if 1024 < (o.used.filter (fun x => !x.1.spare)).length ∨ 512 < (o.used.filter (·.1.spare)).length then 0x54
  else 0

/-! ## Configuration contents (14 Table of CFG_SET, 10 R414, 17 R570) -/

/-- The register writes that a configuration content holds: address and value, in order. -/
def cfgWords (c : List Byte) : List (Nat × Nat) :=
  (List.range (c.length / 8)).map (fun i => (leAt c (8 * i) 4, leAt c (8 * i + 4) 4))

/-- A register of the lanes' own blocks written in every lane. -/
def cfgLane (s : State) (a v : Nat) : State :=
  Lane.all.foldl (fun t l => if a = 0x2005003C then degAllowWrite t l v else writeRows t (regPlace l.idx a) v) s

/-- A common register: field I/O and time unit, whose writes a commit carries. -/
def cfgCommon (sect a : Nat) : Bool :=
  if sect = 2 then decide (0x20080000 ≤ a ∧ a < 0x20082000) else decide (0x20020000 ≤ a ∧ a < 0x20022000)

/-- One pair of a content of section 0x01: scan settings with FLT_CFG and DEG_ALLOW, the substitute planes in lane SRAM, and
the retained map, whose addresses have 0xF in their top nibble: kind, start, and the length as the value. -/
def cfgScan (s : State) (a v : Nat) : State :=
  if 0xF0000000 ≤ a then
    { s with scan := { s.scan with retained := (s.scan.retained ++ [(bits a 27 24, a % 2 ^ 24, v)]).take 32 } }
  else if a < 0x800000 then Lane.all.foldl (fun t l => w32 t (.laneSram l) (a - a % 4) v) s
  else if (0x20040000 ≤ a ∧ a < 0x20043000) ∨ a = 0x2005003C then cfgLane s a v
  else s

/-- The substitute planes of every lane cleared: any point that the configuration does not set is 0 (02 R83). -/
def substClear (s : State) : State := Lane.all.foldl (fun t l => clearMem t (.laneSram l) (substBase t l) 0x18000) s

/-- An accepted content of a section written, but for the common registers, which the commit writes. In section 0x01 the registers
come first, for SUBST_BASE places the planes. -/
def cfgApply (s : State) (sect : Nat) (c : List Byte) : State :=
  match sect with
  | 1 =>
    let regs := (cfgWords c).filter (fun e => decide (0x800000 ≤ e.1))
    let subst := (cfgWords c).filter (fun e => decide (e.1 < 0x800000))
    let t := regs.foldl (fun t (e : Nat × Nat) => cfgScan t e.1 e.2) { s with scan := { s.scan with retained := [] } }
    subst.foldl (fun t (e : Nat × Nat) => cfgScan t e.1 e.2) (substClear t)
  | 3 => (cfgWords c).foldl (fun t (e : Nat × Nat) =>
      if 0x20043000 ≤ e.1 ∧ e.1 < 0x20043080 then cfgLane t e.1 e.2 else t) s
  | 4 =>
    let t := (cfgWords c).foldl (fun t (e : Nat × Nat) =>
      if 0x20043080 ≤ e.1 ∧ e.1 < 0x20043100 then cfgLane t e.1 e.2 else t) s
    wrAll t R.CX_STAT_MASTER (b2n (cxOn t && cxPos t == 0))
  | _ => s

/-- A content of sections 0x03 and 0x04 as it spells the registers of every lane, ranges not regarded: what Table 10.4 is checked
on. -/
def cfgTrial (s : State) (sect : Nat) (c : List Byte) : State :=
  let base := if sect = 3 then 0x20043000 else 0x20043080
  (cfgWords c).foldl (fun t (e : Nat × Nat) =>
    if base ≤ e.1 ∧ e.1 < base + 0x80 then
      (rowsAt .lane e.1).foldl (fun u r =>
        if r.1.acc == .rw || r.1.acc == .rws then wrAll u r.1 (bits e.2 r.1.hi r.1.lo) r.2 else u) t
    else t) s

/-- The common register writes that an accepted content makes: those of sections 0x02 and 0x05, and HASP_CTRL.PAIR and PREF of a
pair configuration. -/
def cfgWrites (s : State) (sect : Nat) (c : List Byte) : List StagedWrite :=
  match sect with
  | 3 =>
    match ((cfgWords c).filter (fun e => e.1 == 0x20043000)).getLast? with
    | some (_, v) => [⟨0x200900B0, 4 * bitAt v 30 + 2 * bitAt v 31 + rd s R.HASP_CTRL_TAKE⟩]
    | none => []
  | _ => if sect = 2 ∨ sect = 5 then
      ((cfgWords c).filter (fun e => cfgCommon sect e.1)).map (fun e => ⟨e.1, e.2⟩) else []

/-- A register write of a content names a register of its section with a value in the range of each of its fields; a reflex cell names
DIO channels that the M96 has (00 R9). -/
def cfgFits (sect a v : Nat) : Bool :=
  let rows := rowsAt (if sect = 1 then .lane else .common) a
  let inSect := if sect = 1 then decide (0x20040000 ≤ a ∧ a < 0x20043000) || a == 0x2005003C else cfgCommon sect a
  let cell := decide (0x20081000 ≤ a ∧ a < 0x20081400) && a % 16 == 0
  inSect && rows.any (fun e => e.1.acc == .rw || e.1.acc == .rws)
    && rows.all (fun e => !(e.1.acc == .rw || e.1.acc == .rws)
      || (decide (e.1.min ≤ bits v e.1.hi e.1.lo) && decide (bits v e.1.hi e.1.lo ≤ e.1.max)))
    && (!cell || (decide (bits v 5 0 < 48) && (bitAt v 20 == 0 || decide (bits v 18 13 < 48))
      && (bits v 30 29 != 0 || decide (bits v 26 21 < 48))))

/-- The content writes a field that only STOP lets be written (00 R15). -/
def cfgStop (sect : Nat) (c : List Byte) : Bool :=
  (cfgWords c).any (fun e => sect == 1 || (rowsAt .common e.1).any (fun r => r.1.acc == .rws))

/-- The reason for a configuration of sections 0x01, 0x02 and 0x05 (01 R36, 00 R9, R20); 0 accepts. The spec names no code for them
(DESIGN CHOICE, log entry 102): 0x3A outside STOP and INIT where a field needs STOP, 0x04 for what the M96 does not have. -/
def cfgCheck (s : State) (sect : Nat) (c : List Byte) : Nat :=
  if cfgStop sect c && !stopLike s then 0x3A
  else if (cfgWords c).all (fun e => cfgFits sect e.1 e.2 || (sect == 1 && (decide (0xF0000000 ≤ e.1) || decide (e.1 < 0x800000)))) then 0
  else 0x04

/-- Steps 2 to 6 of Table 10.4, on the configuration as it would stand; 0 is a pass. The peer's HEALTH_OUT is a slot with DIR 1,
its HEALTH_IN one with DIR 0. -/
def pairCheck (s : State) (l : Lane) : Nat :=
  let f (r : Row) : Nat := rdL s r l
  let own := ownNode s
  let cnt := rd s R.LU_SLOT_CNT_COUNT
  let is (n : Nat) (p : SlotEnt → Bool) : Bool := decide (n < cnt) && (slotEnt s n).plen == 8 && p (slotEnt s n)
  let hin := f R.PAIR_SLOT_HEALTH_IN
  let ref (n : Nat) : Bool := (stnEnt s n).en && decide (2 ≤ n) && f R.REF_CFG_REF_POS % 8 == 0
    && decide (f R.REF_CFG_REF_POS + 8 ≤ (slotEnt s (stnEnt s n).inSlot).plen)
  if !(decide (own < 2) && f R.PAIR_CFG_PEER_NODE == 1 - own && coldNodes s == [0, 1] && f R.SCAN_CTRL_SRC == 0) then 0x81
  else if !(is (f R.PAIR_SLOT_HEALTH_OUT) (fun e => e.dir && e.owner == own)
      && (if own = 1 then hin != 0 && is hin (fun e => !e.dir) else hin == 0)
      && is (f R.PAIR_PEER_PEER_SLOT) (fun e => e.owner == f R.PAIR_CFG_PEER_NODE && e.dir == (own == 1))) then 0x82
  else if !(ref (f R.REF_CFG_REF0_NODE) && (f R.REF_CFG_REF1_EN == 0 || ref (f R.REF_CFG_REF1_NODE))) then 0x83
  else if 3600 < f R.PAIR_TIME_HOLD_OFF ∨ 15 < f R.PAIR_TIME_SH_TOL then 0x84
  else if rd s R.LU_TIMERS_OWD < kSel s + 3 then 0x85
  else 0

/-- The exchange areas that a cascade configuration maps into the image, and the bytes of its qualifier bits (R70). -/
def cxAreas (s : State) (l : Lane) : List (Nat × Nat) :=
  let q := rdL s R.CX_QUAL_QUAL_BASE l
  ((cxMembers s).flatMap (fun m => [(rdL s R.CX_MEMB0_IN_DOFS l m, rdL s R.CX_MEMB0_IN_DLEN l m),
    (offWord + 4 * rdL s R.CX_MEMB1_IN_WOFS l m, rdL s R.CX_MEMB1_IN_WLEN l m)])
    ++ [(rdL s R.CX_OUT_D_OUT_DOFS l, rdL s R.CX_OUT_D_DLEN l), (offWord + 4 * rdL s R.CX_OUT_W_OUT_WOFS l, rdL s R.CX_OUT_W_WLEN l),
        (q / 8, (q + 2 * cxN s + 7) / 8 - q / 8)]).filter (fun a => a.2 ≠ 0)

/-- Steps 7 to 9 of Table 10.4; 0 is a pass. -/
def cascadeCheck (s : State) (l : Lane) : Nat :=
  let size (d w : Nat) : Bool := decide (8 ≤ d + w ∧ d + w ≤ 16384 ∧ w % 4 = 0)
  let as := cxAreas s l
  if cxN s < 2 ∨ cxN s ≤ cxPos s then 0x86
  else if !(size (rdL s R.CX_OUT_D_DLEN l) (rdL s R.CX_OUT_W_WLEN l)
      && as.all areaFree && disjointAll as && as.all (fun a => (stationAreas s).all (fun b => !overlap a b))) then 0x87
  else if 100 < rdL s R.CX_CTRL_CX_WAIT l ∨ 7 < rdL s R.CX_CTRL_CX_HOLD l then 0x88
  else 0

/-- Table 10.4 on the configuration as it would stand (R414). -/
def pairCxCheck (s : State) (l : Lane) (stop : Bool) : Nat :=
  let pair := rdL s R.PAIR_CFG_EN l
  let cx := rdL s R.CX_CTRL_EN l
  if !stop ∨ (pair = 1 ∧ cx = 1) then 0x80
  else if pair = 1 then pairCheck s l
  else if cx = 1 then cascadeCheck s l
  else 0

/-! ## Requests of modes, forces and parameters -/

/-- The logic window of a scan on the grid that runs, in ns (02 R55, Table 2.1). -/
def windowNs (s : State) (l : Lane) : Nat :=
  if rdL s R.SCAN_CTRL_SRC l = 1 ∨ s.scan.interim then 1000 * rdL s R.COMMIT_OFS_OFS_US l
  else tDn s + (kSel s - 1) * cycleNs s - tUC s

/-- The window holds the sum of R55, with CX_WAIT in a cascade (R56, R411); in twelfths of a nanosecond. -/
def windowOk (s : State) (l : Lane) : Bool :=
  decide (12 * 4800 + 10 * rdL s R.TUM_BUNDLES_COUNT l + 12000 * rdL s R.CT_BUDGET_BUDGET_US l
    + (if cxOn s then 12000 * rdL s R.CX_CTRL_CX_WAIT l else 0) ≤ 12 * windowNs s l)

/-- The reason for which a RUN request is refused, the first of Table 13.4's list; 0 accepts (13 R476). -/
def runCheck (s : State) (l : Lane) : Nat :=
  if s.modl.mode ≠ .stop then 0x3A
  else if rdL s R.TUM_STAT_PROG_VALID l = 0 then 0x31
  else if rdL s R.TUM_STAT_FACK_PEND l = 1 then 0x30
  else if s.faults.ackPend then 0x35
  else if !dbArmed s then 0x37
  else if rdL s R.SCAN_CTRL_SRC l = 0 ∧ s.scan.interim then 0x39
  else if !windowOk s l then 0x32
  else if s.degr.expired then 0x33
  else if Lane.all.any (fun m => (lane s m).dbgAct) then 0x34
  else if cxOn s ∧ (rdL s R.CX_STAT_SYNC_OK l = 0 ∨ (cxPos s ≠ 0 ∧ s.cx.syncUs ≠ scanPeriodUs s)) then 0x89
  else 0

/-- The current program's identity in a lane. -/
def progId (s : State) (l : Lane) : Nat := rdL s R.PROG_ID_LO_ID l + 2 ^ 32 * rdL s R.PROG_ID_HI_ID l

/-- The signed safety configuration, or the PSL section, marks a point or word as not forceable (R128, 06 R266). -/
def notForceable (s : State) (word : Bool) (a : Nat) : Bool :=
  let byte := if word then offWord + 4 * a else a / 8
  (rb s .nfMap (if word then 32768 + a / 8 else a / 8)).getLsbD (a % 8)
    || (pslAreas s.psl.statBase s.psl.conns).any (fun x => decide (x.1 ≤ byte ∧ byte < x.1 + x.2))

/-- A point of the digital image from 1,024 to 4,095, or a word from 0 to 63. -/
def fixedPoint (word : Bool) (a : Nat) : Bool := if word then decide (a < 64) else decide (1024 ≤ a ∧ a ≤ 4095)

/-- Forces are not accepted in INIT and SAFE. -/
def noForces (s : State) : Bool := s.modl.mode == .init || s.modl.mode == .safe

/-- The reason for a FORCE_SET (R128, R129); 0 accepts. The spec gives no order of the cases: the model takes the first of 0x25, 0x20,
0x21, 0x23, 0x22, 0x24, 0x28, 0x27 (DESIGN CHOICE, log entry 98). -/
def forceSetCheck (s : State) (l : Lane) (id : Nat) (es : List ForceEnt) : Nat :=
  let vars := (lane s l).prog.vars
  let at_ (e : ForceEnt) (v : VarEnt) : Bool := v.kind == e.word && v.addr == e.addr
  let fresh := ((es.filter (fun e => (forceFind s l e.word e.addr).isNone)).map (fun e => (e.word, e.addr))).eraseDups.length
  let used := ((forceIdxs s l).filter (fun n => (forceAt s l n).valid || (forceAt s l n).pend)).length
  if id ≠ progId s l then 0x25
  else if es.any (fun e => !vars.any (at_ e)) then 0x20
  else if es.any (fun e => !vars.any (fun v => at_ e v && v.type == e.type)) then 0x21
  else if es.any (fun e => fixedPoint e.word e.addr) then 0x23
  else if es.any (fun e => notForceable s e.word e.addr) then 0x22
  else if 1024 < used + fresh then 0x24
  else if noForces s then 0x28
  else if 64 < forcePend (es.foldl (fun t e => forcePut t l e) s) l then 0x27
  else 0

/-- An accepted FORCE_CLEAR in a lane: 0xFFFFFFFF names every entry, else bit 31 gives the kind and the rest the address. -/
def forceClearIn (s : State) (l : Lane) (as : List Nat) : State :=
  if as.contains 0xFFFFFFFF then
    (forceIdxs s l).foldl (fun t n => let e := forceAt t l n; if e.valid then forceRemove t l e.word e.addr else t) s
  else as.foldl (fun t a => forceRemove t l (bitAt a 31 == 1) (a % 2 ^ 18)) s

/-- The reason for a FORCE_CLEAR; 0 accepts. -/
def forceClearCheck (s : State) (l : Lane) (id : Nat) (as : List Nat) : Nat :=
  if id ≠ progId s l then 0x25
  else if noForces s then 0x28
  else if 64 < forcePend (forceClearIn s l as) l then 0x27
  else 0

/-- The force table of the journal restored in a lane (13 R472, R136, R137). -/
def forceRestore (s : State) (l : Lane) (es : List (Nat × ForceEnt)) : State :=
  let keep := es.filter (fun e => e.2.valid && e.2.pid == progId s l)
  let lost := es.filter (fun e => e.2.valid && e.2.pid != progId s l)
  let t := keep.foldl (fun t (e : Nat × ForceEnt) => setForce t l (e.1 % 1024) { e.2 with pend := true }) s
  let u := if firstLane s = some l then
      lost.foldl (fun t (e : Nat × ForceEnt) => raise t 0x0202 (e.2.addr + 2 ^ 24 * e.2.type + 2 ^ 31 * b2n e.2.word)) t
    else t
  let v := forceGenInc (forceCount (wrL u R.FORCE_DROP_COUNT l lost.length) l) l
  if keep.isEmpty then v else wrL v R.TUM_STAT_FACK_PEND l 1

/-- The reason for a PARK request (12 R451, Table 12.7); 0 accepts. -/
def parkCheck (s : State) : Nat :=
  if s.modl.mode ≠ .stop then 0x90 else if !axesSafe s then 0x91 else if rd s R.HASP_STAT_HELD = 1 then 0x92 else 0

/-- The reason for a safety configuration (14 R510, 07 R330, 06 R264): lengths, the PSL section, the parameter block, and its
check period against the grid; 0 accepts. -/
def safeCfgCheck (s : State) (db psl : List Byte) : Nat :=
  if db.length ≠ 1024 then 0x71
  else
    let p := pslCheck s (stopLike s) psl
    let e := paramCheck db
    let chk := parAt db 4 4
    if p ≠ 0 then p
    else if e ≠ 0 then 0x70 + e
    else if chk ≠ (if rdL s R.SCAN_CTRL_SRC .x = 1 then rdL s R.SCAN_PERIOD_PERIOD_US .x else rd s R.LU_CYCLE_CYCLE_US) then 0x77
    else 0

/-- A hot repair step is under way or done for a target. -/
def repairStep (s : State) : Nat := if s.repair.target.isSome then rdL s R.REPAIR_STAT_STEP .x else 0

/-- The reason for a QUIESCE (04 Table 4.6): mode, order, one target, condition; 0 accepts. -/
def quiesceCheck (s : State) (l : Lane) : Nat :=
  if noForces s then 0x47
  else match s.repair.target with
    | some t => if t = l then 0x41 else 0x42
    | none => if (lane s l).fenced || ((lane s l).admitted && (admittedLanes s).length == 3) then 0 else 0x40

/-- The reason for a later step of hot repair that needs step `n` done for its target; 0 accepts. -/
def repairCheck (s : State) (l : Lane) (n : Nat) : Nat :=
  if noForces s then 0x47
  else match s.repair.target with
    | some t => if t ≠ l then 0x42 else if repairStep s ≠ n ∨ s.repair.waiting.isSome then 0x41 else 0
    | none => 0x41

/-- A program load waits or runs in some lane. -/
def loading (s : State) : Bool := Lane.all.any (fun l => (lane s l).load.isSome && ((lane s l).admitted || (lane s l).candidate))

/-- The cycle of the commit that carries the verdicts of the open scan (05 R242): the last of its group, or of the next one where that
vote point, 1 µs before the deadline, has passed; of the cycle that runs at the commit of the standalone grid, while that serves. -/
def commitCycle (s : State) : Nat :=
  let c := rd s R.LU_CYCLE_NUM_CYCLE
  let k := kSel s
  if rdL s R.SCAN_CTRL_SRC .x = 1 then c
  else if s.scan.interim then
    let per := 1000 * rdL s R.SCAN_PERIOD_PERIOD_US .x
    let ofs := 1000 * rdL s R.COMMIT_OFS_OFS_US .x
    let left := if gridSpan s + 1000 ≤ ofs then ofs - gridSpan s else per + ofs - gridSpan s
    c + (s.luosh.net + left - s0 s) / cycleNs s
  else if c % k = k - 1 ∧ s0 s + tDn s ≤ s.luosh.net + 1000 then c + k else c - c % k + k - 1

/-- What a lane answers to a request in the core pass (R36): 0 accepted, a reason, or none where its verdict is the result of a load (03
R134, 04 R182). -/
def check (s : State) (l : Lane) : Request → Option Nat
  | .modeStop => some (if s.modl.mode = .run then 0 else 0x3A)
  | .modeRun => some (runCheck s l)
  | .modeService g _ => some (if s.modl.mode ≠ .stop then 0x3A else if bitAt g 0 = 0 then 0x38 else 0)
  | .leaveService => some (if s.modl.mode = .service then 0 else 0x3A)
  | .faultAck => some 0
  | .park => some (parkCheck s)
  | .progLoad _ _ _ => if !stopLike s || loading s then some 0x10 else none
  | .forceSet id es => some (forceSetCheck s l id es)
  | .forceClear id as => some (forceClearCheck s l id as)
  | .forceAck id gen => some (if id ≠ progId s l then 0x25 else if gen ≠ rdL s R.FORCE_GEN_GEN l then 0x26 else 0)
  | .cfg sect c => some (if sect = 3 ∨ sect = 4 then pairCxCheck (cfgTrial s sect c) l (stopLike s) else cfgCheck s sect c)
  | .luSched o id => some (schedCheck s l o id)
  | .luHandover h n => some (if h < commitCycle s + 8 ∨ !(coldNodes s).contains n then 0x55 else 0)
  | .safeCfg db psl _ => some (safeCfgCheck s db psl)
  | .pslAck none => some 0
  | .pslAck (some c) =>
    some (if pslAckOk s l c then 0 else 0x66)
  | .quiesce m => some (quiesceCheck s m)
  | .reload m id =>
    let c := repairCheck s m 1
    if c ≠ 0 then some c else if id ≠ progId s l then some 0x43 else none
  | .selftest m => some (repairCheck s m 2)
  | .copy m => some (repairCheck s m 3)
  | .forceTable _ => some (if s.modl.mode = .safe then 0x28 else 0)
  | .degRemain _ => some 0
  | .psl sec => some (pslCheck s (stopLike s) sec)
  | .retained _ => some (if !loading s && rdL s R.TUM_STAT_PROG_VALID l == 0 then 0x31 else 0)

/-- A request of a mode, an acknowledge or PARK: at most one is taken at a freeze (13 R476). -/
def Request.isMode : Request → Bool
  | .modeStop | .modeRun | .modeService _ _ | .leaveService | .faultAck | .park => true
  | _ => false

/-- What a lane itself writes on accepting a request in its core pass: its force table (R129), whose entries hold the identity of the
program against which they were accepted (R124). A force table that comes while a program load runs is written once the load has ended. -/
def laneEffect (s : State) (l : Lane) : Request → State
  | .forceSet _ es => es.foldl (fun t e => forcePut t l { e with pid := progId s l }) s
  | .forceClear _ as => forceClearIn s l as
  | .forceTable es => if loading s then s else forceRestore s l es
  | .pslAck c => pslAck s l c
  | _ => s

/-! ## What a voted verdict puts in force (01 R34, R36) -/

/-- Mode STOP entered at a commit (R87, R424, Table 13.4): connections CLOSED, grants gone, an F3 not yet acted on awaits its
acknowledge. -/
def enterStop (s : State) : State :=
  let m := s.modl
  let f := s.faults
  let t := { s with modl := { m with mode := .stop, grants := 0, nextMode := none, stopWaits := false, firstScan := false },
                    faults := { f with ackPend := f.ackPend || f.stopDue, stopDue := false } }
  pslClose (syncLanes t)

/-- The retained words of a restore written in every lane (17 R576). -/
def retainedApply (s : State) (ds : List Delta) : State :=
  Lane.all.foldl (fun t l => ds.foldl (fun u (d : Delta) =>
    d.words.zipIdx.foldl (fun v e =>
      match d.type with
      | 1 => wKept v (.image l) ((d.arg + 8 * e.2) % 0x8000) (leBytes 8 e.1)
      | 2 => wKept v (.image l) (offWord + (4 * d.arg + 8 * e.2) % 0x10000) (leBytes 8 e.1)
      | 3 => let o := (d.arg + 8 * e.2) % 0x8000
             instFix (w64 v (.inst l) o e.1) l (o / 16)
      | _ => v) u) t) s

/-- QUIESCE accepted (Table 4.6): exclusion with cause 0x0B where the lane is admitted, held in reset and fenced no longer (R147);
comparator, injection and ECC state cleared. -/
def quiesceStart (s : State) (l : Lane) : State :=
  let reset : LaneSt → LaneSt := fun x => { x with fenced := false, held := true, dozing := false, injDue := false, injRun := false,
                                                   irqHeld := false, started := none, load := none, heldAcc := [], dbgAct := x.dbgAct }
  let s1 := setLane (excludeLane s l 0x0B) l reset
  let s2 := ([R.CMP_STAT_MIS_GRP, R.CMP_STAT_RAIL_GRP, R.CMP_STAT_PAR_LOC, R.CMP_STAT_PAR_ERR, R.CMP_STAT_RAIL_FAULT,
    R.CMP_STAT_MISCOMPARE, R.CMP_T_TB1, R.CMP_CAPT_DIFF, R.CMP_CAPT5_DIFF, R.INJ_STAT_FAIL_PAT, R.INJ_STAT_LATE, R.INJ_STAT_INJ_AGE,
    R.ECC_STAT_UNC, R.ECC_STAT_CORR, R.ECC_ADDR_WORD, R.ECC_CNT_COUNT, R.TUM_STAT_ECC_UNC, R.TUM_STAT_ECC_CORR, R.ECC_CNT_TUM_COUNT]
    : List Row).foldl (fun t r => (List.range r.count).foldl (fun u i =>
      let v := wrL u r l r.reset i
      if r.acc = .rc then wr v r r.reset (4 + l.idx) i else v) t) s1
  let s3 := wrAll (wrAll (wrAll s2 R.REPAIR_STAT_STEP 1) R.REPAIR_STAT_TARGET l.idx) R.REPAIR_STAT_REASON 0
  syncLanes { s3 with repair := { s3.repair with target := some l, waiting := none, copying := false, since := s.time.now } }

/-- COPY accepted (R183 to R185): from here on writes to copied blocks of the source are noted. -/
def copyStart (s : State) (slot : Nat) : State :=
  let src := (firstLane s).getD .x
  let s1 := wrAll (wrAll (wrAll s R.REPAIR_STAT_STEP 4) R.REPAIR_STAT_SOURCE src.idx) R.REPAIR_STAT_WINDOWS 0
  copyShow { s1 with repair := { s1.repair with copying := true, source := src, first := copyBlocks, windows := 0, win := .shut,
                                                slot := slot, since := s.time.now },
                     marks := { s1.marks with upTo := some (copyAddr src 0), dirty := [] } }

/-- A safety configuration accepted (07 R330, R331, 14 R510): parameters into PARAM_WIN with CFG 1, armed by the next commit;
the PSL section and the map in force. -/
def safeCfgApply (s : State) (db psl map : List Byte) : State :=
  let s1 := dbCfgCommit (wbs (clearMem s .paramWin 0 1024) .paramWin 0 db) 1
  let s2 := wbs (clearMem (pslLoad (pslClose s1) psl) .nfMap 0 34816) .nfMap 0 (map.take 34816)
  { s2 with scan := { s2.scan with armDue := true } }

/-- A request whose voted verdict is accepted takes effect at the commit; what waits for a program load that runs follows it (17 R576). -/
def requestApply (s : State) (slot : Nat) : Request → State
  | .modeStop =>
    if s.faults.cstop.isSome then { s with modl := { s.modl with stopWaits := true } } else enterStop s
  | .modeRun => { s with modl := { s.modl with nextMode := some .run } }
  | .modeService g d =>
    syncLanes { s with modl := { s.modl with mode := .service, grants := g, serviceEnd := s.scan.tx + d * 1000000000 } }
  | .leaveService => enterStop s
  | .faultAck => faultAck s
  | .park => dbCfgCommit (wr { s with aon := { s.aon with armAt := some s.time.now, armCyc := s.luosh.cyc } } R.PWR_STAT_PARK_ARM 1) 1
  | .forceAck _ _ => wrAll s R.TUM_STAT_FACK_PEND 0
  | .cfg sect c => cfgApply s sect c
  | .luSched o _ => schedApply s o
  | .luHandover h n => wr (wr s R.LU_HO_CYCLE_CYCLE h) R.LU_HO_NODE_NODE n
  | .safeCfg db psl map => safeCfgApply s db psl map
  | .quiesce l => quiesceStart s l
  | .copy _ => copyStart s slot
  | .degRemain n => if (admittedLanes s).length = 3 then s else journalRemain (wrAll (remainKnown s) R.DEG_REMAIN_SECONDS (n - 60))
  | .psl sec => pslLoad (pslClose s) sec
  | .selftest _ => { s with repair := { s.repair with waiting := some slot, since := s.time.now } }
  | .forceTable es => if loading s then { s with scan := { s.scan with restoreF := s.scan.restoreF ++ [es] } } else s
  | .retained ds => if loading s then { s with scan := { s.scan with restore := s.scan.restore ++ [ds] } } else retainedApply s ds
  | .progLoad _ _ _ | .forceSet _ _ | .forceClear _ _ | .reload _ _ | .pslAck _ => s

/-- A load, whose verdict is its result, begins at the commit of its scan (R134, R182). -/
def requestBegin (s : State) (slot : Nat) : Request → State
  | .progLoad a n id =>
    (Lane.all.filter (fun l => (lane s l).admitted || (lane s l).candidate)).foldl (fun t l => setLane t l (fun x => { x with load := some ⟨a, n, id, slot, false⟩ })) s
  | .reload l id =>
    let a := slotAddr 3 (s.keeper.progSlot.getD false)
    let n := (imageLen s 3 (s.keeper.progSlot.getD false)).getD 0
    let t := setLane s l (fun x => { x with held := false, load := some ⟨a, n, id, slot, false⟩ })
    { t with repair := { t.repair with waiting := some slot, since := s.time.now, readBack := none } }
  | _ => s

/-! ## A lane's service of the sampled requests (R36) -/

/-- The service under way: the state with the lane's own writes; the state as it would stand with every request accepted so
far in force; whether a request of `Request.isMode` was taken; the verdicts posted. -/
structure Serve where
  real : State
  hyp  : State
  mode : Bool
  out  : List Verdict

/-- A request accepted, as the requests after it in the ring see it: a new schedule is the one they are checked against. -/
def requestHyp (s : State) (slot : Nat) (r : Request) : State :=
  match r with
  | .luSched o _ => schedUse s o
  | _ => requestApply s slot r

/-- One request served by a lane, in ring order. After an F4 fault no verdict is voted any more, and nothing takes effect (11 R422). -/
def serveOne (l : Lane) (p : Serve) (e : Nat × Request) : Serve :=
  let r := e.2
  let ans := if r.isMode && p.mode then some 0x3B else check p.hyp l r
  let q := { p with mode := p.mode || r.isMode }
  match ans with
  | some 0 => { q with real := if p.real.modl.prismStop then p.real else laneEffect p.real l r, hyp := requestHyp (laneEffect p.hyp l r) e.1 r, out := p.out ++ [⟨e.1, 0⟩] }
  | some c => { q with out := p.out ++ [⟨e.1, c⟩] }
  | none => { q with hyp := requestBegin p.hyp e.1 r }

/-- The sampled requests served by a lane: the state with its writes and the verdicts it posts. -/
def serveRing (s : State) (l : Lane) : State :=
  let p := s.scan.sampled.foldl (serveOne l) ⟨s, s, false, []⟩
  setLane p.real l (fun x => { x with posted := x.verdicts ++ p.out, verdicts := [] })

end Sys2Proof.Machine
end

