-- ==== Sys2Proof/Machine/Freeze.lean ====
section
/-!
DEFINITION. The input freeze (02 R52 to R60, R81 to R84, 10 R411).
-/

namespace Sys2Proof.Machine

/-! ## Scan grid points (02 R52 to R54, 03 R114, R115) -/

/-- The standalone period in effect at the last point, in ns. -/
def gridNs (s : State) : Nat := 1000 * (if s.scan.gridPer = 0 then rdL s R.SCAN_PERIOD_PERIOD_US .x else s.scan.gridPer)

/-- ns from the last standalone point to the next one: SCAN_PERIOD in effect there, with the shift that a cascade member makes (R54, 10
R408); the first point lies where the grid starts. -/
def gridNext (s : State) : Nat := if s.scan.gridPer = 0 then 0 else ((gridNs s : Int) + s.cx.shift).toNat

/-- ns from the last standalone point to the latest one that has come. -/
def gridAdv (s : State) : Nat :=
  if gridSpan s < gridNext s then 0 else gridSpan s - (gridSpan s - gridNext s) % gridNs s

/-- A point of the grid: standalone the first one, or one period after the one before, within 8 ns (R54); with Luosh the upstream close
of the first cycle of a group, within 8 ns (R52, R53). -/
def pointDue (s : State) : Bool :=
  if standalone s then decide (gridNext s ≤ gridSpan s ∧ gridSpan s ≤ gridAdv s + 8)
  else s.scan.gridCyc != s.luosh.cyc + 1 && rd s R.LU_CYCLE_NUM_CYCLE % kSel s == 0 && inCycle s && atNet s (s0 s + tUC s)

/-- A grid point of the scan: TX is extended; standalone periods are counted, and the point is the nominal one, from which the next
lies the SCAN_PERIOD in effect here; the deadline of the grid lies ahead. At each of its freeze points the cascade master sends SYNC
(10 R407). -/
def gridPoint (s : State) : State :=
  cxSyncTx (if standalone s then
    let adv := gridAdv s
    let t := { s with
      cx := { s.cx with shift := 0 },
      scan := { s.scan with tx := s.scan.tx + adv, tFreeze := (s.scan.tFreeze + adv) % 2 ^ 32,
                            gridPer := rdL s R.SCAN_PERIOD_PERIOD_US .x, due := true } }
    wrAll t R.CYCLE_COUNT_CYCLE (rdL t R.CYCLE_COUNT_CYCLE .x + 1 + (adv - gridNext s) / gridNs s)
  else
    { s with scan := { s.scan with tx := s.scan.tx + gridSpan s, tFreeze := tb1 s, gridCyc := s.luosh.cyc + 1, due := true } })

/-- The cycle under way is the last of its group (R53). -/
def lastCycle (s : State) : Bool := standalone s || rd s R.LU_CYCLE_NUM_CYCLE % kSel s == kSel s - 1

/-- The commit deadline of the grid has come (R53, R54, Table 2.1): COMMIT_OFS after the grid point; the start of the downstream phase of
the last cycle of the group. -/
def deadlineCome (s : State) : Bool := s.scan.due && lastCycle s && checkCome s 0

/-- The vote point of the deadline ahead, 1 µs before it, has come (R63). -/
def votePointCome (s : State) : Bool := s.scan.due && lastCycle s && checkCome s 1000

/-- FREEZE_POINT_PASSED_OVER (R76, R114): a grid point while a scan is not yet committed. -/
def execFreezePointPassedOver (s : State) : Answer := whenLive s <|
  .next (if s.scan.gridOn ∧ s.scan.isOpen ∧ pointDue s then gridPoint s else s)

/-! ## Stations at the freeze (R79 to R84) -/

/-- A valid frame of a station stands in staging for the freeze cycle: received in it before the upstream close, or after the close of
an earlier freeze cycle (R59, R79). -/
def stnStaged (s : State) (n : Nat) : Bool :=
  let late := Tab.get 0 s.scan.late n
  Tab.get 0 s.scan.staged n == s.luosh.cyc + 1 || (late != 0 && late != s.luosh.cyc + 1)

/-- The age of a station's data at a freeze: cycles since the freeze cycle of the last data frozen from it (R81). -/
def stnAge (s : State) (n : Nat) : Nat := s.luosh.cyc + 1 - (Tab.get (0, false) s.scan.frozen n).1

/-- Station qualifiers and STN_STAT written (Tables 2.3 and 2.13). -/
def stnShow (s : State) (n : Nat) (valid aged : Bool) (age : Nat) : State :=
  let t := bitToImages (bitToImages s (2048 + 2 * n) valid) (2049 + 2 * n) aged
  wrAll (wrAll (wrAll t R.STN_STAT_VALID (b2n valid) n) R.STN_STAT_AGED (b2n aged) n) R.STN_STAT_AGE age n

/-- The two input areas of a station entry in the image: offset and length. -/
def inAreas (e : StnEnt) : List (Nat × Nat) := [(e.inDofs, e.inDlen), (offWord + 4 * e.inWofs, e.inWlen)]

/-- Received values move from a lane's staging area into its image (02 R58, R82). -/
def stnReceive (s : State) (e : StnEnt) : State :=
  areasIn s (inAreas e) (fun l o => (.image l, if o < offWord then offStageD + o else offStageW + (o - offWord)))

/-- One station's input at the freeze (Table 2.6), a template's as a station's (05 R248). The table speaks of frames frozen since the
entry to mode RUN; before any such entry every frame frozen so far counts (DESIGN CHOICE, log entry 106). The age of a station from
which nothing was ever frozen is left open: a free value. -/
def freezeStation (s : State) (n : Nat) : State :=
  let e := stnEnt s n
  if stnStaged s n then
    let t := stnReceive s e
    stnShow { t with scan := { t.scan with frozen := Tab.put (0, false) t.scan.frozen n (s.luosh.cyc + 1, true) } } n true false 0
  else
    let q := Tab.get (0, false) s.scan.frozen n
    let hold := q.2 && decide (stnAge s n ≤ rdL s R.STN_CFG_HOLD .x n)
    let t := if hold then areasHold s (inAreas e) else substitute s e.inDofs e.inDlen e.inWofs e.inWlen
    let age := if q.1 = 0 then (Config.freeWord s.free n).toNat % 16 else min 15 (stnAge s n)
    Lane.all.foldl (fun u l => rcAddL u R.STN_STAT_MISS_CNT l 1 n) (stnShow t n hold q.2 age)

/-- Every station at the freeze, and STN_SUM; what came late for this freeze has been taken. -/
def freezeStations (s : State) : State :=
  let ns := stations s
  let t := ns.foldl freezeStation { s with free := s.free + 1 }
  let held := (ns.filter (fun n => rdL t R.STN_STAT_AGED .x n == 1 && rdL t R.STN_STAT_VALID .x n == 1)).length
  let subst := (ns.filter (fun n => rdL t R.STN_STAT_AGED .x n == 1 && rdL t R.STN_STAT_VALID .x n == 0)).length
  let late := t.scan.late.filter (fun e => e.2 == s.luosh.cyc + 1)
  wrAll (wrAll { t with scan := { t.scan with staged := [], late := late } } R.STN_SUM_HELD held) R.STN_SUM_SUBST subst

/-! ## The input freeze (R57, R58) -/

/-- Words of the word image written in every lane. -/
def wordsIn (s : State) (ws : List (Nat × Nat)) : State :=
  Lane.all.foldl (fun t l => ws.foldl (fun u (e : Nat × Nat) => setImgWord u l e.1 e.2) t) s

/-- The field inputs, Deadbolt states and encoder counts of step 2: image bytes 0 to 5, 16 to 39 and 64 to 71, and words 64 to
107 and 128 to 227. A substitute takes the place of an input of a bank without power or out of service (08 R333, R345). -/
def freezeField (s : State) : State :=
  let t := Lane.all.foldl (fun t l =>
    wbs t (.image l) 0 ((List.range 6).map (fun j => byteOf ((List.range 8).map (fun i =>
      match dioIn s (8 * j + i) with
      | some b => b
      | none => (rb s (.laneSram l) (substBase s l + j)).getLsbD i))))) s
  wordsIn (toImages (toImages t 16 (fioPoints s)) 64 (dbPoints s)) (fioWords s ++ timeWords s)

/-- The vote point of the open scan, in ns after its freeze (R63). -/
def votePointNs (s : State) : Nat := windowNs s .x - 1000

/-- Words 0 to 15 of Table 2.5; the least slack is 0 after a skip. W is given in whole µs, rounded down (DESIGN CHOICE, log entry 137). -/
def scanWords (s : State) : List (Nat × Nat) :=
  [(0, scanNo s), (1, rdL s R.CYCLE_COUNT_CYCLE .x), (2, tb1 s),
   (3, if standalone s then 0 else rd s R.TB_VAL_NS 0 0), (4, s.scan.logic.1), (5, if s.scan.lastSkips ≠ 0 then 0 else s.scan.logic.2),
   (6, 2 ^ 16 * s.scan.skips + s.scan.lastSkips % 16),
   (7, 2 ^ 16 * rdL s R.STN_SUM_SUBST .x + rdL s R.STN_SUM_HELD .x), (8, scanPeriodUs s), (9, windowNs s .x / 1000),
   (10, 0), (11, 0), (12, 0), (13, 0), (14, 0), (15, 0)]

/-- Mode RUN is entered at the first freeze after its verdict (R87, Table 13.4): FIRST_SCAN, Z pulses and station data count
anew; a cascade member realigns its grid (10 R408). -/
def enterRun (s : State) : State :=
  if s.modl.nextMode = some .run then
    let t := { s with modl := { s.modl with mode := .run, nextMode := none, firstScan := false },
                      scan := { s.scan with frozen := s.scan.frozen.map (fun e => (e.1, (e.2.1, false))) },
                      cx := { s.cx with seen := [], ownGrid := false } }
    shadowRestart (encEnterRun t)
  else s

/-- A lane that has passed its start-up tests: the injection run and the check of its runtime (04 R154, R173, 13 R471). -/
def startOkay (s : State) (l : Lane) : Bool := (lane s l).started == some true && (lane s l).runtimeOk && !(lane s l).fenced

/-- A lane that the freeze wakes: admitted, a candidate, or one that has passed its start-up tests (R173). -/
def wakes (s : State) (l : Lane) : Bool :=
  let x := lane s l
  !x.stopped && !x.held && (x.admitted || x.candidate || (startOkay s l && s.repair.target != some l))

/-- A lane at its wake for a scan (R63, R68, R74): not dozing, nothing of the last scan left; an uncorrectable word in the broadcast of
its input makes it invalid for the scan (01 R29). -/
def wakeLane (s : State) (l : Lane) : State :=
  if wakes s l then
    let t := setLane s l (fun x => { x with
      dozing := false, done := false, doneHeld := false, exceeded := false, posted := [], tumEnded := !programRuns s,
      tWake := tb1 s, tTumEnd := tb1 s, invalid := if x.bcastUnc then some 0x07 else none, bcastUnc := false,
      candOk := x.candOk && !x.bcastUnc, compared := false, newIn := false })
    wrL (wrL t R.SCAN_STAT_PHASE l 3) R.HND_COUNT_COUNT l 0
  else setLane s l (fun x => { x with done := false, doneHeld := false, exceeded := false })

/-- The lanes that doze, and the power state, as PWR_STAT shows them (12 R447). -/
def dozeSync (s : State) : State :=
  let m := laneMask s (·.dozing)
  let counted := Lane.all.filter (fun l => ((lane s l).admitted || (lane s l).candidate) && !(lane s l).dbgAct)
  let all := !counted.isEmpty && counted.all (fun l => (lane s l).dozing)
  let p : Power := if s.modl.power = .run ∨ s.modl.power = .doze then (if all then .doze else .run) else s.modl.power
  wr (wr { s with modl := { s.modl with power := p } } R.PWR_STAT_LANE_DOZE m) R.PWR_STAT_STATE (if p = .doze then 2 else 3)

/-- The parts of the image that hold inputs, as offset and length: local I/O but for the outputs of bytes 8 to 13, 40 to 47 and 96 to
99, qualifiers and status, words 0 to 255, station and cascade areas (Tables 2.3 and 2.4). -/
def inputAreas (s : State) : List (Nat × Nat) :=
  [(0, 8), (14, 26), (48, 48), (100, 0x19C), (offWord, 0x400)] ++ (stations s).flatMap (fun n => inAreas (stnEnt s n))
    ++ (if cxOn s then (cxMembers s).flatMap (cxIn s) else [])

/-- The broadcast input image, before any force, as the mirror of BAR2 shows it after the commit (01 R48): digital image, then words. -/
def frozenCopy (s : State) : State :=
  let l := (firstLane s).getD .x
  (inputAreas s).foldl (fun t a =>
    copyMem t (.image l) a.1 .frozen (if a.1 < offWord then a.1 else a.1 - offWord + 0x8000) a.2) (clearMem s .frozen 0 0x18000)

/-- The first freeze since mode RUN was entered (R73). -/
def firstFreeze (s : State) : Bool := s.modl.mode == .run && !s.modl.firstScan

/-- INJ_AGE counts the scans since a lane's last passing run (04 R157). -/
def injAge (s : State) : State :=
  Lane.all.foldl (fun t l =>
    if (lane t l).started = some true then wrL t R.INJ_STAT_INJ_AGE l (min 0x3FFF (rdL t R.INJ_STAT_INJ_AGE l + 1)) else t) s

/-- The freeze begins (R58 steps 1 to 4, R35, R71): previous image, field inputs at T_UC, stations with their qualifiers; the request
ring, claims and Penesh datagrams are sampled; what the status words will show is taken. Copy and scrub windows close (04 R161, R184). -/
def freezeBegin (s0 : State) : State :=
  let s := Lane.all.foldl (fun t l => scrubOn t l []) s0
  let s1 := injAge (enterRun (capClose (copyClose s)))
  let s2 := wrAll (wrAll s1 R.SCAN_COUNT_SCAN (scanNo s1 + 1)) R.T_FREEZE_TB1 (tb1 s1)
  let s3 := wrAll (wrAll s2 R.TX_LO_TX (s2.scan.tx % 2 ^ 32)) R.TX_HI_TX (s2.scan.tx / 2 ^ 32)
  let s4 := Lane.all.foldl (fun t l => copyMem t (.image l) 0 (.image l) offPrev 0x8000) (kaRecord (kaSync s3))
  let s5 := freezeStations (freezeField s4)
  let s6 := { s5 with
    luosh := { s5.luosh with frozen := s5.luosh.claims, claims := [] },
    scan := { s5.scan with sampled := s5.scan.ring, ring := [] },
    psl := { s5.psl with sampled := s5.psl.waiting, waiting := [] },
    keeper := { s5.keeper with nPosted := 0 } }
  { s6 with scan := { s6.scan with words := scanWords s6 } }

/-- Step 6 of R58: the scan status words and points. -/
def freezeStatus (s : State) : State :=
  let degraded : Bool := decide ((admittedLanes s).length < 3)
  toImages (wordsIn s (s.scan.words ++ (List.range 48).map (fun i => (16 + i, Tab.get 0 s.scan.snap (16 + i)))))
    0x80 [byteOf [firstFreeze s, decide (s.scan.lastSkips ≠ 0), degraded]]

/-- The freeze ends (R58 steps 5 to 7, R73): cascade exchange and pair, status words, forces, and the lanes wake. -/
def freezeEnd (s : State) : State :=
  let waitNs := match s.cx.waiting with | some t => (tb1 s + 2 ^ 32 - t) % 2 ^ 32 | none => 0
  let s1 := frozenCopy (freezeStatus (freezePair (freezeCx s waitNs)))
  let s2 := Lane.all.foldl forceMerge s1
  let s3 := if firstFreeze s then Lane.all.foldl (fun t l => copyMem t (.image l) 0 (.image l) offPrev 0x8000) s2 else s2
  let s4 := Lane.all.foldl wakeLane s3
  let s5 := [R.SCAN_STAT_DONE_X, R.SCAN_STAT_DONE_Y, R.SCAN_STAT_DONE_Z, R.SCAN_STAT_STRETCHED].foldl (fun t r => wrAll t r 0) s4
  let k := s5.keeper
  let waiting := k.toPost.any (·.1.isStartup)
  dozeSync (dmaFreezeEnd { s5 with
    scan := { s5.scan with isOpen := true, voted := none, stretched := false, missed := false },
    cx := { s5.cx with waiting := none },
    modl := { s5.modl with firstScan := s5.modl.mode == .run },
    faults := { s5.faults with deadline := false },
    keeper := { k with starting := k.starting && !(s5.jrnl.up && !waiting) } })

/-- INPUT_FREEZE (R53, R54, R58, R60, R76): at a grid point with no scan open the freeze is taken; its exchange step waits until the
cascade exchange is complete (10 R411); `corr`, `unc`: lanes whose broadcast met a corrected, an uncorrectable word (R28, R29). -/
def execInputFreeze (corr unc : LaneSet) (s : State) : Answer := whenLive s <|
  .next (if !s.scan.gridOn ∨ s.scan.isOpen ∨ rd s R.PWR_STAT_PARK_ARM = 1 ∨ s.cx.waiting.isSome ∨ !pointDue s then s
    else
      let t := freezeBegin (broadcastErrors (gridPoint s) corr unc)
      if cxIncomplete t (cxNumber t) ∧ rdL t R.CX_CTRL_CX_WAIT .x ≠ 0 then { t with cx := { t.cx with waiting := some (tb1 t) } }
      else freezeEnd t)

/-- CX_WAIT_EXPIRY (10 R411): CX_WAIT has passed; the freeze that waits ends with what has come. -/
def execCxWaitExpiry (s : State) : Answer := whenLive s <|
  .next (match s.cx.waiting with
    | some t => if 1000 * rdL s R.CX_CTRL_CX_WAIT .x ≤ (tb1 s + 2 ^ 32 - t) % 2 ^ 32 then freezeEnd s else s
    | none => s)

/-- CASCADE_DATA_RX (10 R409, R411, R412): a frame of another member, forwarded cut-through on the other link, stored where it is
right; a freeze that waits for it ends. -/
def execCascadeDataRx (dn : Bool) (f : CxFrame) (s : State) : Answer := whenLive s <|
  .next (if cxOn s && cxLink s dn && f.kind == 2 && f.src != cxPos s then
      let t := cxStore (if cxLink s (!dn) then emit s (.cx (!dn) f) else s) f
      if t.cx.waiting.isSome && !cxIncomplete t (cxNumber t) then freezeEnd t else t
    else s)

/-- The Deadbolt interface raises its interrupt (07 R303): at the upstream close of every cycle; standalone, at the grid point. -/
def challengeCome (s : State) : Bool :=
  if standalone s then s.scan.gridOn && (pointDue s || (s.scan.gridPer != 0 && decide (gridSpan s ≤ 8)))
  else inCycle s && atNet s (s0 s + tUC s)

/-- DB_CHALLENGE_IRQ (07 R303): a dozing lane wakes to answer; during an injection run the interrupt waits for its end (04 R153). -/
def execDbChallengeIrq (s : State) : Answer := whenLive s <|
  .next (if !challengeCome s then s
    else dozeSync (Lane.all.foldl (fun t l =>
      if (lane t l).injRun then setLane t l (fun x => { x with irqHeld := x.dozing })
      else if (lane t l).dozing && laneClocked t l then wrL (setLane t l (fun x => { x with dozing := false })) R.SCAN_STAT_PHASE l 1
      else t) s))

end Sys2Proof.Machine
end

