-- ==== Sys2Proof/Machine/Vote.lean ====
section
/-!
DEFINITION. The Tumbler pass, the core pass and the vote of a scan (02 R61 to R68, 04 R163 to R168).
-/

namespace Sys2Proof.Machine

/-! ## What a lane puts to the vote (01 Table 1.3, 04 R163, R170) -/

/-- A string of 64-bit words voted word by word (R163): what is released, in order. A lane that has fewer words puts none. -/
def voteList (s : State) (f : Lane → List Nat) : State × List Nat :=
  let n := Lane.all.foldl (fun m l => max m (f l).length) 0
  (List.range n).foldl (fun (acc : State × List Nat) i =>
    match voteOne acc.1 (fun l => (f l)[i]?) with
    | (t, some (some v)) => (t, acc.2 ++ [v])
    | (t, _) => (t, acc.2)) (s, [])

/-- The vote words of the output map (R170): their offsets from 0x1000_0000. -/
def voteMap (s : State) : List Nat :=
  (localWords ++ voteOffsets ((stations s).flatMap (fun n => stnAreas (stnEnt s n) true))).eraseDups

/-! ## Journal deltas of a lane (17 R567 to R570) -/

/-- The step of ARG from one 64-bit word to the next of a delta type. -/
def deltaStep (type : Nat) : Nat := if type = 2 then 2 else 8

/-- The retained words and the valid force entries of a lane, by type × 2⁴⁸ + ARG (R570): types 1 to 3 hold one word each, type 4
both words of an entry. -/
def retainedNow (s : State) (l : Lane) : Tab Nat :=
  let words := s.scan.retained.flatMap (fun r =>
    match r with
    | (0, a, n) => (List.range ((a + n + 7) / 8 - a / 8)).map (fun i =>
        let o := (a / 8 + i) * 8 % 0x8000
        (2 ^ 48 + o, r64 s (.image l) o))
    | (1, a, n) => (List.range ((a + n + 1) / 2 - a / 2)).map (fun i =>
        let o := (a / 2 + i) * 2 % 0x4000
        (2 * 2 ^ 48 + o, r64 s (.image l) (offWord + 4 * o)))
    | (_, a, n) => (List.range ((a + n + 7) / 8 - a / 8)).map (fun i =>
        let o := (a / 8 + i) * 8 % 0x8000
        (3 * 2 ^ 48 + o, r64 s (.inst l) o)))
  let forces := ((forceIdxs s l).map (fun n => (n, forceAt s l n))).filter (fun e => e.2.valid)
  let t := words.foldl (fun (t : Tab Nat) (e : Nat × Nat) => Tab.put 0 t e.1 e.2) []
  forces.foldl (fun (t : Tab Nat) (e : Nat × ForceEnt) =>
    Tab.put 0 t (4 * 2 ^ 48 + e.1) (ofLe ({ e.2 with pend := false } : ForceEnt).bytes)) t

/-- A retained word that waits in a backlog takes its new value in place; whether one did. -/
def backlogUpdate (b : List Delta) (type arg v : Nat) : List Delta × Bool :=
  let st := deltaStep type
  let has (d : Delta) : Bool := d.type == type && decide (d.arg ≤ arg) && (arg - d.arg) % st == 0
    && decide ((arg - d.arg) / st < d.words.length)
  (b.map (fun d => if has d then { d with words := d.words.set ((arg - d.arg) / st) v } else d), b.any has)

/-- A force entry as a delta (Table 17.2). -/
def forceDelta (gen idx v : Nat) : Delta := ⟨4, 2 ^ 16 * (gen % 2 ^ 16) + idx, [v % 2 ^ 64, v / 2 ^ 64]⟩

/-- Retained words of some keys as deltas of runs. -/
def runsOf (t : Tab Nat) : List Delta :=
  [1, 2, 3].flatMap (fun k => runDeltas k (deltaStep k)
    ((t.filter (fun e => e.1 / 2 ^ 48 == k)).map (fun e => (e.1 % 2 ^ 48, e.2))))

/-- What a RESYNC queues (R568): every retained word, every valid force entry, every counter. -/
def resyncDeltas (s : State) (l : Lane) (now : Tab Nat) : List Delta :=
  runsOf now
    ++ (now.filter (fun e => e.1 / 2 ^ 48 == 4)).map (fun e => forceDelta (rdL s R.FORCE_GEN_GEN l) (e.1 % 2 ^ 48) e.2)
    ++ (if s.degr.known then [⟨5, 1, [rdL s R.DEG_REMAIN_SECONDS l]⟩] else [])

/-- The events that this commit carries: those not written by the Keeper itself (11 R436). -/
def commitEvents (s : State) : List Event := s.faults.events.filter (fun e => !e.mgmt && e.code / 256 != 9)

/-- The verdict delta of Table 17.2. -/
def verdictDelta (s : State) (v : Verdict) : Delta :=
  ⟨7, v.slot, [2 ^ 32 * scanNo s + 2 ^ 8 * (v.reason % 256) + b2n (v.reason != 0)]⟩

/-- A lane's backlog brought up to this scan, in the order of R567. -/
def backlogGrow (s : State) (l : Lane) : State :=
  let j := s.jrnl
  let now := retainedNow s l
  let prev := j.prev.get l
  let keys := ((now ++ prev).map (·.1)).eraseDups
  let changed := keys.filter (fun k => Tab.get 0 now k != Tab.get 0 prev k)
  let words := (changed.filter (fun k => k / 2 ^ 48 != 4)).foldl (fun (acc : List Delta × Tab Nat) k =>
    match backlogUpdate acc.1 (k / 2 ^ 48) (k % 2 ^ 48) (Tab.get 0 now k) with
    | (b, true) => (b, acc.2)
    | (b, false) => (b, Tab.insert acc.2 k (Tab.get 0 now k))) (j.backlog.get l, [])
  let forces := (changed.filter (fun k => k / 2 ^ 48 == 4)).map (fun k =>
    forceDelta (rdL s R.FORCE_GEN_GEN l) (k % 2 ^ 48) (Tab.get 0 now k))
  let b1 := words.1 ++ (lane s l).posted.map (verdictDelta s) ++ forces
    ++ (if s.degr.due then [⟨5, 1, [s.degr.journalled]⟩] else []) ++ (commitEvents s).map eventDelta
  let runs := runsOf words.2
  let fits := decide (deltaWords (b1 ++ runs) ≤ 65536)
  let b2 := if fits then b1 ++ runs else b1
  let moved := decide (j.dropped ≠ j.drops.get l)
  let rs := if !fits || moved then some 0 else j.resync.get l
  let more := resyncDeltas s l now
  let (b3, rs') := if rs = some 0 ∧ deltaWords (b2 ++ more) ≤ 65536 then (b2 ++ more, some ((b2 ++ more).length + 1)) else (b2, rs)
  { s with jrnl := { j with backlog := j.backlog.set l b3, prev := j.prev.set l now, drops := j.drops.set l j.dropped,
                            resync := j.resync.set l rs' } }

/-- The deltas that a lane posts: from the head of its backlog up to J words (R567). -/
def backlogHead (s : State) (l : Lane) : List Delta :=
  let rec go (left : Nat) : List Delta → List Delta
    | [] => []
    | d :: ds => if d.words.length + 1 ≤ left then d :: go (left - (d.words.length + 1)) ds else []
  go (jLimit s) (s.jrnl.backlog.get l)

/-- JRNL_STAT of every lane (Table 17.8). -/
def jrnlShow (s : State) : State :=
  Lane.all.foldl (fun t l => wrL (wrL (wrL t R.JRNL_STAT_J_LIMIT l (jLimit t)) R.JRNL_STAT_RESYNC l
    (b2n (t.jrnl.resync.get l).isSome)) R.JRNL_STAT_BACKLOG l (deltaWords (t.jrnl.backlog.get l))) s

/-! ## The vote of a scan (02 R63 to R65, 04 R164 to R168) -/

/-- A register write, a verdict and a Penesh frame for Ethernet as 64-bit words, and back (R163). -/
def StagedWrite.enc (w : StagedWrite) : Nat := 2 ^ 32 * w.addr + w.value % 2 ^ 32
def writeOf (w : Nat) : StagedWrite := ⟨w / 2 ^ 32, w % 2 ^ 32⟩
def Verdict.enc (v : Verdict) : Nat := 2 ^ 32 * v.slot + v.reason % 2 ^ 32
def verdictOfWord (w : Nat) : Verdict := ⟨w / 2 ^ 32, w % 2 ^ 32⟩
def ethEnc (f : Nat × List Byte) : List Nat := (2 ^ 32 * f.2.length + f.1 % 2 ^ 32) :: words64 f.2
def ethDec : Nat → List Nat → List (Nat × List Byte)
  | 0, _ => []
  | _, [] => []
  | fuel + 1, h :: ws =>
    let n := h / 2 ^ 32
    (h % 2 ^ 32, ((ws.take ((n + 7) / 8)).flatMap (leBytes 8)).take n) :: ethDec fuel (ws.drop ((n + 7) / 8))

/-- REPAIR_STAT of a lane as one word. -/
def repairWord (s : State) (l : Lane) : Nat :=
  2 ^ 28 * rdL s R.REPAIR_STAT_STEP l + 2 ^ 26 * rdL s R.REPAIR_STAT_TARGET l + 2 ^ 24 * rdL s R.REPAIR_STAT_SOURCE l
    + 2 ^ 16 * rdL s R.REPAIR_STAT_REASON l + 2 ^ 8 * rdL s R.REPAIR_STAT_PROBATION l + rdL s R.REPAIR_STAT_WINDOWS l

/-- Lane status words 16 to 21 of Table 4.5 as a lane's blocks hold them. -/
def laneStatus (s : State) (l : Lane) : List Nat :=
  let ex (m : Lane) : Nat := 2 ^ 24 * rdL s R.EXCL_CAUSE l m.idx + rdL s R.EXCL_SCAN l m.idx
  [rdL s R.LANE_STAT_STATE l + 2 ^ 32 * ex .x, ex .y + 2 ^ 32 * ex .z, rdL s R.DEG_REMAIN_SECONDS l + 2 ^ 32 * repairWord s l]

/-- What a lane puts to the vote of a scan, each item in 64-bit words (Table 1.3, R163): the output image words as Prism reads
them (03 R125), the lane status words, the staged register writes, the verdicts, the journal deltas, the exchange block, the Penesh
digest (06 R282), the Penesh frames for Ethernet, the content of the CS frames, and HASP_CTRL.TAKE. -/
structure Ballot where
  image    : List Nat
  status   : List Nat
  writes   : List Nat
  verdicts : List Nat
  deltas   : List Nat
  block    : List Nat
  digest   : List Nat
  eth      : List Nat
  cs       : List Nat
  take     : List Nat
  deriving DecidableEq

/-- The ballot of a lane. -/
def ballot (s : State) (l : Lane) (runs : Bool) : Ballot :=
  { image := if runs then (voteMap s).map (filteredWord s l) else [], status := laneStatus s l,
    writes := (lane s l).staged.map StagedWrite.enc, verdicts := (lane s l).posted.map Verdict.enc,
    deltas := (backlogHead s l).flatMap Delta.enc,
    block := if runs then words64 (cxBlockOf s l) else [], digest := [pslDigest s l],
    eth := if runs then (pslEthFrames s l).flatMap ethEnc else [], cs := csBallot s l,
    take := if isPair s then [b2n (s.pair.take.get l)] else [] }

/-- Bytes of the voted words, by plane offset. -/
def imageOf (os vs : List Nat) : Tab Byte :=
  (os.zip vs).foldl (fun (t : Tab Byte) (e : Nat × Nat) => (leBytes 8 e.2).zipIdx.foldl (fun (m : Tab Byte) b =>
    Tab.put 0 m (e.1 + b.2) b.1) t) []

/-- A number of `n` bytes in a table of bytes. -/
def tabLe (t : Tab Byte) (o n : Nat) : Nat := ofLe ((List.range n).map (fun i => Tab.get 0 t (o + i)))

/-- Nothing was voted: fewer than two lanes, or Prism releases nothing. -/
def Voted.none : Voted :=
  { image := [], writes := [], cmd := 0, dioOut := 0, rfxArm := 0, presp := .none, verdicts := [], deltas := [], block := [], cs := [],
    take := false }

/-- The lanes admitted at start-up (R173, 13 R471): before the first commit, those that have passed their tests, where they
are at least two. -/
def startLanes (s : State) : List Lane :=
  if s.scan.committed ∨ admittedLanes s ≠ [] then []
  else
    let ls := Lane.all.filter (startOkay s)
    if 2 ≤ ls.length then ls else []

/-- The lanes whose DONE the vote waits for. -/
def cohort (s : State) : List Lane := if startLanes s = [] then admittedLanes s else startLanes s

/-- Admission at start-up (R173, R177, R178): with three lanes the allowance is full, with two it stays as it was restored. -/
def startAdmit (s : State) : State :=
  if startLanes s = [] then s
  else
    let t := (startLanes s).foldl (fun t l => setLane t l (fun x => { x with admitted := true })) s
    if (admittedLanes t).length = 3 then
      journalRemain (syncLanes (wrAll (remainKnown t) R.DEG_REMAIN_SECONDS (rdL t R.DEG_ALLOW_HOURS .x * 3600)))
    else syncLanes t

/-- A lane counts for the vote: DONE, and valid for the scan (R29, R64). -/
def finished (s : State) (l : Lane) : Bool := (lane s l).done && (lane s l).invalid.isNone

/-- The items of a ballot, in the order in which Prism votes them. -/
def Ballot.items : List (Ballot → List Nat) :=
  [Ballot.image, Ballot.status, Ballot.writes, Ballot.verdicts, Ballot.deltas, Ballot.block, Ballot.digest, Ballot.eth, Ballot.cs,
   Ballot.take]

/-- The released words of every item. -/
def voteItems (s : State) (b : PerLane Ballot) : State × List (List Nat) :=
  Ballot.items.foldl (fun (acc : State × List (List Nat)) f =>
    let r := voteList acc.1 (fun l => f (b.get l))
    (r.1, acc.2 ++ [r.2])) (s, [])

/-- What the released words of the items say. -/
def votedOf (s : State) (r : List (List Nat)) : Voted :=
  let item (n : Nat) : List Nat := r.getD n []
  let img := imageOf (voteMap s) (item 0)
  { image := img, writes := (item 2).map writeOf, cmd := tabLe img 96 4, dioOut := tabLe img 8 6, rfxArm := tabLe img 40 8,
    presp := none, verdicts := (item 3).map verdictOfWord, deltas := decDeltas (item 4).length (item 4),
    block := ((item 5).flatMap (leBytes 8)).take (cxBlockOf s .x).length, cs := item 8, take := item 9 == [1] }

/-- A lane whose ballot stands at the vote: admitted, or a candidate that is DONE and valid. -/
def ballots (s : State) (l : Lane) : Bool := (lane s l).admitted || ((lane s l).candidate && finished s l)

/-- The words of a candidate that has become DONE after the vote, compared with the released ones (R188, R189): its ballot is that of the
vote, with the events and the allowance that the vote carried. -/
def candidateLate (s : State) (l : Lane) : State :=
  let s1 := backlogGrow { s with faults := { s.faults with events := s.scan.carried }, degr := { s.degr with due := s.scan.carriedD } } l
  let same := Ballot.items.map (fun f => f (ballot s1 l (programRuns s))) == s.scan.released
  setLane { s with jrnl := s1.jrnl } l (fun x => { x with staged := [], compared := true,
                                                          candOk := x.candOk && x.invalid.isNone && same })

/-- The voted scan: each item of Table 1.3 voted among the admitted lanes, candidates that are DONE compared (R188). -/
def voteScan (s : State) : State :=
  let runs := programRuns s
  let ls := Lane.all.filter (ballots s)
  let s1 := ls.foldl backlogGrow s
  let s2 := { s1 with faults := { s1.faults with events := s1.faults.events.filter (fun e => e.mgmt || e.code / 256 == 9) },
                      degr := { s1.degr with due := false } }
  let b : PerLane Ballot := ⟨ballot s2 .x runs, ballot s2 .y runs, ballot s2 .z runs⟩
  let late (l : Lane) : Bool := (lane s l).candidate && !finished s l
  let r := voteItems s2 b
  let t := Lane.all.foldl (fun t l => setLane t l (fun x =>
    if late l then { x with candOk := (lane s l).candOk } else { x with staged := [], compared := true, candOk := x.candOk && x.candidate })) r.1
  { t with scan := { t.scan with voted := some (if t.modl.prismStop then Voted.none else votedOf s2 r.2), released := r.2,
                                 carried := s.faults.events, carriedD := s.degr.due },
           psl := { t.psl with ethOut := ethDec (r.2.getD 7 []).length (r.2.getD 7 []) } }

/-- The logic time of the lane last DONE and the least slack of the scan that ends (02 Table 2.5, words 4 and 5), over the lanes whose DONE
Prism counts. -/
def noteLogic (s : State) : State :=
  let ls := (admittedLanes s).filter (finished s)
  let since (t : Nat) : Nat := (t + 2 ^ 32 - rdL s R.T_FREEZE_TB1 .x) % 2 ^ 32
  let last := ls.foldl (fun m l => if since (lane s l).tDone ≥ m.1 then (since (lane s l).tDone, rdL s R.LOGIC_NS_NS l) else m) (0, 0)
  let slack := ls.foldl (fun m l => min m (votePointNs s - since (lane s l).tDone)) (2 ^ 32 - 1)
  { s with scan := { s.scan with logic := (last.2, if ls.isEmpty then 0 else slack) } }

/-- The lanes whose vote has ended wait for the commit. -/
def phaseVoted (s : State) : State :=
  Lane.all.foldl (fun t l => if (lane t l).done && !(lane t l).dozing then wrL t R.SCAN_STAT_PHASE l 7 else t) s

/-- The vote starts (R63 to R65): lanes invalid for the scan are excluded (R29), with them those not DONE where the scan is finished;
with two lanes admitted and one of them invalid, or just one DONE, Prism takes it for a 2oo2 disagreement (R165). A scan with fewer
lanes DONE is not voted yet: nobody is excluded, and it stays open (R74, R75). -/
def voteStart (s0 : State) : State :=
  let s := noteLogic (startAdmit s0)
  let ls := admittedLanes s
  let ok := ls.filter (finished s)
  let inv := ls.filter (fun l => (lane s l).invalid.isSome)
  let bad := ls.filter (fun l => !finished s l)
  let cause (l : Lane) : Nat := ((lane s l).invalid).getD 6
  let nothing (t : State) : State := { t with scan := { t.scan with voted := some Voted.none } }
  let disagree (rs : List Lane) : State := nothing (raise (rs.foldl (fun t l => excludeRecord t l (cause l)) s) 0x0319 0)
  if s.modl.prismStop ∨ ls.length < 2 then nothing s
  else if 2 ≤ ok.length then phaseVoted (voteScan (bad.foldl (fun t l => excludeLane t l (cause l)) s))
  else if ls.length = 2 ∧ ok.length = 1 then disagree bad
  else if ls.length = 2 ∧ inv ≠ [] then disagree inv
  else { s with scan := { s.scan with missed := true } }

/-- The lanes whose DONE starts the vote before the vote point: all admitted (R63). A candidate that becomes DONE later is compared then
(R188, R189; DEDUCED, log entry 107). -/
def voteReady (s : State) : Bool := (cohort s).all (finished s) && !(cohort s).isEmpty

/-- The vote starts as soon as every admitted lane is DONE (R63). -/
def voteIfDone (s : State) : State := if s.scan.isOpen && s.scan.voted.isNone && voteReady s then voteStart s else s

/-- VOTE_POINT (R63 to R65, 07 R299): 1 µs before the deadline, the vote of an open scan starts, if it has not; the Prism-path words are
voted, in every cycle. A candidate that is not DONE by the vote point of the scan's commit fails its probation (04 R189). -/
def execVotePoint (s : State) : Answer := whenLive s <|
  .next (let t := if votePointCome s ∧ s.scan.isOpen ∧ s.scan.voted.isNone ∧ s.scan.missed = false then voteStart s else s
    let u := if votePointCome s && s.scan.isOpen && t.scan.voted.isSome then
        Lane.all.foldl (fun v l => setLane v l (fun x => { x with candOk := x.candOk && x.compared })) t
      else t
    if checkCome s 1000 && checkAhead s then votePresp u else u)

/-! ## Logic (02 R61, R62, 03 R88, R111) -/

/-- A lane takes part in the open scan. -/
def inScan (s : State) (l : Lane) : Bool := s.scan.isOpen && wakes s l && !(lane s l).done

/-- TUMBLER_PASS (03 R88, R111): the wake has ended and the program runs; what has befallen words that the pass reads. A word corrected is
counted; an uncorrectable one makes the lane invalid for the scan with cause 0x08, also where it was so with 0x07 (DESIGN CHOICE, log
entry 108). -/
def execTumblerPass (l : Lane) (image others : List Upset) (s : State) : Answer := whenLive s <|
  .next (let us := image ++ others
    if inScan s l ∧ programRuns s ∧ rdL s R.SCAN_STAT_PHASE l = 3 ∧ !(lane s l).tumEnded then
      let s1 := setLane (wrL (wrL (upset s l us) R.SCAN_STAT_PHASE l 4) R.TUM_STAT_STATE l 1) l (fun x => { x with tWake := tb1 s })
      let p := passOf s1 l (rdL s1 R.TUM_BUNDLES_COUNT l)
      let e := passErrors s1 l us p.seen
      let s2 := (List.range e.1).foldl (fun t _ => eccCorrected t l .image) (passEnd p l)
      if e.2 then setLane (setFlagL s2 R.TUM_STAT_ECC_UNC l) l (fun x => { x with invalid := some 0x08, candOk := false }) else s2
    else s)

/-- Time since a moment of TB[1], in ns. -/
def spanFrom (s : State) (t : Nat) : Nat := (tb1 s + 2 ^ 32 - t) % 2 ^ 32

/-- The core pass of a lane, measured from the end of its Tumbler pass, has taken longer than CT_BUDGET (R62). -/
def overBudget (s : State) (l : Lane) : Bool :=
  (lane s l).tumEnded && decide (1000 * rdL s R.CT_BUDGET_BUDGET_US l < spanFrom s (lane s l).tTumEnd)

/-- An overrun of the budget, once in a scan for a lane: shown and counted; one F1 event for the scan (R62). -/
def budgetExceeded (s : State) (l : Lane) : State :=
  if overBudget s l ∧ !(lane s l).exceeded then
    let first := Lane.all.all (fun m => !(lane s m).exceeded)
    let t := rcAddL (wrL (setLane s l (fun x => { x with exceeded := true })) R.SCAN_STAT_BUDGET_EXC l 1) R.BUDGET_EXC_CNT_COUNT l
    if first then raise t 0x0101 l.idx else t
  else s

/-- A lane is DONE (R61): its times, DONE in SCAN_STAT of every lane; the vote may start. -/
def laneDone (s0 : State) (l : Lane) : State :=
  let s := budgetExceeded s0 l
  let x := lane s l
  let slack := if s.scan.stretched then 0 else votePointNs s - spanFrom s (rdL s R.T_FREEZE_TB1 l)
  let s1 := setLane s l (fun y => { y with done := true, doneHeld := false, tDone := tb1 s })
  let s2 := wrL (wrL (wrL s1 R.SCAN_STAT_PHASE l 6) R.CORE_NS_NS l (spanFrom s x.tTumEnd)) R.LOGIC_NS_NS l (spanFrom s x.tWake)
  let s3 := rcMinL (rcMaxL s2 R.CORE_MAX_NS_NS l (spanFrom s x.tTumEnd)) R.SLACK_MIN_NS_NS l slack
  let s4 := wrL s3 R.SCAN_STAT_BUDGET_EXC l (b2n x.exceeded)
  let row := match l with | .x => R.SCAN_STAT_DONE_X | .y => R.SCAN_STAT_DONE_Y | .z => R.SCAN_STAT_DONE_Z
  let s5 := wrAll s4 row 1
  voteIfDone (if s5.scan.voted.isSome && x.candidate && !x.compared then candidateLate s5 l else s5)

/-- What a lane's software does with the image in its core pass, before CORE_DONE: its service of the sampled requests, its Penesh frames
(06 R284). -/
def corePass (s : State) (l : Lane) : State :=
  let t := serveRing s l
  if programRuns t then pslBuild t l else t

/-- TUMBLER_PASS_END (R61, 03 R110): the engine's result stands, the accesses it has held complete, the core pass begins with the Penesh
frames; where CORE_DONE was written before, what that pass does with the image follows, and the lane is DONE. -/
def execTumblerPassEnd (l : Lane) (s : State) : Answer := whenLive s <|
  .next (if inScan s l ∧ rdL s R.SCAN_STAT_PHASE l = 4 then
      let n := rdL s R.TUM_BUNDLES_COUNT l
      let s1 := wrL (wrL (wrL s R.TUM_STAT_STATE l 0) R.TUM_CLOCKS_CLOCKS l n) R.TUMBLER_NS_NS l ((5 * n + 23) / 24 * 4)
      let s2 := setLane (wrL s1 R.SCAN_STAT_PHASE l 5) l (fun x => { x with tumEnded := true, tTumEnd := tb1 s })
      let s3 := pslCorePass (releaseHeld s2 l) l
      if (lane s3 l).doneHeld then laneDone (corePass s3 l) l else s3
    else s)

/-- After the deadline fault, until its controlled stop ends, the lanes discard every handoff record unserved: result words keep their last
values (11 R426). -/
def unserved (s : State) : Bool := s.faults.dlStop && s.faults.cstop.isSome

/-- CORE_DONE (R61): what the lane's software has written, the words of lane SRAM it has read that something befell (04 R160), its
service of the sampled requests, its Penesh frames. While the Tumbler pass holds the image these wait for its end (03 R110). -/
def execCoreDone (l : Lane) (writes : List (Nat × Word)) (us : List Upset) (s : State) : Answer := whenLive s <|
  .next (if inScan s l ∧ coreUp s l.idx ∧ !(lane s l).doneHeld then
      let ws := if unserved s then writes.filter (fun e => !decide (0x10000000 ≤ e.1 ∧ e.1 < 0x10050000)) else writes
      let s1 := ws.foldl (fun t (e : Nat × Word) => laneWrite t l e.1 e.2.toNat) (upset s l us)
      let s2 := us.foldl (fun t u => if u.mem = .sram then sramRead l t u.word u.addr else t) s1
      if wakes s2 l then
        if (lane s2 l).tumEnded then laneDone (corePass s2 l) l else setLane s2 l (fun x => { x with doneHeld := true })
      else voteIfDone s2
    else s)

/-- CORE_BUDGET_EXCEEDED (R62): the core pass of a lane not yet DONE has taken longer than CT_BUDGET. -/
def execCoreBudgetExceeded (l : Lane) (s : State) : Answer := whenLive s <|
  .next (if inScan s l then budgetExceeded s l else s)

/-- LANE_DOZE (R68): after the vote of its scan, with the main core idle; a lane under debug never dozes (12 R447). -/
def execLaneDoze (l : Lane) (s : State) : Answer := whenLive s <|
  .next (let x := lane s l
    let idle := !s.scan.isOpen || s.scan.voted.isSome
    let busy := x.injRun || (x.injDue && injWindow s l) || (match x.load with | some q => !q.posted | none => false)
    if laneClocked s l && idle && !busy && !x.dbgAct && !x.dozing then
      dozeSync (wrL (setLane s l (fun y => { y with dozing := true })) R.SCAN_STAT_PHASE l 0)
    else s)

end Sys2Proof.Machine
end

