-- ==== Sys2Proof/Machine/Scan.lean ====
section
/-!
DEFINITION. The commit (02 R72 to R79).
-/

namespace Sys2Proof.Machine

/-! ## Parts of a commit (02 R66, R74, R86, 11 R424 to R427) -/

/-- A controlled stop begins at a commit in mode RUN (R424). -/
def beginStop (s : State) : State :=
  if s.faults.stopDue ∧ s.modl.mode = .run then { s with faults := { s.faults with stopDue := false, cstop := some s.scan.tx, dlStop := false } } else s

/-- The command word with STOP_REQ for every axis while a controlled stop runs (R424). -/
def withStopReq (s : State) (cmd : Nat) : Nat :=
  if s.faults.cstop.isSome then cmd - 2 ^ 8 * bits cmd 11 8 + 0xF00 else cmd

/-- The controlled stop ends at the first commit at which no axis is RELEASED or STOPPING (R427). -/
def endStop (s : State) : State :=
  if s.faults.cstop.isSome && axesStill s then
    enterStop { s with faults := { s.faults with cstop := none, ackPend := true } }
  else s

/-- The scan is over: the lanes are awake in the downstream phase, nothing of it is left in Prism. -/
def closeScan (s : State) : State :=
  let t := Lane.all.foldl (fun t l =>
    let u := setLane t l (fun x => { x with invalid := none })
    if wakes u l && !(lane u l).dozing then wrL u R.SCAN_STAT_PHASE l 8 else u) s
  { t with scan := { t.scan with isOpen := false, voted := none, missed := false, sampled := [], stretched := false } }

/-- Words 16 to 23 (04 Table 4.5). -/
def laneWords (s : State) : List (Nat × Nat) :=
  [(16, laneWord16 s)]
    ++ Lane.all.map (fun l => (17 + l.idx, 2 ^ 24 * rdL s R.EXCL_CAUSE .x l.idx + rdL s R.EXCL_SCAN .x l.idx))
    ++ [(20, remainNow s), (21, repairWord s .x),
        (22, (admittedLanes s).foldl (fun m l => max m (rdL s R.INJ_STAT_INJ_AGE l)) 0), (23, 0)]

/-- The status words as a commit, or a hold commit, leaves them (04 R175, 11 R437, R438). -/
def statusShow (s : State) : State :=
  let ws := (laneWords s ++ faultWords s).foldl (fun (t : Tab Nat) (e : Nat × Nat) => Tab.put 0 t e.1 (e.2 % 2 ^ 32)) []
  fltSync { s with scan := { s.scan with snap := ws } }

/-- The voted status words of a commit with its generation (11 R433). -/
def commitStatus (s : State) : State :=
  let t := statusShow s
  { t with scan := { t.scan with gen := scanNo s, commits := t.scan.commits + 1 } }

/-- Vector 4: fault status word 24 has changed at a commit (15 Table 15.3). -/
def commitVector4 (s : State) : State :=
  let w := Tab.get 0 s.scan.snap 24
  if w = s.bridge.word24 then s else msix { s with bridge := { s.bridge with word24 := w } } 4

/-- A scan discarded by the deadline fault (R426): its requests and verdicts are lost with it; the next scan is the first after the
skips (R78). Until the stop ends no handoff record is served. -/
def discardScan (s : State) (n : Nat) : State :=
  let t := closeScan { noteLogic s with
    faults := { s.faults with deadline := true, dlStop := true }, scan := { s.scan with lastSkips := n } }
  Lane.all.foldl (fun t l => setLane t l (fun x => { x with staged := [], posted := [] })) t

/-- The hold commit of a scan that is not finished (R74, R77): the held output image again while a program runs (R86), keep-alive, skip
counts, F1 or the deadline fault, whose controlled stop begins at this commit (R424). -/
def holdCommit (s : State) : State :=
  let n := min 15 (rdL s R.SCAN_STAT_SKIP_CONSEC .x + 1)
  let full := decide (n = rdL s R.SCAN_CTRL_SKIP_MAX .x)
  let s1 := haspReport (beginStop (if full then raise s 0x0103 n else raise s 0x0102 (scanNo s)))
  let on := s1.scan.outs && programRuns s1 && entitled s1
  let cmd := if on then tabLe s1.scan.held 96 4 else 0
  let outs := if on then some (tabLe s1.scan.held 8 6, tabLe s1.scan.held 40 8) else none
  let s2 := commitFio (linesHold (dbCommand { s1 with scan := { s1.scan with outs := on } } (withStopReq s1 cmd))) false outs []
  let s3 := Lane.all.foldl (fun t l => rcAddL t R.SKIP_TOTAL_SKIPS l) (wrAll (wrAll s2 R.SCAN_STAT_SKIP_CONSEC n) R.SCAN_STAT_STRETCHED 1)
  let s4 := hingeCount { s3 with scan := { s3.scan with skips := satInc 0xFFFF s3.scan.skips, stretched := true, missed := false } } 0x20
  let s5 := commitVector4 (statusShow (endStop s4))
  if full && s.modl.mode == .run then discardScan s5 n else s5

/-- The bits of the words of a station and of a slot table entry that are not reserved (05 Tables 5.5 and 5.6): the others read 0
(00 R16). -/
def stnMask (w : Nat) : Nat :=
  ([0xCFFFFFFF, 0x7FFF07FF, 0x3FFF07FF, 0x0FFF07FF, 0x7FFF07FF, 0x3FFF07FF, 0, 0] : List Nat).getD w 0
def slotMask (w : Nat) : Nat := ([0xFFFFFF, 0xFFFF, 0xF3FF07FF, 0] : List Nat).getD w 0

/-- The voted register writes of a commit outside the field I/O controller and the time unit (R257, R331, R415): parameter window,
Luosh registers and tables, Hasp and Deadbolt control. -/
def commitWrite (s : State) (w : StagedWrite) : State :=
  let a := w.addr
  if 0x20091000 ≤ a ∧ a < 0x20091400 then w32 s .paramWin (a - 0x20091000) w.value
  else if 0x20068000 ≤ a ∧ a < 0x20070000 then
    if stopLike s then w32 s .stnTab (a - 0x20068000) (Nat.land w.value (stnMask (a % 32 / 4))) else s
  else if 0x20070000 ≤ a ∧ a < 0x20080000 then
    if stopLike s then w32 s .slotTab (a - 0x20070000) (Nat.land w.value (slotMask (a % 16 / 4))) else s
  else if 0x20060000 ≤ a ∧ a < 0x20068000 then luEnable (writeRows s ⟨rowsAt .common a, 0, 0⟩ w.value)
  else if a = 0x200900B0 then haspWrite s (axesSafe s) w.value
  else if a = 0x20090024 then dbCfgCommit s (w.value % 2)
  else s

/-- The parameter window is written before the control bit that arms it. -/
def commitWrites (s : State) (ws : List StagedWrite) : State :=
  let ctl (w : StagedWrite) : Bool := w.addr == 0x20090024
  (ws.filter ctl).foldl commitWrite ((ws.filter (fun w => !ctl w)).foldl commitWrite s)

/-- The verdict on a ring slot among those voted. -/
def verdictOn (vs : List Verdict) (slot : Nat) : Option Nat := (vs.find? (fun v => v.slot == slot)).map (·.reason)

/-- The common register writes of the configurations accepted in this scan. -/
def acceptedWrites (s : State) (vs : List Verdict) : List StagedWrite :=
  s.scan.sampled.flatMap (fun e =>
    match verdictOn vs e.1, e.2 with
    | some 0, .cfg sect c => cfgWrites s sect c
    | _, _ => [])

/-- A refused hot repair request shows its reason in REPAIR_STAT (Table 4.14). -/
def refusedShow (s : State) (reason : Nat) : Request → State
  | .quiesce _ | .reload _ _ | .selftest _ | .copy _ => wrAll s R.REPAIR_STAT_REASON reason
  | _ => s

/-- The requests of the scan: accepted ones take effect in ring order, loads begin (R34, R36). -/
def commitRequests (s : State) (vs : List Verdict) : State :=
  s.scan.sampled.foldl (fun t e =>
    match verdictOn vs e.1 with
    | some 0 => requestApply t e.1 e.2
    | some c => refusedShow t c e.2
    | none => requestBegin t e.1 e.2) s

/-- The voted result of a program load (03 R135, 17 R576): the program stands in every lane that loaded it, or none; the force table
and the retained data that waited for it follow (13 R472). -/
def commitLoads (s : State) (vs : List Verdict) : State :=
  match Lane.all.find? (fun l => (lane s l).admitted && ((lane s l).load).any (·.posted)) with
  | none => s
  | some l0 =>
    match (lane s l0).load with
    | none => s
    | some q =>
      match verdictOn vs q.slot with
      | none => s
      | some c =>
        let t := Lane.all.foldl (fun t l =>
          match (lane t l).load with
          | some p => if p.slot = q.slot ∧ p.posted then
              let u := setLane t l (fun x => { x with load := none })
              if c = 0 ∧ ((lane u l).admitted ∨ (lane u l).candidate) then takeLoad u l p else u
            else t
          | none => t) s
        let t1 := t.scan.restoreF.foldl (fun u (es : List (Nat × ForceEnt)) =>
          Lane.all.foldl (fun v l => if (lane v l).admitted || (lane v l).candidate then forceRestore v l es else v) u) t
        let t2 := if c = 0 then t1.scan.restore.foldl retainedApply t1 else t1
        { t2 with scan := { t2.scan with restore := [], restoreF := [] } }

/-- Probation of a candidate at a commit (04 R189, R190). -/
def commitProbation (s : State) : State :=
  match s.repair.target with
  | none => s
  | some l =>
    if (lane s l).candidate then
      if (lane s l).candOk && (lane s l).compared then
        let n := rdL s R.REPAIR_STAT_PROBATION .x + 1
        let t := wrAll s R.REPAIR_STAT_PROBATION n
        if 3 ≤ n then admitLane t l else t
      else repairFail s 0x46
    else s

/-- Injection scheduling at a commit (04 R155). -/
def commitInjection (s : State) : State :=
  Lane.all.foldl (fun t l =>
    if (lane t l).admitted ∧ scanNo t % 1024 = injScan l then setLane t l (fun x => { x with injDue := true }) else t) s

/-- Every start-up request of items 1 to 5 has a voted verdict (13 R474). -/
def startupVoted (s : State) : Bool :=
  let early (o : Origin) : Bool := match o with | .startup n => decide (n ≤ 5) | _ => false
  s.keeper.toPost.all (fun e => !early e.1)
    && s.keeper.posted.all (fun e => !early e.2.1 || s.scan.verdicts.any (fun v => v.slot == e.1) || s.scan.lost.contains e.1)

/-- INIT is left for STOP (13 R474). -/
def leaveInit (s : State) : State :=
  if s.modl.mode == .init && decide (2 ≤ (admittedLanes s).length) && rdL s R.PRISM_STAT_TEST_PASS .x == 1
      && (dbState s == dbConfig || dbArmed s) && s.jrnl.up && startupVoted s then
    { s with modl := { s.modl with mode := .stop } }
  else s

/-- The scan source at a commit: the standalone grid starts at the commit at which SRC becomes 1 (R54); the grid of the Luosh network
replaces it at the first commit after ACTIVE or MASTER, its first freeze in a later cycle (13 R475). -/
def commitGrid (s : State) : State :=
  let t := luEnable s
  if rdL t R.SCAN_CTRL_SRC .x = 1 then
    if t.scan.interim then t else { t with scan := { t.scan with interim := true, tFreeze := tb1 t, gridPer := 0 } }
  else if luState t = luActive ∨ luState t = luMaster then
    { t with scan := { t.scan with interim := false, gridCyc := if t.scan.interim then t.luosh.cyc + 1 else t.scan.gridCyc } }
  else t

/-- The backlogs without the deltas that a commit has carried (17 R567, R568). -/
def backlogDrop (s : State) (k : Nat) : State :=
  let j := s.jrnl
  let cut (r : Option Nat) : Option Nat :=
    match r with
    | some (m + 1) => if m ≤ k then none else some (m + 1 - k)
    | x => x
  { s with jrnl := { j with backlog := ⟨j.backlog.x.drop k, j.backlog.y.drop k, j.backlog.z.drop k⟩,
                            resync := ⟨cut j.resync.x, cut j.resync.y, cut j.resync.z⟩ } }

/-- The journal frame of a commit and the verdicts that the Keeper can read (17 R565, R568, 01 R36). -/
def commitJournal (s : State) (v : Voted) : State :=
  let resync := (firstLane s).any (fun l => (s.jrnl.resync.get l).isSome)
  let t := if v.deltas.isEmpty then s else postFrame (backlogDrop s v.deltas.length) v.deltas resync
  let shown := v.verdicts.filter (fun x => !(t.scan.lost.contains x.slot && !s.scan.lost.contains x.slot))
  jrnlShow { t with scan := { t.scan with verdicts := t.scan.verdicts ++ shown.map (fun x => ⟨x.slot, x.reason, scanNo s⟩) } }

/-- The image mirror of BAR2 (01 R48): first counter, frozen input image, voted output, last counter, then vector 2. A commit that sends no
output words leaves the output part as it is (DESIGN CHOICE, log entry 109). -/
def commitMirror (s : State) (v : Voted) (runs : Bool) : State :=
  let s1 := copyMem (w32 s .bar2 0 (scanNo s)) .frozen 0 .bar2 mirrorIn 0x18000
  let s2 := if runs then
      v.image.foldl (fun t (e : Nat × Byte) => wb t .bar2 (mirrorOut + (if e.1 < offWord then e.1 else e.1 - offWord + 0x8000)) e.2)
        (clearMem s1 .bar2 mirrorOut 0x18000)
    else s1
  msix (w32 s2 .bar2 mirrorEnd (scanNo s)) 2

/-- Penesh frames for maintenance Ethernet leave (06 R260). -/
def commitEth (s : State) : State :=
  let t := { s with psl := { s.psl with ethOut := [] } }
  if keeperUp s && s.keeper.eth.isSome then s.psl.ethOut.foldl (fun u (f : Nat × List Byte) => emit u (.udp 51721 f.1 f.2)) t else t

/-- PUMP_S toggles from the first commit that Prism releases (07 R291). -/
def commitPump (s : State) : State := if s.scan.committed then s else vgdRise { s with db := { s.db with pumpS := true } }

/-- The voted command word, armed parameters, register writes, the Hasp and outputs of a commit (R66, R86, 10 R388, 07 R295, R331, 08
R341, R347); output words in the lanes return to their forced values (03 R126), and each lane stages them for the downstream frames (05
R249). -/
def commitOutputs (s : State) (v : Voted) (runs : Bool) : State :=
  let ws := v.writes ++ acceptedWrites s v.verdicts
  let s1 := dbCommand s (withStopReq s (if runs then v.cmd else 0))
  let s2 := if s1.scan.armDue then dbCfgCommit { s1 with scan := { s1.scan with armDue := false } } 0 else s1
  let s3 := linesHold (commitHasp (commitWrites s2 ws) v.take)
  let sends := runs && entitled s3
  let s4 := commitFio s3 (stopLike s3) (if sends then some (v.dioOut, v.rfxArm) else none) ws
  let s5 := commitTime s4 ws
  let s6 := if runs then
      stageOutputs (Lane.all.foldl (fun t l => if (lane t l).admitted || (lane t l).candidate then forceOutputs t l (voteMap t) else t) s5)
    else s5
  { s6 with scan := { s6.scan with outs := sends, held := if runs then v.image else [] } }

/-- Pair, Luosh and cascade at a commit (10 R395, R409, 05 R233, R245). -/
def commitLinks (s : State) (v : Voted) : State :=
  commitCx (commitLuosh (commitPair s) v.cs) v.block

/-- The commit of a finished scan (R66, R77, R86). -/
def finishCommit (s : State) (v : Voted) : State :=
  let runs := programRuns s
  let s0 := commitPump (beginStop s)
  let s1 := { s0 with scan := { s0.scan with committed := true } }
  let s2 := commitLinks (commitOutputs s1 v runs) v
  let s3 := commitLoads (commitRequests s2 v.verdicts) v.verdicts
  let s4 := commitInjection (commitProbation s3)
  let s5 := endStop s4
  let s6 := if s5.modl.nextMode = some .stop then enterStop s5 else s5
  let s7 := leaveInit (commitJournal (kaSync (commitGrid s6)) v)
  let n := rdL s7 R.SCAN_STAT_SKIP_CONSEC .x
  let u := { s7 with scan := { s7.scan with lastSkips := if s7.scan.stretched then n else 0 } }
  let s8 := wrAll (wrAll u R.SCAN_STAT_SKIP_CONSEC 0) R.SCAN_STAT_STRETCHED 0
  copyCommit (commitVector4 (commitMirror (commitEth (closeScan (commitStatus s8))) v s2.scan.outs))

/-- The commit deadline of the scan grid (R66, R74): a finished scan commits, one that is not is held; without two lanes admitted, before
Prism's start-up test has passed, and once Prism has stopped, nothing is released (R168, R172, R173, R422). -/
def commitDue (s : State) : State :=
  if rd s R.PWR_STAT_PARK_ARM = 1 ∨ !s.scan.isOpen then s
  else if s.modl.prismStop then if s.scan.voted.isSome then closeScan s else s
  else if (admittedLanes s).length < 2 ∨ (s.scan.committed = false ∧ rdL s R.PRISM_STAT_TEST_PASS .x = 0) then closeScan s
  else match s.scan.voted, s.scan.missed with
    | some v, false => finishCommit s v
    | _, _ => holdCommit s

/-- COMMIT (R66, R74, R75). -/
def execCommit (s : State) : Answer := whenLive s <|
  .next (if deadlineCome s then commitDue { s with scan := { s.scan with due := false } } else s)

end Sys2Proof.Machine
end

