-- ==== Sys2Proof/Machine/Clock.lean ====
section
/-!
DEFINITION. What the clocks do while no command comes (09 R366 to R372, 12 R449).
-/

namespace Sys2Proof.Machine

/-! ## One period of 4 ns (R366) -/

/-- A base advanced by one period of its clock with a trim in ppb (R372): `acc` is the trim accumulated, in 10⁻⁹ ns, and a
step of 4 ns is added or omitted where it reaches 4 ns. The advance and what stays accumulated. -/
def trimmed (acc : Int) (ppb : Nat) : Nat × Int :=
  let a := acc + 4 * toSigned 32 ppb
  if 4000000000 ≤ a then (8, a - 4000000000) else if a ≤ -4000000000 then (0, a + 4000000000) else (4, a)

/-- TB[n] advanced, modulo 2³² (R366). -/
def tbAdvance (s : State) (n d : Nat) : State := wr s R.TB_VAL_NS (rd s R.TB_VAL_NS 0 n + d) 0 n

/-- TB[0], with network time in full, and TB[1] (R366, R369, 05 R218). The advance of TB[0]. -/
def tickTb01 (s : State) : Nat × State :=
  let a := trimmed s.time.acc0 (rd s R.LU_RATE_PPB)
  let t := { s with time := { s.time with acc0 := a.2 }, luosh := { s.luosh with net := (s.luosh.net + a.1) % 2 ^ 64 } }
  (a.1, tbAdvance (tbAdvance t 0 a.1) 1 4)

/-- TB[2] in full (R370, R371). -/
def tickTb2 (s : State) : State :=
  let a := trimmed s.time.acc2 (rd s R.TB2_RATE_PPB)
  tb2Show { s with time := { s.time with acc2 := a.2, tb2 := (s.time.tb2 + a.1) % 2 ^ 64 } }

/-- TB[3] for an advance of TB[0] (R372): one trimmed step for each 4 ns of its reference. -/
def tickTb3 (s : State) (adv0 : Nat) : State :=
  let one := fun (t : State) =>
    let a := trimmed t.time.acc3 (rd t R.TB3_RATE_PPB)
    tbAdvance { t with time := { t.time with acc3 := a.2 } } 3 a.1
  let d := if rd s R.TB3_CTRL_REF = 1 then 4 else adv0
  if rd s R.TB3_CTRL_EN = 0 ∨ d = 0 then s else if d = 8 then one (one s) else one s

/-- The four bases on the time PLL (R365, R366, R368), and one latch of the capture unit written (R382). -/
def tickBases (s : State) : State :=
  if live s && s.time.pll then
    let a := tickTb01 s
    capDrain (tickTb3 (tickTb2 a.2) a.1)
  else s

/-- The always-on tick count of 32,768 Hz (12 R457): 4 ns more. -/
def tickAon (s : State) : State :=
  let a := s.aon.acc + 4 * 32768
  if a < 1000000000 then { s with aon := { s.aon with acc := a } }
  else setTicks { s with aon := { s.aon with acc := a - 1000000000 } } (s.aon.ticks + 1)

/-- HASP_STAT.FREE_US (10 R390): µs for which HASP_IN has been free. -/
def tickHasp (s : State) : State :=
  if live s && rd s R.HASP_STAT_PEER_HELD == 0 then
    if s.pair.freeSub + 4 < 1000 then { s with pair := { s.pair with freeSub := s.pair.freeSub + 4 } }
    else wr { s with pair := { s.pair with freeSub := s.pair.freeSub + 4 - 1000 } } R.HASP_STAT_FREE_US
      (satInc 65535 (rd s R.HASP_STAT_FREE_US))
  else s

/-- The model's own time, and DOZE_PM over each full second of it (12 Table 12.6); in PARK it moves on at the wake. -/
def tickNow (s : State) : State :=
  if s.modl.power = .park then s
  else
    let n := s.time.now + 4
    let z := s.time.dozeNs + 4 * b2n (s.modl.power == .doze)
    if n % 1000000000 < 4 then
      let s1 := { s with time := { s.time with now := n, dozeNs := 0 } }
      if live s then wr s1 R.PWR_STAT_DOZE_PM (z / 1000000) else s1
    else { s with time := { s.time with now := n, dozeNs := z } }

/-- Vector 3 at a change of READY (15 R537). -/
def tickReady (s : State) : State :=
  if live s && ready s != s.bridge.ready then msix { s with bridge := { s.bridge with ready := ready s } } 3 else s

/-- The readbacks follow a side whose off test has ended (07 R293). -/
def tickOffTest (s : State) : State :=
  let ends (e : Nat × Nat) : Bool := e.2 != 0 && (let t := e.2 - 1 + offTestNs s e.1; decide (t ≤ s.time.now ∧ s.time.now < t + 4))
  if live s && s.db.offAt.any ends then dbReadback s else s

/-- Window time of the scrubbers (04 R161). -/
def tickScrub (s : State) : State :=
  if live s then
    Lane.all.foldl (fun t l => if scrubs s l then setLane t l (fun x => { x with scrubNs := x.scrubNs + 4 }) else t) s
  else s

/-- What happens in 4 ns while no command comes. -/
def clockTick (s : State) : State := tickReady (tickScrub (tickOffTest (tickNow (tickHasp (tickAon (tickBases { s with clk := ⟨[], []⟩ }))))))

end Sys2Proof.Machine
end

