-- ==== Sys2Proof/Machine/Dispatch.lean ====
section
/-!
DEFINITION. Which meaning each command has.
-/

namespace Sys2Proof.Machine

def exec (i : Instr) (s : State) : Host.Outcome State Fault Refusal :=
  match i with
  | .inputFreeze corr unc => Sys2Proof.Machine.execInputFreeze corr unc s
  | .freezePointPassedOver => Sys2Proof.Machine.execFreezePointPassedOver s
  | .dbChallengeIrq => Sys2Proof.Machine.execDbChallengeIrq s
  | .tumblerPass l image others => Sys2Proof.Machine.execTumblerPass l image others s
  | .tumblerPassEnd l => Sys2Proof.Machine.execTumblerPassEnd l s
  | .coreDone l writes upsets => Sys2Proof.Machine.execCoreDone l writes upsets s
  | .coreBudgetExceeded l => Sys2Proof.Machine.execCoreBudgetExceeded l s
  | .votePoint => Sys2Proof.Machine.execVotePoint s
  | .laneDoze l => Sys2Proof.Machine.execLaneDoze l s
  | .commit => Sys2Proof.Machine.execCommit s
  | .keepaliveTick1ms => Sys2Proof.Machine.execKeepaliveTick1ms s
  | .bankOosOverrun k => Sys2Proof.Machine.execBankOosOverrun k s
  | .cstopMaxExpiry => Sys2Proof.Machine.execCstopMaxExpiry s
  | .coreMiscompare l diff => Sys2Proof.Machine.execCoreMiscompare l diff s
  | .comparatorRailFault l groups => Sys2Proof.Machine.execComparatorRailFault l groups s
  | .delayRegParityError l loc => Sys2Proof.Machine.execDelayRegParityError l loc s
  | .injectionRun l => Sys2Proof.Machine.execInjectionRun l s
  | .injectionRunEnd l odd => Sys2Proof.Machine.execInjectionRunEnd l odd s
  | .injectionTestLate l => Sys2Proof.Machine.execInjectionTestLate l s
  | .injectionTestOverdue l => Sys2Proof.Machine.execInjectionTestOverdue l s
  | .scrubSweep l sram image prog tables => Sys2Proof.Machine.execScrubSweep l sram image prog tables s
  | .scrubLate l => Sys2Proof.Machine.execScrubLate l s
  | .prismSelfCheckFault => Sys2Proof.Machine.execPrismSelfCheckFault s
  | .prismStartupTest odd => Sys2Proof.Machine.execPrismStartupTest odd s
  | .degAllowTick => Sys2Proof.Machine.execDegAllowTick s
  | .degAllowExpired => Sys2Proof.Machine.execDegAllowExpired s
  | .degRemainJournal => Sys2Proof.Machine.execDegRemainJournal s
  | .repairStepTimeout => Sys2Proof.Machine.execRepairStepTimeout s
  | .reloadDone => Sys2Proof.Machine.execReloadDone s
  | .repairSelftestDone pass => Sys2Proof.Machine.execRepairSelftestDone pass s
  | .copyWindowOpen source target => Sys2Proof.Machine.execCopyWindowOpen source target s
  | .copyComplete room => Sys2Proof.Machine.execCopyComplete room s
  | .debugPortAccess l => Sys2Proof.Machine.execDebugPortAccess l s
  | .linkUp p => Sys2Proof.Machine.execLinkUp p s
  | .linkFrameRx p f sub turn => Sys2Proof.Machine.execLinkFrameRx p f sub turn s
  | .linkMeasured p => Sys2Proof.Machine.execLinkMeasured p s
  | .frameForward p q f sub hopNs => Sys2Proof.Machine.execFrameForward p q f sub hopNs s
  | .csFrameRx p f sub => Sys2Proof.Machine.execCsFrameRx p f sub s
  | .startupFrameRx p f sub => Sys2Proof.Machine.execStartupFrameRx p f sub s
  | .dataFrameRx p f sub corr unc => Sys2Proof.Machine.execDataFrameRx p f sub corr unc s
  | .claimFrameRx p f sub => Sys2Proof.Machine.execClaimFrameRx p f sub s
  | .spareRelease spare => Sys2Proof.Machine.execSpareRelease spare s
  | .rejoinHoldoffEnd => Sys2Proof.Machine.execRejoinHoldoffEnd s
  | .csFrameMissing => Sys2Proof.Machine.execCsFrameMissing s
  | .lineLost lineB => Sys2Proof.Machine.execLineLost lineB s
  | .listenTimeout => Sys2Proof.Machine.execListenTimeout s
  | .startupFrameTx => Sys2Proof.Machine.execStartupFrameTx s
  | .csFrameTx cycle => Sys2Proof.Machine.execCsFrameTx cycle s
  | .successionTimeout => Sys2Proof.Machine.execSuccessionTimeout s
  | .handoverCycle => Sys2Proof.Machine.execHandoverCycle s
  | .dataSlotTx slot p cycle => Sys2Proof.Machine.execDataSlotTx slot p cycle s
  | .pslTimeout c => Sys2Proof.Machine.execPslTimeout c s
  | .pslErrorRestart c => Sys2Proof.Machine.execPslErrorRestart c s
  | .pslEthDatagramRx ip payload => Sys2Proof.Machine.execPslEthDatagramRx ip payload s
  | .rstNAssert => Sys2Proof.Machine.execRstNAssert s
  | .rstNRelease pos hinge htl => Sys2Proof.Machine.execRstNRelease pos hinge htl s
  | .dbSelftestEnd pass => Sys2Proof.Machine.execDbSelftestEnd pass s
  | .dbInternalFault fcode => Sys2Proof.Machine.execDbInternalFault fcode s
  | .paramCrcRecheck => Sys2Proof.Machine.execParamCrcRecheck s
  | .dbCheckPoint => Sys2Proof.Machine.execDbCheckPoint s
  | .dbStrobeTimeout => Sys2Proof.Machine.execDbStrobeTimeout s
  | .dbResp l v => Sys2Proof.Machine.execDbResp l v s
  | .siTerminalChange si level => Sys2Proof.Machine.execSiTerminalChange si level s
  | .siFilterExpiry si => Sys2Proof.Machine.execSiFilterExpiry si s
  | .pairDiscrepancyTimeout p => Sys2Proof.Machine.execPairDiscrepancyTimeout p s
  | .testPulse j => Sys2Proof.Machine.execTestPulse j s
  | .pulseWindowEnd j => Sys2Proof.Machine.execPulseWindowEnd j s
  | .crossConnectionCheck j => Sys2Proof.Machine.execCrossConnectionCheck j s
  | .speedComputation => Sys2Proof.Machine.execSpeedComputation s
  | .standstill a => Sys2Proof.Machine.execStandstill a s
  | .tStopMaxExpiry a => Sys2Proof.Machine.execTStopMaxExpiry a s
  | .tHoldExpiry a => Sys2Proof.Machine.execTHoldExpiry a s
  | .tPreElapsed a => Sys2Proof.Machine.execTPreElapsed a s
  | .sideOffTest side follows => Sys2Proof.Machine.execSideOffTest side follows s
  | .sideStuckFault side on => Sys2Proof.Machine.execSideStuckFault side on s
  | .brakeCurrentFault b mA => Sys2Proof.Machine.execBrakeCurrentFault b mA s
  | .brakeOvercurrent b mA => Sys2Proof.Machine.execBrakeOvercurrent b mA s
  | .brakeAppliedCurrent b mA => Sys2Proof.Machine.execBrakeAppliedCurrent b mA s
  | .brakeTestEngageEnd b => Sys2Proof.Machine.execBrakeTestEngageEnd b s
  | .brakeTestPass b => Sys2Proof.Machine.execBrakeTestPass b s
  | .btIntervalExpiry b => Sys2Proof.Machine.execBtIntervalExpiry b s
  | .btGraceExpiry b => Sys2Proof.Machine.execBtGraceExpiry b s
  | .brkAllowExpiry b => Sys2Proof.Machine.execBrkAllowExpiry b s
  | .dbEncoderFault e => Sys2Proof.Machine.execDbEncoderFault e s
  | .dbEncoderFaultClear e => Sys2Proof.Machine.execDbEncoderFaultClear e s
  | .vgdLoss pumpS pumpD => Sys2Proof.Machine.execVgdLoss pumpS pumpD s
  | .sv24Loss => Sys2Proof.Machine.execSv24Loss s
  | .sv24Return => Sys2Proof.Machine.execSv24Return s
  | .haspInHeld => Sys2Proof.Machine.execHaspInHeld s
  | .haspInFree => Sys2Proof.Machine.execHaspInFree s
  | .haspTestBurst => Sys2Proof.Machine.execHaspTestBurst s
  | .haspBurstRx => Sys2Proof.Machine.execHaspBurstRx s
  | .haspLineLoss => Sys2Proof.Machine.execHaspLineLoss s
  | .refereeLost => Sys2Proof.Machine.execRefereeLost s
  | .takebackSet => Sys2Proof.Machine.execTakebackSet s
  | .masterYield => Sys2Proof.Machine.execMasterYield s
  | .cascadeLinkUp dn farPos delayNs => Sys2Proof.Machine.execCascadeLinkUp dn farPos delayNs s
  | .cascadeSyncRx dn f sub holdNs => Sys2Proof.Machine.execCascadeSyncRx dn f sub holdNs s
  | .cascadeDataRx dn f => Sys2Proof.Machine.execCascadeDataRx dn f s
  | .cxWaitExpiry => Sys2Proof.Machine.execCxWaitExpiry s
  | .cascadeUnsync => Sys2Proof.Machine.execCascadeUnsync s
  | .cascadeMboxRx dn src dst f => Sys2Proof.Machine.execCascadeMboxRx dn src dst f s
  | .dioTerminalChange n level => Sys2Proof.Machine.execDioTerminalChange n level s
  | .dioFilterExpiry n => Sys2Proof.Machine.execDioFilterExpiry n s
  | .dioOverload n thermal => Sys2Proof.Machine.execDioOverload n thermal s
  | .dioRetry n => Sys2Proof.Machine.execDioRetry n s
  | .dioReadbackFault n => Sys2Proof.Machine.execDioReadbackFault n s
  | .dioOpenLoad n => Sys2Proof.Machine.execDioOpenLoad n s
  | .fieldSupplyPresent k v => Sys2Proof.Machine.execFieldSupplyPresent k v s
  | .fieldSupplyLost k v => Sys2Proof.Machine.execFieldSupplyLost k v s
  | .keepaliveTrip k => Sys2Proof.Machine.execKeepaliveTrip k s
  | .reflexFire cell => Sys2Proof.Machine.execReflexFire cell s
  | .reflexPulseEnd cell => Sys2Proof.Machine.execReflexPulseEnd cell s
  | .aiConversion c code mV limit => Sys2Proof.Machine.execAiConversion c code mV limit s
  | .encEdge e up => Sys2Proof.Machine.execEncEdge e up s
  | .encZPulse e => Sys2Proof.Machine.execEncZPulse e s
  | .encFault e cause => Sys2Proof.Machine.execEncFault e cause s
  | .encFaultClear e => Sys2Proof.Machine.execEncFaultClear e s
  | .encVSwitchOn e htl => Sys2Proof.Machine.execEncVSwitchOn e htl s
  | .encTypeChange e htl => Sys2Proof.Machine.execEncTypeChange e htl s
  | .captureEdge reg n rising => Sys2Proof.Machine.execCaptureEdge reg n rising s
  | .capRdIdxWrite reader v => Sys2Proof.Machine.execCapRdIdxWrite reader v s
  | .tbSnap => Sys2Proof.Machine.execTbSnap s
  | .tb2Adj v => Sys2Proof.Machine.execTb2Adj v s
  | .timePllLock => Sys2Proof.Machine.execTimePllLock s
  | .pllLockLoss p => Sys2Proof.Machine.execPllLockLoss p s
  | .ptpSyncRx domain t1 => Sys2Proof.Machine.execPtpSyncRx domain t1 s
  | .ptpAnnounceRx domain utcOffset => Sys2Proof.Machine.execPtpAnnounceRx domain utcOffset s
  | .ptpHoldover => Sys2Proof.Machine.execPtpHoldover s
  | .storedPairWrite => Sys2Proof.Machine.execStoredPairWrite s
  | .managementViewCompare cls idx view => Sys2Proof.Machine.execManagementViewCompare cls idx view s
  | .keeperSafeSeen => Sys2Proof.Machine.execKeeperSafeSeen s
  | .supwNFall => Sys2Proof.Machine.execSupwNFall s
  | .supplyWindowExpiry lowMs low => Sys2Proof.Machine.execSupplyWindowExpiry lowMs low s
  | .logicSupplyCollapse => Sys2Proof.Machine.execLogicSupplyCollapse s
  | .aonSupplyLoss => Sys2Proof.Machine.execAonSupplyLoss s
  | .parkGo => Sys2Proof.Machine.execParkGo s
  | .parkArmTimeout => Sys2Proof.Machine.execParkArmTimeout s
  | .wakeNFall => Sys2Proof.Machine.execWakeNFall s
  | .rtcAlarm => Sys2Proof.Machine.execRtcAlarm s
  | .luoshWakeEnergy => Sys2Proof.Machine.execLuoshWakeEnergy s
  | .spuriousWakeTimeout => Sys2Proof.Machine.execSpuriousWakeTimeout s
  | .wakeComplete locked => Sys2Proof.Machine.execWakeComplete locked s
  | .wakeRestore => Sys2Proof.Machine.execWakeRestore s
  | .tjSample t => Sys2Proof.Machine.execTjSample t s
  | .laneRuntimeCheckDone l => Sys2Proof.Machine.execLaneRuntimeCheckDone l s
  | .keeperFirmwareCheckDone => Sys2Proof.Machine.execKeeperFirmwareCheckDone s
  | .journalReplay => Sys2Proof.Machine.execJournalReplay s
  | .recorderIndexRebuild => Sys2Proof.Machine.execRecorderIndexRebuild s
  | .autostartRunRequest => Sys2Proof.Machine.execAutostartRunRequest s
  | .programLoadDone l => Sys2Proof.Machine.execProgramLoadDone l s
  | .loadEn l => Sys2Proof.Machine.execLoadEn l s
  | .psWinWrite l off v => Sys2Proof.Machine.execPsWinWrite l off v s
  | .keeperWatchdogExpiry => Sys2Proof.Machine.execKeeperWatchdogExpiry s
  | .keeperException => Sys2Proof.Machine.execKeeperException s
  | .keeperRestartDone => Sys2Proof.Machine.execKeeperRestartDone s
  | .mbDoorbellRing p => Sys2Proof.Machine.execMbDoorbellRing p s
  | .maintDatagramRx src bytes => Sys2Proof.Machine.execMaintDatagramRx src bytes s
  | .keeperRequestPost => Sys2Proof.Machine.execKeeperRequestPost s
  | .verdictRead => Sys2Proof.Machine.execVerdictRead s
  | .requestPendingTimeout p => Sys2Proof.Machine.execRequestPendingTimeout p s
  | .xferTimeout kind => Sys2Proof.Machine.execXferTimeout kind s
  | .tokenNonceExpiry => Sys2Proof.Machine.execTokenNonceExpiry s
  | .serviceTokenExpiry => Sys2Proof.Machine.execServiceTokenExpiry s
  | .serviceExpiry => Sys2Proof.Machine.execServiceExpiry s
  | .journalRecordWrite => Sys2Proof.Machine.execJournalRecordWrite s
  | .compactionStart => Sys2Proof.Machine.execCompactionStart s
  | .compactionDone => Sys2Proof.Machine.execCompactionDone s
  | .yearlyRefresh => Sys2Proof.Machine.execYearlyRefresh s
  | .timeRecord => Sys2Proof.Machine.execTimeRecord s
  | .recorderSnapshotRenew => Sys2Proof.Machine.execRecorderSnapshotRenew s
  | .pcieInboundWrite bar2 off data tag => Sys2Proof.Machine.execPcieInboundWrite bar2 off data tag s
  | .pcieInboundRead bar2 off len fullBe => Sys2Proof.Machine.execPcieInboundRead bar2 off len fullBe s
  | .pcieUnsupportedRequest => Sys2Proof.Machine.execPcieUnsupportedRequest s
  | .pcieReset => Sys2Proof.Machine.execPcieReset s
  | .outboundReadTimeout ch => Sys2Proof.Machine.execOutboundReadTimeout ch s
  | .pelPop => Sys2Proof.Machine.execPelPop s
  | .msixUnmask v => Sys2Proof.Machine.execMsixUnmask v s
  | .chGoStart e n => Sys2Proof.Machine.execChGoStart e n s
  | .dmaTimerTrigger e n => Sys2Proof.Machine.execDmaTimerTrigger e n s
  | .lvlAdd e n v => Sys2Proof.Machine.execLvlAdd e n v s
  | .dmaGrant e => Sys2Proof.Machine.execDmaGrant e s
  | .descriptorComplete e ok => Sys2Proof.Machine.execDescriptorComplete e ok s
  | .dmaError e code bursts => Sys2Proof.Machine.execDmaError e code bursts s
  | .chPause e n bursts => Sys2Proof.Machine.execChPause e n bursts s
  | .chPauseDrained e n => Sys2Proof.Machine.execChPauseDrained e n s
  | .chResume e n => Sys2Proof.Machine.execChResume e n s
  | .chAbort e n bursts => Sys2Proof.Machine.execChAbort e n bursts s
  | .cvuInit e u => Sys2Proof.Machine.execCvuInit e u s
  | .dataB e u v => Sys2Proof.Machine.execDataB e u v s
  | .dataW e u v => Sys2Proof.Machine.execDataW e u v s
  | .cvuLowWordRead e u result => Sys2Proof.Machine.execCvuLowWordRead e u result s
  | .hingeAccess oe we a d => Sys2Proof.Machine.execHingeAccess oe we a d s
  | .hingeSplitHighRead a => Sys2Proof.Machine.execHingeSplitHighRead a s
  | .fcsHiRead => Sys2Proof.Machine.execFcsHiRead s
  | .hingeStrikeArm => Sys2Proof.Machine.execHingeStrikeArm s
  | .hingeStrikeTimeout => Sys2Proof.Machine.execHingeStrikeTimeout s
  | .tunDataWrite d => Sys2Proof.Machine.execTunDataWrite d s
  | .tunDataRead => Sys2Proof.Machine.execTunDataRead s
  | .hingeRefresh => Sys2Proof.Machine.execHingeRefresh s
  | .hingeResponse => Sys2Proof.Machine.execHingeResponse s
  | .hingeStop => Sys2Proof.Machine.execHingeStop s
  | .hingeRun => Sys2Proof.Machine.execHingeRun s
  | .hingeFaultAck => Sys2Proof.Machine.execHingeFaultAck s
  | .hingeForcePoint => Sys2Proof.Machine.execHingeForcePoint s
  | .hingeForceWord => Sys2Proof.Machine.execHingeForceWord s
  | .hingeForceClear => Sys2Proof.Machine.execHingeForceClear s
  | .hingeForceClearAll => Sys2Proof.Machine.execHingeForceClearAll s
  | .hingeForceAck => Sys2Proof.Machine.execHingeForceAck s
  | .hingeTimeSet => Sys2Proof.Machine.execHingeTimeSet s
  | .hingeTunnelSend => Sys2Proof.Machine.execHingeTunnelSend s
  | .hingeUnknownCode => Sys2Proof.Machine.execHingeUnknownCode s
  | .nop p => Sys2Proof.Machine.execNop p s
  | .reqStatus p => Sys2Proof.Machine.execReqStatus p s
  | .relay p => Sys2Proof.Machine.execRelay p s
  | .xferBegin p => Sys2Proof.Machine.execXferBegin p s
  | .xferData p => Sys2Proof.Machine.execXferData p s
  | .xferEnd p => Sys2Proof.Machine.execXferEnd p s
  | .xferAbort p => Sys2Proof.Machine.execXferAbort p s
  | .ident p => Sys2Proof.Machine.execIdent p s
  | .statusGet p => Sys2Proof.Machine.execStatusGet p s
  | .unitGet q => Sys2Proof.Machine.execUnitGet q s
  | .modeSetStop p => Sys2Proof.Machine.execModeSetStop p s
  | .modeSetRun p => Sys2Proof.Machine.execModeSetRun p s
  | .modeSetService p => Sys2Proof.Machine.execModeSetService p s
  | .modeSetLeaveService p => Sys2Proof.Machine.execModeSetLeaveService p s
  | .faultAck p => Sys2Proof.Machine.execFaultAck p s
  | .park p => Sys2Proof.Machine.execPark p s
  | .keeperRestart p => Sys2Proof.Machine.execKeeperRestart p s
  | .progLoad p => Sys2Proof.Machine.execProgLoad p s
  | .progInfo p => Sys2Proof.Machine.execProgInfo p s
  | .forceSet p => Sys2Proof.Machine.execForceSet p s
  | .forceClear p => Sys2Proof.Machine.execForceClear p s
  | .forceList p => Sys2Proof.Machine.execForceList p s
  | .forceAck p => Sys2Proof.Machine.execForceAck p s
  | .cfgSetScan p => Sys2Proof.Machine.execCfgSetScan p s
  | .cfgSetFieldIo p => Sys2Proof.Machine.execCfgSetFieldIo p s
  | .cfgSetPair p => Sys2Proof.Machine.execCfgSetPair p s
  | .cfgSetCascade p => Sys2Proof.Machine.execCfgSetCascade p s
  | .cfgSetTime p => Sys2Proof.Machine.execCfgSetTime p s
  | .cfgSetModule p => Sys2Proof.Machine.execCfgSetModule p s
  | .cfgSetMaintIpv4 p => Sys2Proof.Machine.execCfgSetMaintIpv4 p s
  | .cfgGet p => Sys2Proof.Machine.execCfgGet p s
  | .luSched p => Sys2Proof.Machine.execLuSched p s
  | .luHandover p => Sys2Proof.Machine.execLuHandover p s
  | .luStat p => Sys2Proof.Machine.execLuStat p s
  | .safeCfg p => Sys2Proof.Machine.execSafeCfg p s
  | .pslAck p => Sys2Proof.Machine.execPslAck p s
  | .safeInfo p => Sys2Proof.Machine.execSafeInfo p s
  | .jrnlInfo p => Sys2Proof.Machine.execJrnlInfo p s
  | .jrnlRead p => Sys2Proof.Machine.execJrnlRead p s
  | .recInfo p => Sys2Proof.Machine.execRecInfo p s
  | .recRead p => Sys2Proof.Machine.execRecRead p s
  | .jrnlExport p => Sys2Proof.Machine.execJrnlExport p s
  | .jrnlImport p => Sys2Proof.Machine.execJrnlImport p s
  | .timeGet p => Sys2Proof.Machine.execTimeGet p s
  | .timeSet p => Sys2Proof.Machine.execTimeSet p s
  | .timeAdj p => Sys2Proof.Machine.execTimeAdj p s
  | .timeSrc p => Sys2Proof.Machine.execTimeSrc p s
  | .alarmSet p => Sys2Proof.Machine.execAlarmSet p s
  | .quiesce p => Sys2Proof.Machine.execQuiesce p s
  | .reload p => Sys2Proof.Machine.execReload p s
  | .selftest p => Sys2Proof.Machine.execSelftest p s
  | .copy p => Sys2Proof.Machine.execCopy p s
  | .fwWrite p => Sys2Proof.Machine.execFwWrite p s
  | .fwActivate p => Sys2Proof.Machine.execFwActivate p s
  | .fwInfo p => Sys2Proof.Machine.execFwInfo p s
  | .otpSvn p => Sys2Proof.Machine.execOtpSvn p s
  | .otpRevoke p => Sys2Proof.Machine.execOtpRevoke p s
  | .attest p => Sys2Proof.Machine.execAttest p s
  | .certGet p => Sys2Proof.Machine.execCertGet p s
  | .tokenNonce p => Sys2Proof.Machine.execTokenNonce p s
  | .tokenLoad p => Sys2Proof.Machine.execTokenLoad p s
  | .rcFieldRead reader a => Sys2Proof.Machine.execRcFieldRead reader a s
  | .registerWrite writer addr v w => Sys2Proof.Machine.execRegisterWrite writer addr v w s
  | .portLinkDown p => Sys2Proof.Machine.execPortLinkDown p s
  | .cascadeLinkDown dn => Sys2Proof.Machine.execCascadeLinkDown dn s
  | .pcieLinkUp speed width bme => Sys2Proof.Machine.execPcieLinkUp speed width bme s
  | .maintEthLinkUp ip => Sys2Proof.Machine.execMaintEthLinkUp ip s
  | .arpRequestRx ip => Sys2Proof.Machine.execArpRequestRx ip s
  | .icmpEchoRx ip data => Sys2Proof.Machine.execIcmpEchoRx ip data s
  | .ptpDelayRespRx domain t4 => Sys2Proof.Machine.execPtpDelayRespRx domain t4 s
  | .wakeFrameRx p f => Sys2Proof.Machine.execWakeFrameRx p f s
  | .vbatLowChange low => Sys2Proof.Machine.execVbatLowChange low s
  | .dioOpenLoadClear n => Sys2Proof.Machine.execDioOpenLoadClear n s

end Sys2Proof.Machine
end

