-- ==== Sys2Proof/WellFormed.lean ====
section
/-!
DEFINITION. Which commands the outside can bring: every operand within the width that the line, the bus or the register
it comes from has. What an operand's type bounds already is not asked again.
-/

namespace Sys2Proof

/-- A Luosh frame whose fields have the widths of R206 and Table 5.1 (05). -/
def Frame.wellFormed (f : Frame) : Bool :=
  decide (f.dst < 2 ^ 48 ∧ f.src < 2 ^ 48 ∧ f.etype < 2 ^ 16 ∧ f.ver < 16 ∧ f.kind < 16 ∧ f.node < 1024 ∧ f.slot < 4096
    ∧ f.cycle < 2 ^ 32 ∧ f.plen < 2048 ∧ f.hchk < 2 ^ 16 ∧ f.hop < 1024 ∧ f.resv < 2 ^ 26 ∧ f.fcs < 2 ^ 32)

/-- The 64-bit words of the five memories with check bits (04 R158, 01 Table 1.1). -/
def EccMem.words : EccMem → Nat
  | .sram => 1048576
  | .image => 40960
  | .prog => 131072
  | .inst => 4096
  | .force => 2048

/-- An upset of a word that the memory has. -/
def Upset.wellFormed (u : Upset) : Bool := decide (u.word < u.mem.words)

/-- A cascade link frame whose header fields fit Table 10.3 (10). -/
def CxFrame.wellFormed (f : CxFrame) : Bool :=
  decide (f.ver < 16 ∧ f.kind < 16 ∧ f.src < 4 ∧ f.dst < 4 ∧ f.frag < 256 ∧ f.frags < 256 ∧ f.num < 2 ^ 32 ∧ f.dlen < 65536
    ∧ f.wlen < 65536 ∧ f.state < 256 ∧ f.resv < 4096 ∧ f.data.length ≤ 256 ∧ f.crc < 2 ^ 32)

/-- A command the outside can bring; the hop delay and the hold of a frame passed on lie within the bounds of 05 R202 and 10 R407. -/
def Instr.wellFormed : Instr → Bool
  | .inputFreeze _ _ => true
  | .freezePointPassedOver => true
  | .dbChallengeIrq => true
  | .tumblerPass _ image others => (image ++ others).all Upset.wellFormed
  | .tumblerPassEnd _ => true
  | .coreDone _ writes upsets => writes.all (fun w => decide (w.1 < 2 ^ 32)) && upsets.all Upset.wellFormed
  | .coreBudgetExceeded _ => true
  | .votePoint => true
  | .laneDoze _ => true
  | .commit => true
  | .keepaliveTick1ms => true
  | .bankOosOverrun _ => true
  | .cstopMaxExpiry => true
  | .coreMiscompare _ _ => true
  | .comparatorRailFault _ _ => true
  | .delayRegParityError _ _ => true
  | .injectionRun _ => true
  | .injectionRunEnd _ _ => true
  | .injectionTestLate _ => true
  | .injectionTestOverdue _ => true
  | .scrubSweep _ sram image prog tables => (sram ++ image ++ prog ++ tables).all Upset.wellFormed
  | .scrubLate _ => true
  | .prismSelfCheckFault => true
  | .prismStartupTest _ => true
  | .degAllowTick => true
  | .degAllowExpired => true
  | .degRemainJournal => true
  | .repairStepTimeout => true
  | .reloadDone => true
  | .repairSelftestDone _ => true
  | .copyWindowOpen _ _ => true
  | .copyComplete _ => true
  | .debugPortAccess _ => true
  | .linkUp _ => true
  | .linkFrameRx _ f _ turn => f.wellFormed && decide (turn < 2 ^ 32)
  | .linkMeasured _ => true
  | .frameForward _ _ f _ hopNs => f.wellFormed && decide (312 ≤ hopNs ∧ hopNs ≤ 328)
  | .csFrameRx _ f _ => f.wellFormed
  | .startupFrameRx _ f _ => f.wellFormed
  | .dataFrameRx _ f _ _ _ => f.wellFormed
  | .claimFrameRx _ f _ => f.wellFormed
  | .spareRelease _ => true
  | .rejoinHoldoffEnd => true
  | .csFrameMissing => true
  | .lineLost _ => true
  | .listenTimeout => true
  | .startupFrameTx => true
  | .csFrameTx cycle => decide (cycle < 2 ^ 32)
  | .successionTimeout => true
  | .handoverCycle => true
  | .dataSlotTx _ _ cycle => decide (cycle < 2 ^ 32)
  | .pslTimeout _ => true
  | .pslErrorRestart _ => true
  | .pslEthDatagramRx ip _ => decide (ip < 2 ^ 32)
  | .rstNAssert => true
  | .rstNRelease _ _ _ => true
  | .dbSelftestEnd _ => true
  | .dbInternalFault _ => true
  | .paramCrcRecheck => true
  | .dbCheckPoint => true
  | .dbStrobeTimeout => true
  | .dbResp _ _ => true
  | .siTerminalChange _ _ => true
  | .siFilterExpiry _ => true
  | .pairDiscrepancyTimeout _ => true
  | .testPulse _ => true
  | .pulseWindowEnd _ => true
  | .crossConnectionCheck _ => true
  | .speedComputation => true
  | .standstill _ => true
  | .tStopMaxExpiry _ => true
  | .tHoldExpiry _ => true
  | .tPreElapsed _ => true
  | .sideOffTest _ _ => true
  | .sideStuckFault _ _ => true
  | .brakeCurrentFault _ _ => true
  | .brakeOvercurrent _ _ => true
  | .brakeAppliedCurrent _ _ => true
  | .brakeTestEngageEnd _ => true
  | .brakeTestPass _ => true
  | .btIntervalExpiry _ => true
  | .btGraceExpiry _ => true
  | .brkAllowExpiry _ => true
  | .dbEncoderFault _ => true
  | .dbEncoderFaultClear _ => true
  | .vgdLoss _ _ => true
  | .sv24Loss => true
  | .sv24Return => true
  | .haspInHeld => true
  | .haspInFree => true
  | .haspTestBurst => true
  | .haspBurstRx => true
  | .haspLineLoss => true
  | .refereeLost => true
  | .takebackSet => true
  | .masterYield => true
  | .cascadeLinkUp _ _ _ => true
  | .cascadeSyncRx _ f _ holdNs => f.wellFormed && decide (392 ≤ holdNs ∧ holdNs ≤ 408)
  | .cascadeDataRx _ f => f.wellFormed
  | .cxWaitExpiry => true
  | .cascadeUnsync => true
  | .cascadeMboxRx _ _ _ f => f.wellFormed
  | .dioTerminalChange _ _ => true
  | .dioFilterExpiry _ => true
  | .dioOverload _ _ => true
  | .dioRetry _ => true
  | .dioReadbackFault _ => true
  | .dioOpenLoad _ => true
  | .fieldSupplyPresent _ _ => true
  | .fieldSupplyLost _ _ => true
  | .keepaliveTrip _ => true
  | .reflexFire _ => true
  | .reflexPulseEnd _ => true
  | .aiConversion _ code _ _ => decide (code < 2 ^ 16)
  | .encEdge _ _ => true
  | .encZPulse _ => true
  | .encFault _ _ => true
  | .encFaultClear _ => true
  | .encVSwitchOn _ _ => true
  | .encTypeChange _ _ => true
  | .captureEdge _ _ _ => true
  | .capRdIdxWrite _ v => decide (v < 1024)
  | .tbSnap => true
  | .tb2Adj _ => true
  | .timePllLock => true
  | .pllLockLoss _ => true
  | .ptpSyncRx domain t1 => decide (domain < 256 ∧ t1 < 2 ^ 64)
  | .ptpAnnounceRx domain utcOffset => decide (domain < 256 ∧ utcOffset < 2 ^ 16)
  | .ptpHoldover => true
  | .storedPairWrite => true
  | .managementViewCompare _ _ _ => true
  | .keeperSafeSeen => true
  | .supwNFall => true
  | .supplyWindowExpiry _ _ => true
  | .logicSupplyCollapse => true
  | .aonSupplyLoss => true
  | .parkGo => true
  | .parkArmTimeout => true
  | .wakeNFall => true
  | .rtcAlarm => true
  | .luoshWakeEnergy => true
  | .spuriousWakeTimeout => true
  | .wakeComplete _ => true
  | .wakeRestore => true
  | .tjSample _ => true
  | .laneRuntimeCheckDone _ => true
  | .keeperFirmwareCheckDone => true
  | .journalReplay => true
  | .recorderIndexRebuild => true
  | .autostartRunRequest => true
  | .programLoadDone _ => true
  | .loadEn _ => true
  | .psWinWrite _ off _ => decide (off < 4096 ∧ off % 4 = 0)
  | .keeperWatchdogExpiry => true
  | .keeperException => true
  | .keeperRestartDone => true
  | .mbDoorbellRing _ => true
  | .maintDatagramRx _ _ => true
  | .keeperRequestPost => true
  | .verdictRead => true
  | .requestPendingTimeout _ => true
  | .xferTimeout kind => decide (kind < 256)
  | .tokenNonceExpiry => true
  | .serviceTokenExpiry => true
  | .serviceExpiry => true
  | .journalRecordWrite => true
  | .compactionStart => true
  | .compactionDone => true
  | .yearlyRefresh => true
  | .timeRecord => true
  | .recorderSnapshotRenew => true
  | .pcieInboundWrite _ _ data _ => !data.isEmpty
  | .pcieInboundRead _ _ len _ => decide (0 < len)
  | .pcieUnsupportedRequest => true
  | .pcieReset => true
  | .outboundReadTimeout _ => true
  | .pelPop => true
  | .msixUnmask _ => true
  | .chGoStart _ _ => true
  | .dmaTimerTrigger _ _ => true
  | .lvlAdd _ _ v => decide (v < 2 ^ 32)
  | .dmaGrant _ => true
  | .descriptorComplete _ _ => true
  | .dmaError _ _ _ => true
  | .chPause _ _ _ => true
  | .chPauseDrained _ _ => true
  | .chResume _ _ => true
  | .chAbort _ _ _ => true
  | .cvuInit _ _ => true
  | .dataB _ _ _ => true
  | .dataW _ _ _ => true
  | .cvuLowWordRead _ _ _ => true
  | .hingeAccess _ _ _ _ => true
  | .hingeSplitHighRead _ => true
  | .fcsHiRead => true
  | .hingeStrikeArm => true
  | .hingeStrikeTimeout => true
  | .tunDataWrite _ => true
  | .tunDataRead => true
  | .hingeRefresh => true
  | .hingeResponse => true
  | .hingeStop => true
  | .hingeRun => true
  | .hingeFaultAck => true
  | .hingeForcePoint => true
  | .hingeForceWord => true
  | .hingeForceClear => true
  | .hingeForceClearAll => true
  | .hingeForceAck => true
  | .hingeTimeSet => true
  | .hingeTunnelSend => true
  | .hingeUnknownCode => true
  | .nop _ => true
  | .reqStatus _ => true
  | .relay _ => true
  | .xferBegin _ => true
  | .xferData _ => true
  | .xferEnd _ => true
  | .xferAbort _ => true
  | .ident _ => true
  | .statusGet _ => true
  | .unitGet _ => true
  | .modeSetStop _ => true
  | .modeSetRun _ => true
  | .modeSetService _ => true
  | .modeSetLeaveService _ => true
  | .faultAck _ => true
  | .park _ => true
  | .keeperRestart _ => true
  | .progLoad _ => true
  | .progInfo _ => true
  | .forceSet _ => true
  | .forceClear _ => true
  | .forceList _ => true
  | .forceAck _ => true
  | .cfgSetScan _ => true
  | .cfgSetFieldIo _ => true
  | .cfgSetPair _ => true
  | .cfgSetCascade _ => true
  | .cfgSetTime _ => true
  | .cfgSetModule _ => true
  | .cfgSetMaintIpv4 _ => true
  | .cfgGet _ => true
  | .luSched _ => true
  | .luHandover _ => true
  | .luStat _ => true
  | .safeCfg _ => true
  | .pslAck _ => true
  | .safeInfo _ => true
  | .jrnlInfo _ => true
  | .jrnlRead _ => true
  | .recInfo _ => true
  | .recRead _ => true
  | .jrnlExport _ => true
  | .jrnlImport _ => true
  | .timeGet _ => true
  | .timeSet _ => true
  | .timeAdj _ => true
  | .timeSrc _ => true
  | .alarmSet _ => true
  | .quiesce _ => true
  | .reload _ => true
  | .selftest _ => true
  | .copy _ => true
  | .fwWrite _ => true
  | .fwActivate _ => true
  | .fwInfo _ => true
  | .otpSvn _ => true
  | .otpRevoke _ => true
  | .attest _ => true
  | .certGet _ => true
  | .tokenNonce _ => true
  | .tokenLoad _ => true
  | .rcFieldRead _ a => decide (a.1 < 2 ^ 32)
  | .registerWrite _ addr _ _ => decide (addr < 2 ^ 32)
  | .portLinkDown _ => true
  | .cascadeLinkDown _ => true
  | .pcieLinkUp _ _ _ => true
  | .maintEthLinkUp ip => decide (ip < 2 ^ 32)
  | .arpRequestRx ip => decide (ip < 2 ^ 32)
  | .icmpEchoRx ip _ => decide (ip < 2 ^ 32)
  | .ptpDelayRespRx domain t4 => decide (domain < 256 ∧ t4 < 2 ^ 64)
  | .wakeFrameRx _ f => f.wellFormed
  | .vbatLowChange _ => true
  | .dioOpenLoadClear _ => true

end Sys2Proof
end

