-- ==== Sys2Proof/Safety.lean ====
section
/-!
DEFINITION. The words of the statements: the canonical form of memory and registers that every step keeps, what a command
leaves unchanged, and that a command completes.
-/

namespace Sys2Proof.Machine

/-- Memory in its one form: addresses strictly rising, no byte listed that an unlisted address reads as. -/
def Memory.wf (m : List Host.Cell) : Bool := Tab.wf memDefault m

/-- The copies of one register field in their one form: banks strictly rising, none listed that lists nothing, indices
strictly rising. -/
def Regs.fieldWf (t : Tab (Tab Nat)) : Bool := Tab.wf [] t && t.all (fun e => Tab.sortedFrom none e.2)

/-- The register file in its one form. -/
def Regs.wf (t : Tab (Tab (Tab Nat))) : Bool := Tab.wf [] t && t.all (fun e => Regs.fieldWf e.2)

/-- Memory, register file and present flags are in their one form, so that equal contents are equal data. -/
def State.wf (s : State) : Bool := Memory.wf s.mem && Regs.wf s.regs && Tab.wf false s.faults.present

/-- The command completes: it answers a next state of which `P` holds. -/
abbrev Does (c : Instr) (s : State) (P : State → Prop) : Prop := ∃ t, exec c s = .next t ∧ P t

/-- Every register field but the listed ones reads as before, in every bank and at every index. -/
def KeepsRegs (rows : List Row) (s t : State) : Prop :=
  ∀ r : Row, (∀ q ∈ rows, r.id ≠ q.id) → ∀ b i, rd t r b i = rd s r b i

/-- Nothing but the listed register fields has changed, and what is noted of their changes: within the clock, and for a state copy under
way. No memory, no other state of any block, nothing sent. -/
def OnlyRegs (rows : List Row) (s t : State) : Prop :=
  t = { s with regs := t.regs, clk := t.clk, marks := { s.marks with dirty := t.marks.dirty } } ∧ KeepsRegs rows s t

/-- Every byte of every memory reads as before. -/
def KeepsMem (s t : State) : Prop := ∀ (r : Region) (off : Nat), rb t r off = rb s r off

/-- Every byte of every memory but the `n` bytes from an offset of one memory reads as before. -/
def KeepsMemBut (m : Region) (o n : Nat) (s t : State) : Prop :=
  ∀ (r : Region) (off : Nat), (∀ k, k < n → r.at off ≠ m.at (o + k)) → rb t r off = rb s r off

/-- Every byte of every memory reads as before, but, in the lanes' images, the delivered payloads and status words of the Penesh
connections, which the safe state closes (06 R274, R276, R277). -/
def KeepsMemButPsl (s t : State) : Prop :=
  ∀ (r : Region) (off : Nat), (∀ (l : Lane), ∀ e ∈ pslConns s,
    (∀ k, k < e.2.len → r.at off ≠ (Region.image l).at ((planeArea e.2.inW e.2.inOfs e.2.len).1 + k)) ∧
    (∀ k, k < 4 → r.at off ≠ (Region.image l).at (offWord + 4 * (s.psl.statBase + e.1) + k))) → rb t r off = rb s r off

/-- The events of the state after are those before and one more, of this code and argument, and the code is the last raised. -/
def Recorded (s t : State) (code arg : Nat) : Prop :=
  t.faults.lastCode = code ∧ ∃ e : Event, t.faults.events = s.faults.events ++ [e] ∧ e.code = code ∧ e.arg = arg

end Sys2Proof.Machine
end

