-- ==== Sys2Proof/Certificates/Slice0/Obligations.lean ====
section
/-!
DEFINITION. The statements about the model, for the provers: what each command does and leaves, what the shared operations
of faults, votes and memories do, and what every step keeps.
-/

open Sys2Proof Sys2Proof.Machine

/-! ## Lanes (chapter 4) -/

/-- CORE_MISCOMPARE, COMPARATOR_RAIL_FAULT and DELAY_REG_PARITY_ERROR (04 R146 to R150): the first error of an admitted lane
whose checks run is recorded in CMP_STAT, with its groups or place and TB[1], and excludes the lane with cause 1, 2 or 3; a
difference also fills the capture registers. A report of a lane whose checks are off (fenced, held, under debug or under an
injection run) and whose registers hold no error of the same clock changes nothing.
Model choices that it rests on: log entry 59. -/
def Obligations.LockstepErrorExcludes : Prop :=
  ∀ (s : State) (l : Lane), live s = true →
    (checksLive s l = false → cmpSameClock s l = false →
      (∀ diff : BitVec 168, exec (.coreMiscompare l diff) s = .next s) ∧
      (∀ groups : BitVec 5, exec (.comparatorRailFault l groups) s = .next s) ∧
      (∀ loc : Fin 54, exec (.delayRegParityError l loc) s = .next s)) ∧
    ((lane s l).admitted = true → checksLive s l = true → cmpHolds s l = false →
    (∀ diff : BitVec 168, diff ≠ 0 →
      exec (.coreMiscompare l diff) s = .next (excludeLane (wrL (capture (wrL (wrL s R.CMP_STAT_MISCOMPARE l 1)
        R.CMP_STAT_MIS_GRP l (diffGroups diff)) l diff) R.CMP_T_TB1 l (tb1 s)) l 0x01)) ∧
    (∀ groups : BitVec 5, groups ≠ 0 →
      exec (.comparatorRailFault l groups) s = .next (excludeLane (wrL (wrL (wrL s R.CMP_STAT_RAIL_FAULT l 1)
        R.CMP_STAT_RAIL_GRP l groups.toNat) R.CMP_T_TB1 l (tb1 s)) l 0x02)) ∧
    (∀ loc : Fin 54,
      exec (.delayRegParityError l loc) s = .next (excludeLane (wrL (wrL (wrL s R.CMP_STAT_PAR_ERR l 1)
        R.CMP_STAT_PAR_LOC l loc.val) R.CMP_T_TB1 l (tb1 s)) l 0x03)))

/-- An exclusion (04 R167, R168, R192) of one of three admitted lanes with no repair copying: the lane is fenced and no longer
admitted, the other two stay as they are but for their debug ports, which close, EXCL holds the cause and the scan in every lane's block,
the allowance remainder, where it is known, is to be journalled, and the fault of the cause is raised and lasts; what the excluded lane had
not yet read of the captured edges may be freed, which moves the Keeper's pointer alone; memory, the other blocks' state and every register
but EXCL, the status words of the lanes and the capture unit's stay.
Model choices that it rests on: log entries 24, 46. -/
def Obligations.ExclusionOfThree : Prop :=
  ∀ (s : State) (l : Lane) (cause : Nat), 1 ≤ cause → cause ≤ 9 → (admittedLanes s).length = 3 → s.repair.copying = false →
    let t := excludeLane s l cause
    (lane t l).admitted = false ∧ (lane t l).fenced = true ∧ (∀ m, m ≠ l → lane t m = { lane s m with portOpen := false }) ∧
    (∀ m, rdL t R.EXCL_CAUSE m l.idx = cause ∧ rdL t R.EXCL_SCAN m l.idx = scanNo s % 2 ^ R.EXCL_SCAN.width) ∧
    t.degr.due = (s.degr.due || s.degr.known) ∧ isPresent t (0x0300 + cause) = true ∧ condActive t (0x0300 + cause) = true ∧
    t.mem = s.mem ∧ t.modl = s.modl ∧ t.db = s.db ∧ t.scan = s.scan ∧ t.time = { s.time with capRd := t.time.capRd } ∧
    (∀ r, r ≠ 3 → Tab.get 0 t.time.capRd r = Tab.get 0 s.time.capRd r) ∧ t.out = s.out ∧
    KeepsRegs [R.EXCL_CAUSE, R.EXCL_SCAN, R.LANE_STAT_STATE, R.PRISM_STAT_VOTE_MODE, R.DBG_STAT_DBG_ACT, R.DBG_STAT_PORT_OPEN,
      R.CAP_STAT_FILL, R.CAP_LOST_COUNT, R.CAP_RD_IDX_IDX] s t

/-- INJECTION_RUN, INJECTION_RUN_END, INJECTION_TEST_LATE and INJECTION_TEST_OVERDUE (04 R151 to R157) of a lane with its clocks: a run
starts at start-up, in the lane's window after the commit or as the self-test of a repair, and a lane with none of these stays; 213 ns later
it ends: every pattern of a sound comparator passes, and then FAIL_PAT is 0xFF, INJ_AGE 0, LATE 0, the fault 0x0310 ends and the lane has
passed; the first pattern whose report is not that of R152 is recorded and excludes an admitted lane with cause 4; a run that is not over
goes on.
Model choices that it rests on: log entry 59. -/
def Obligations.InjectionRuns : Prop :=
  ∀ (s : State) (l : Lane), live s = true →
    (laneClocked s l = true → (lane s l).injRun = false →
      (((lane s l).started = none ∧ s.repair.target ≠ some l) ∨ (injWaits s l = true ∧ injWindow s l = true) ∨
        (s.repair.target = some l ∧ s.repair.waiting.isSome = true ∧ rdL s R.REPAIR_STAT_STEP .x = 2) →
      Does (.injectionRun l) s fun t => lane t l = { lane s l with injRun := true, injAt := s.time.now } ∧ t.regs = s.regs ∧ t.mem = s.mem ∧
        t.scan = { s.scan with injWin := if injWaits s l then some (scanNo s) else s.scan.injWin }) ∧
      ((lane s l).started ≠ none → injWaits s l = false → s.repair.target ≠ some l → exec (.injectionRun l) s = .next s)) ∧
    injFail [] = none ∧
    (∀ odd, (lane s l).injRun = true → (lane s l).injAt + 213 ≤ s.time.now → (lane s l).irqHeld = false →
      (injFail odd = none → exec (.injectionRunEnd l odd) s = .next (setLane (endCond (wrL (wrL (wrL (setLane s l (fun x =>
        { x with injRun := false, injDue := false })) R.INJ_STAT_FAIL_PAT l 0xFF) R.INJ_STAT_INJ_AGE l 0) R.INJ_STAT_LATE l 0)
        0x0310 l.idx) l (fun x => { x with started := some true }))) ∧
      (∀ p, injFail odd = some p → (lane s l).started ≠ none → (lane s l).admitted = true → s.repair.target ≠ some l →
        exec (.injectionRunEnd l odd) s = .next (excludeLane (wrL (setLane s l (fun x =>
          { x with injRun := false, injDue := false })) R.INJ_STAT_FAIL_PAT l p) l 0x04))) ∧
    (∀ odd, (lane s l).injRun = true → (lane s l).injAt + 213 ≤ s.time.now → (lane s l).irqHeld = true → injFail odd = none →
      Does (.injectionRunEnd l odd) s fun t => (lane t l).injRun = false ∧ (lane t l).irqHeld = false ∧ (lane t l).dozing = false ∧
        rdL t R.SCAN_STAT_PHASE l = (if (lane s l).dozing then 1 else rdL s R.SCAN_STAT_PHASE l)) ∧
    (∀ odd, s.time.now < (lane s l).injAt + 213 → exec (.injectionRunEnd l odd) s = .next s) ∧
    (2048 ≤ rdL s R.INJ_STAT_INJ_AGE l → rdL s R.INJ_STAT_LATE l = 0 →
      exec (.injectionTestLate l) s = .next (raiseOn (wrL s R.INJ_STAT_LATE l 1) 0x0310 l.idx l.idx)) ∧
    (rdL s R.INJ_STAT_INJ_AGE l < 2048 → exec (.injectionTestLate l) s = .next s) ∧
    (8192 ≤ rdL s R.INJ_STAT_INJ_AGE l → exec (.injectionTestOverdue l) s = .next (excludeLane s l 0x09)) ∧
    (rdL s R.INJ_STAT_INJ_AGE l < 8192 → exec (.injectionTestOverdue l) s = .next s)

/-- SCRUB_SWEEP and SCRUB_LATE (04 R160 to R162) of a lane whose scrubber may work: the sweep goes on by a word for each 600 MHz clock of
its window; one that finds nothing and has come through all memories counts, shows its time and ends the fault 0x0311; a word found
correctable is rewritten, flagged and recorded as 0x0312 in lane SRAM and as 0x0201 in Tumbler's memories; an uncorrectable word is flagged,
with its address in lane SRAM, and excludes an admitted lane with cause 8; a sweep late by 1 s is flagged and raises 0x0311; without its
window the sweep waits.
Model choices that it rests on: log entries 46, 59, 97. -/
def Obligations.Scrubbing : Prop :=
  ∀ (s : State) (l : Lane), live s = true →
    (∀ sram image prog tables, scrubs s l = false → exec (.scrubSweep l sram image prog tables) s = .next s) ∧
    (∀ sram image prog tables, scrubs s l = true →
      let us := sram ++ image ++ prog ++ tables
      let u := upset s l us
      let n := min scrubTotal ((lane s l).scrubPos + 3 * (lane s l).scrubNs / 5)
      let finds := scrubFinds u l us (lane s l).scrubPos n
      let moved := fun (t : State) => setLane t l (fun x => { x with scrubPos := n % scrubTotal, scrubNs := 0 })
      (finds = [] → n < scrubTotal → exec (.scrubSweep l sram image prog tables) s = .next (moved u)) ∧
      (finds = [] → n = scrubTotal → exec (.scrubSweep l sram image prog tables) s = .next (endCond (setLane (wrL (wrL (moved u)
        R.SCRUB_STAT_SWEEPS l (rdL u R.SCRUB_STAT_SWEEPS l + 1)) R.SCRUB_STAT_SWEEP_MS l
        (min ((s.time.now - (lane s l).scrubAt) / 1000000) 0xFFFF)) l (fun x => { x with scrubAt := s.time.now })) 0x0311 l.idx)) ∧
      (∀ m w d, finds = [(m, w)] → eccRead u m l w (misread us m w) = .corrected d →
        Does (.scrubSweep l sram image prog tables) s fun t => Recorded s t (if m = .sram then 0x0312 else 0x0201) l.idx ∧ eccRead t m l w 0 = .good d ∧
          rdL t (if m = .sram then R.ECC_STAT_CORR else R.TUM_STAT_ECC_CORR) l = 1 ∧ (lane t l).scrubPos = n % scrubTotal ∧
          (lane t l).scrubNs = 0 ∧ (lane t l).scrubAt = (if n = scrubTotal then s.time.now else (lane s l).scrubAt)) ∧
      (∀ m w d, finds = [(m, w)] → eccRead u m l w (misread us m w) = .uncorrectable d → (lane s l).admitted = true →
        exec (.scrubSweep l sram image prog tables) s = .next (moved (excludeLane (if m = .sram then
          wrL (setFlagL u R.ECC_STAT_UNC l) R.ECC_ADDR_WORD l w else setFlagL u R.TUM_STAT_ECC_UNC l) l 0x08)))) ∧
    (laneClocked s l = true → Tab.get false s.faults.active (65536 * 0x0311 + l.idx) = false →
      ((lane s l).scrubAt + 1000000000 ≤ s.time.now →
        exec (.scrubLate l) s = .next (raiseOn (setFlagL s R.SCRUB_STAT_LATE l) 0x0311 l.idx l.idx)) ∧
      (s.time.now < (lane s l).scrubAt + 1000000000 → exec (.scrubLate l) s = .next s))

/-- The degraded allowance (04 R176, R178, R179): with two lanes admitted and no lane under debug each second takes one from the
remainder that the first of them holds, in every lane's block, the remainder, once it is known, is marked for the journal, and at 0 the expiry is shown
and raises 0x0313; with three lanes nothing counts.
Model choices that it rests on: log entries 46, 59. -/
def Obligations.DegradedAllowance : Prop :=
  ∀ s : State, live s = true →
    (∀ a b, admittedLanes s = [a, b] →
      ((∀ l, (lane s l).dbgAct = false) →
        (Does .degAllowTick s fun t => OnlyRegs [R.DEG_REMAIN_SECONDS] s t ∧
          ∀ l, rdL t R.DEG_REMAIN_SECONDS l = (rdL s R.DEG_REMAIN_SECONDS a - 1) % 2 ^ R.DEG_REMAIN_SECONDS.width) ∧
        (s.degr.known = true →
          exec .degRemainJournal s = .next { s with degr := { s.degr with journalled := rdL s R.DEG_REMAIN_SECONDS a, due := true } }) ∧
        (s.degr.known = false → exec .degRemainJournal s = .next s)) ∧
      (rdL s R.DEG_REMAIN_SECONDS a = 0 → s.degr.expired = false →
        exec .degAllowExpired s = .next (raiseOn (syncLanes { s with degr := { s.degr with expired := true } }) 0x0313 0 0)) ∧
      (0 < rdL s R.DEG_REMAIN_SECONDS a → exec .degAllowExpired s = .next s)) ∧
    ((admittedLanes s).length = 3 →
      exec .degAllowTick s = .next s ∧ exec .degRemainJournal s = .next s ∧ exec .degAllowExpired s = .next s)

/-- The steps of a hot repair (04 R180 to R190): once the target's load has ended, RELOAD_DONE with the PROG_ID of the admitted lanes'
program computed over the read-back store goes on to step 2, with another or none leaves reason 0x43; the self-test passed leaves valid check bits and goes on to step 3, or the repair ends with
0x44; a step past its time limit ends it with 0x48; a copy window opens that a commit has left free while the source is idle, the 257th
ends the repair with 0x45; the copy that has had its time, with 2 µs left, leaves the target with the source's memories, released as a
candidate in step 5, and without goes on.
Model choices that it rests on: log entries 23, 24. -/
def Obligations.RepairSteps : Prop :=
  ∀ (s : State) (l a : Lane) (rest : List Lane), live s = true → s.repair.target = some l → admittedLanes s = a :: rest →
    (∀ w, s.repair.waiting = some w → rdL s R.REPAIR_STAT_STEP .x = 1 → (lane s l).load = none →
      (s.repair.readBack = some (rdL s R.PROG_ID_LO_ID a + 2 ^ 32 * rdL s R.PROG_ID_HI_ID a) →
        exec .reloadDone s = .next { wrAll (lateVerdict s (some w) 0) R.REPAIR_STAT_STEP 2 with
          repair := { s.repair with waiting := none } }) ∧
      (s.repair.readBack ≠ some (rdL s R.PROG_ID_LO_ID a + 2 ^ 32 * rdL s R.PROG_ID_HI_ID a) →
        Does .reloadDone s fun t => (∀ m, rdL t R.REPAIR_STAT_REASON m = 0x43) ∧ t.repair = { s.repair with waiting := none })) ∧
    ((lane s l).load.isSome = true → exec .reloadDone s = .next s) ∧
    (∀ w, s.repair.waiting = some w → rdL s R.REPAIR_STAT_STEP .x = 2 → (lane s l).injRun = false →
      ((lane s l).started = some true →
        exec (.repairSelftestDone true) s = .next { wrAll (eccClean s l) R.REPAIR_STAT_STEP 3 with
          repair := { s.repair with waiting := none } }) ∧
      ((lane s l).started ≠ some true → exec (.repairSelftestDone true) s = .next (repairFail s 0x44)) ∧
      exec (.repairSelftestDone false) s = .next (repairFail s 0x44)) ∧
    (∀ w n, s.repair.waiting = some w → (rdL s R.REPAIR_STAT_STEP .x = 1 ∧ n = 2000000000) ∨ (rdL s R.REPAIR_STAT_STEP .x = 2 ∧ n = 200000000) →
      (s.repair.since + n ≤ s.time.now → exec .repairStepTimeout s = .next (repairFail s 0x48)) ∧
      (s.time.now < s.repair.since + n → exec .repairStepTimeout s = .next s)) ∧
    (s.repair.waiting = none → exec .repairStepTimeout s = .next s) ∧
    (s.repair.copying = true → s.repair.win = .free → s.scan.isOpen = false → coreIdle s s.repair.source = true →
      dmaIdle s s.repair.source = true → rdL s R.TUM_STAT_STATE s.repair.source ≠ 2 →
      (s.repair.windows < 256 → (lane s s.repair.source).admitted = true → Does (.copyWindowOpen s.repair.source l) s fun t =>
        t.repair = { s.repair with windows := s.repair.windows + 1, win := .isOpen s.time.now } ∧
        KeepsRegs [R.REPAIR_STAT_WINDOWS, R.REPAIR_COPY_DIRTY, R.REPAIR_COPY_FIRST_KIB] s t ∧ t.mem = s.mem ∧ t.lanes = s.lanes) ∧
      (256 ≤ s.repair.windows → exec (.copyWindowOpen s.repair.source l) s = .next (repairFail s 0x45))) ∧
    (∀ source target, s.repair.win = .shut ∨ source ≠ s.repair.source ∨ target ≠ l → exec (.copyWindowOpen source target) s = .next s) ∧
    (∀ t0, s.repair.win = .isOpen t0 →
      (Memory.wf s.mem = true → s.repair.first + (dirtyBlocks s).length ≤ copyRate (s.time.now - t0) →
        Does (.copyComplete true) s fun t => (lane t l).candidate = true ∧ (lane t l).fenced = false ∧ (lane t l).held = false ∧
          t.repair.copying = false ∧ (∀ m, rdL t R.REPAIR_STAT_STEP m = 5) ∧ rdL t R.SCAN_STAT_PHASE l = 8 ∧
          (∀ off, off < 0x800000 → rb t (.laneSram l) off = rb s (.laneSram s.repair.source) off) ∧
          (∀ off, off < 0x50000 → rb t (.image l) off = rb s (.image s.repair.source) off) ∧
          (∀ off, off < 0x8000 → rb t (.inst l) off = rb s (.inst s.repair.source) off) ∧
          ∀ off, off < 0x4000 → rb t (.forceTab l) off = rb s (.forceTab s.repair.source) off) ∧
      exec (.copyComplete false) s = .next s ∧
      (copyRate (s.time.now - t0) < s.repair.first + (dirtyBlocks s).length → exec (.copyComplete true) s = .next s))

/-- Prism's self-check fault and its start-up test (04 R171, R172): SELF_FAULT in every lane's block and the F4 fault 0x031B; before
the first commit a test whose 196 word sets are all answered right by both voter copies, as those of a sound voter are, shows TEST_PASS and
changes no other register, any other raises 0x031C; after the first commit there is no test.
Model choices that it rests on: log entries 30, 100. -/
def Obligations.PrismTests : Prop :=
  (∀ k, k < 196 → ∀ c, testAnswer [] k c = testExpected k) ∧
  ∀ s : State, live s = true →
    exec .prismSelfCheckFault s = .next (raise (wrAll s R.PRISM_STAT_SELF_FAULT 1) 0x031B 0) ∧
    (∀ odd, s.scan.committed = false →
      ((∀ k, k < 196 → ∀ c, testAnswer odd k c = testExpected k) →
        Does (.prismStartupTest odd) s fun t => OnlyRegs [R.PRISM_STAT_TEST_PASS] s t ∧ ∀ l, rdL t R.PRISM_STAT_TEST_PASS l = 1) ∧
      (∀ k c, k < 196 → testAnswer odd k c ≠ testExpected k → exec (.prismStartupTest odd) s = .next (raise s 0x031C 0))) ∧
    (∀ odd, s.scan.committed = true → exec (.prismStartupTest odd) s = .next s)

/-! ## Faults (chapter 11) -/

/-- A raised fault (11 R416, R417) of class F0, F1 or F2, on the SoC's path or the management path: one event more, with the
code, the argument, the scan and TB[1]; it is the last fault, it counts, saturating at 0xFFFF; a code of class F1 or F2 is
present from then on and no other present flag changes; mode, lanes, Deadbolt, outputs, memory and registers stay.
Model choices that it rests on: log entries 46, 56. -/
def Obligations.RaiseRecords : Prop :=
  ∀ (s : State) (code arg : Nat), classOf code ≤ 2 →
    let t := raise s code arg
    (∃ e : Event, t.faults.events = s.faults.events ++ [e] ∧ e.code = code ∧ e.arg = arg ∧ e.scan = scanNo s ∧ e.tb1 = tb1 s) ∧
    t.faults.lastCode = code ∧ t.faults.lastScan = scanNo s ∧ t.faults.total = min (s.faults.total + 1) (max s.faults.total 0xFFFF) ∧
    (isPresent t code = true ↔ (classOf code ≠ 0 ∨ isPresent s code = true)) ∧
    (∀ c, c ≠ code → isPresent t c = isPresent s c) ∧
    t.faults.cstop = s.faults.cstop ∧ t.faults.ackPend = s.faults.ackPend ∧ t.faults.stopDue = s.faults.stopDue ∧
    t.modl = s.modl ∧ t.lanes = s.lanes ∧ t.db = s.db ∧ t.fio = s.fio ∧ t.mem = s.mem ∧ t.regs = s.regs ∧ t.out = s.out

/-- An F4 fault puts the module into the immediate safe state (11 R420): mode SAFE, Prism releases nothing more, its enables
are 0 and PUMP_S stops, no requested mode or controlled stop is left; no byte of memory changes but, in the lanes' images, the
delivered payloads and status words of the Penesh connections, which close (06 R274, R276). An F3 fault (11 R424, R428): in mode
RUN a controlled stop is due at the next commit, unless one runs; in every other mode ACK_PEND is set; the mode stays. A controlled stop that has run for CSTOP_MAX with an axis RELEASED or
STOPPING raises the F4 fault 0x0104 (11 R427); earlier, or with every axis in another state, or with no stop running, CSTOP_MAX_EXPIRY
has no effect.
Model choices that it rests on: log entries 46, 56. -/
def Obligations.FaultClassesReact : Prop :=
  ∀ (s : State) (code arg : Nat),
    let t := raise s code arg
    (classOf code = 4 → t.modl.mode = .safe ∧ t.modl.prismStop = true ∧ t.modl.nextMode = none ∧ t.modl.stopWaits = false ∧
    t.db.teS = 0 ∧ t.db.brkS = 0 ∧ t.db.pumpS = false ∧ t.db.pumpD = s.db.pumpD ∧ t.faults.cstop = none ∧
    t.faults.stopDue = false ∧ isPresent t code = true ∧ t.modl.power = s.modl.power ∧ t.modl.rst = s.modl.rst ∧
    KeepsMemButPsl s t) ∧
    (classOf code = 3 →
    t.modl = s.modl ∧ t.regs = s.regs ∧ t.mem = s.mem ∧ isPresent t code = true ∧
    (s.modl.mode = .run → s.faults.cstop = none → t.faults.stopDue = true ∧ t.faults.ackPend = s.faults.ackPend) ∧
    (s.modl.mode = .run → s.faults.cstop ≠ none → t.faults.stopDue = s.faults.stopDue ∧ t.faults.cstop = s.faults.cstop) ∧
    (s.modl.mode ≠ .run → t.faults.ackPend = true ∧ t.faults.stopDue = s.faults.stopDue)) ∧
    (live s = true →
      (∀ t0 a, a < 4 → s.faults.cstop = some t0 → 10000000 * rdL s R.FLT_CFG_CSTOP_MAX .x ≤ s.scan.tx - t0 →
        (rd s R.AXIS_STAT_STATE 0 a = 1 ∨ rd s R.AXIS_STAT_STATE 0 a = 2) → exec .cstopMaxExpiry s = .next (raise s 0x0104 0)) ∧
      (∀ t0, s.faults.cstop = some t0 → s.scan.tx - t0 < 10000000 * rdL s R.FLT_CFG_CSTOP_MAX .x →
        exec .cstopMaxExpiry s = .next s) ∧
      ((∀ a, a < 4 → rd s R.AXIS_STAT_STATE 0 a ≠ 1 ∧ rd s R.AXIS_STAT_STATE 0 a ≠ 2) → exec .cstopMaxExpiry s = .next s) ∧
      (s.faults.cstop = none → exec .cstopMaxExpiry s = .next s))

/-- An accepted fault acknowledge (11 R417, R429): a code stays present exactly where it is and its condition lasts or it is
of class F4; ACK_PEND is cleared exactly where no F3 is left; no condition, event or count changes. -/
def Obligations.AcknowledgeClears : Prop :=
  ∀ s : State, s.wf = true →
    let t := faultAck s
    (∀ c, isPresent t c = (isPresent s c && (condActive s c || classOf c == 4))) ∧
    t.faults.ackPend = (s.faults.ackPend && classPresent t 3) ∧ t.faults.active = s.faults.active ∧
    t.faults.events = s.faults.events ∧ t.faults.total = s.faults.total ∧ t.modl = s.modl ∧ t.regs = s.regs ∧ t.mem = s.mem

/-! ## Field I/O (chapter 8) -/

/-- DIO_TERMINAL_CHANGE and DIO_FILTER_EXPIRY (08 R336): the terminal shows the comparator's level and the filter counts from
then; without a filter, or when the filter time has passed at a steady level, the filtered state takes the level, and its change is
an edge for the capture unit (R362). No memory changes.
Model choices that it rests on: log entry 47. -/
def Obligations.DioInputFilter : Prop :=
  ∀ (s : State) (n : Fin 48), live s = true →
    (∀ level, rd s R.CH_STAT_TERM 0 n.val ≠ b2n level → rd s R.CH_CFG_FILT 0 n.val ≠ 0 →
      exec (.dioTerminalChange n level) s = .next (outSync (setDio (wr s R.CH_STAT_TERM (b2n level) 0 n.val) n.val
        (fun x => { x with chgAt := s.time.now, diffAt := s.time.now })) n.val)) ∧
    (∀ level, rd s R.CH_STAT_TERM 0 n.val ≠ b2n level → rd s R.CH_CFG_FILT 0 n.val = 0 →
      Does (.dioTerminalChange n level) s fun t => rd t R.CH_STAT_TERM 0 n.val = b2n level ∧
        rd t R.CH_STAT_STATE 0 n.val = b2n level ∧ t.mem = s.mem ∧ t.modl = s.modl) ∧
    (∀ level, rd s R.CH_STAT_TERM 0 n.val = b2n level → exec (.dioTerminalChange n level) s = .next s) ∧
    (rd s R.CH_STAT_TERM 0 n.val ≠ rd s R.CH_STAT_STATE 0 n.val →
      filtNs (rd s R.CH_CFG_FILT 0 n.val) ≤ s.time.now - (dioSt s n.val).chgAt →
      Does (.dioFilterExpiry n) s fun t =>
        rd t R.CH_STAT_STATE 0 n.val = rd s R.CH_STAT_TERM 0 n.val % 2 ^ R.CH_STAT_STATE.width ∧
        t.time.edges = s.time.edges ++ [(n.val, rd s R.CH_STAT_TERM 0 n.val == 1)] ∧
        KeepsRegs [R.CH_STAT_STATE] s t ∧ t.mem = s.mem ∧ t.modl = s.modl ∧ t.faults = s.faults) ∧
    (s.time.now - (dioSt s n.val).chgAt < filtNs (rd s R.CH_CFG_FILT 0 n.val) → exec (.dioFilterExpiry n) s = .next s)

/-- DIO_OVERLOAD and DIO_RETRY (08 R338, R350): an overload of an output that has driven for 1 ms, or a thermal shutdown of one, driven
or off, latches the lead of its group, counts an overload, disarms the lead's reflex cells and raises 0x0703; a thermal shutdown of a
lead that is latched already only shows THERM; a channel that is no output takes neither. With RETRY set, 100 ms later, where lines 2 to 4
of Table 8.6 would switch the lead on, its latch is cleared and the condition ends.
Model choices that it rests on: log entries 47. -/
def Obligations.DioOverloadLatch : Prop :=
  ∀ (s : State) (n : Fin 48), live s = true →
    let lead := leadOf s n.val
    let off := fun (u : State) => (cellIdx.filter (fun i => leadOf s (rd s R.RFX0_TGT 0 i) == lead)).foldl cellOff
      (setDio u lead (fun x => { x with ovlAt := s.time.now }))
    (isOut s n.val = true →
      (effective s n.val = true → latched s lead = false → (dioSt s lead).outAt + 1000000 ≤ s.time.now →
        exec (.dioOverload n false) s = .next (outSyncAll (raiseOn (off (rcAdd (wr s R.CH_STAT_OVL 1 0 lead)
          R.CH_STAT_OVL_CNT 1 lead)) 0x0703 lead lead))) ∧
      (effective s n.val = false ∨ s.time.now < (dioSt s lead).outAt + 1000000 → exec (.dioOverload n false) s = .next s) ∧
      (latched s lead = false →
        exec (.dioOverload n true) s = .next (outSyncAll (raiseOn (off (wr s R.CH_STAT_THERM 1 0 lead)) 0x0703 lead lead))) ∧
      (latched s lead = true → exec (.dioOverload n true) s = .next (wr s R.CH_STAT_THERM 1 0 lead))) ∧
    (isOut s n.val = false → ∀ thermal, exec (.dioOverload n thermal) s = .next s) ∧
    (lead = n.val → latched s n.val = true → rd s R.CH_CFG_RETRY 0 n.val = 1 → isOut s n.val = true → outBelow s n.val = true →
      (100000000 ≤ s.time.now - (dioSt s n.val).ovlAt →
        exec (.dioRetry n) s = .next (outSyncAll (endCond (wr (wr s R.CH_STAT_OVL 0 0 n.val) R.CH_STAT_THERM 0 0 n.val) 0x0703 n.val))) ∧
      (s.time.now - (dioSt s n.val).ovlAt < 100000000 → exec (.dioRetry n) s = .next s))

/-- DIO_READBACK_FAULT, DIO_OPEN_LOAD and DIO_OPEN_LOAD_CLEAR (08 R339): RBK of an output whose terminal has differed from its
effective output for more than 100 µs, OPEN of an output with OPEN_EN set that has driven 1 for 10 ms, each with its fault; the load's
return clears OPEN and ends the condition. A report before its time, or of a flag that is already set, changes nothing.
Model choices that it rests on: log entry 46. -/
def Obligations.DioDiagnostics : Prop :=
  ∀ (s : State) (n : Fin 48), live s = true →
    (isOut s n.val = true → rd s R.CH_STAT_TERM 0 n.val ≠ rd s R.CH_STAT_OUT 0 n.val → rd s R.CH_STAT_RBK 0 n.val = 0 →
      ((dioSt s n.val).diffAt + 100000 < s.time.now →
        exec (.dioReadbackFault n) s = .next (raiseOn (wr s R.CH_STAT_RBK 1 0 n.val) 0x0704 n.val n.val)) ∧
      (s.time.now ≤ (dioSt s n.val).diffAt + 100000 → exec (.dioReadbackFault n) s = .next s)) ∧
    (rd s R.CH_STAT_RBK 0 n.val = 1 → exec (.dioReadbackFault n) s = .next s) ∧
    (isOut s n.val = true → rd s R.CH_STAT_OUT 0 n.val = 1 → rd s R.CH_CFG_OPEN_EN 0 n.val = 1 → rd s R.CH_STAT_OPEN 0 n.val = 0 →
      ((dioSt s n.val).outAt + 10000000 ≤ s.time.now →
        exec (.dioOpenLoad n) s = .next (raiseOn (wr s R.CH_STAT_OPEN 1 0 n.val) 0x0705 n.val n.val)) ∧
      (s.time.now < (dioSt s n.val).outAt + 10000000 → exec (.dioOpenLoad n) s = .next s)) ∧
    (rd s R.CH_STAT_OPEN 0 n.val = 1 → exec (.dioOpenLoad n) s = .next s ∧
      exec (.dioOpenLoadClear n) s = .next (endCond (wr s R.CH_STAT_OPEN 0 0 n.val) 0x0705 n.val))

/-- The banks (08 R333, R341, R342, R348, R350): a field supply whose monitor has held its finding for 1 ms and that reads 17.5 V or
more, or 17.3 V or less, is present or absent from then on in PWR and VFIELD and ends or raises 0x0706, a loss also disarms the bank's
cells; a reading that changes nothing only shows in VFIELD; 1 ms after the last keep-alive tick another is sent while Prism releases, the
grid runs and two lanes are admitted; a gap of more than 0.8 KA_T trips the bank and disarms its cells, and the first scan after it
records 0x070B; a bank still out of service at the third commit returns to service, its filters restarted and its cells armed, with 0x070C.
Model choices that it rests on: log entries 46, 47, 122. -/
def Obligations.FieldBanks : Prop :=
  ∀ (s : State) (k : Fin 6), live s = true →
    let shown := fun v => wr s R.BANK_STAT_VFIELD (min v 0x3FF) 0 k.val
    let set := fun v (on : Bool) => wr { shown v with fio := { s.fio with pwrAt := Tab.put 0 s.fio.pwrAt k.val s.time.now } }
      R.BANK_STAT_PWR (b2n on) 0 k.val
    let due := max s.modl.rstAt (Tab.get 0 s.fio.pwrAt k.val) + 1000000
    let noted := fun (u : State) => { u with fio := { u.fio with kaNew := setB u.fio.kaNew k.val true } }
    (∀ v, rd s R.BANK_STAT_PWR 0 k.val = 0 →
      (175 ≤ v → due ≤ s.time.now → exec (.fieldSupplyPresent k v) s = .next (outSyncAll (endCond (set v true) 0x0706 k.val))) ∧
      (v < 175 ∨ s.time.now < due → exec (.fieldSupplyPresent k v) s = .next (shown v)) ∧
      exec (.fieldSupplyLost k v) s = .next (shown v)) ∧
    (∀ v, rd s R.BANK_STAT_PWR 0 k.val = 1 →
      exec (.fieldSupplyPresent k v) s = .next (shown v) ∧
      (v ≤ 173 → due ≤ s.time.now → exec (.fieldSupplyLost k v) s =
        .next (outSyncAll (raiseOn (disarmBank (set v false) k.val) 0x0706 k.val k.val))) ∧
      (173 < v ∨ s.time.now < due → exec (.fieldSupplyLost k v) s = .next (shown v))) ∧
    (∀ t0, s.fio.tick = some t0 →
      (s.modl.prismStop = false → s.scan.gridOn = true → 2 ≤ (admittedLanes s).length → t0 + 1000000 ≤ s.time.now →
        exec .keepaliveTick1ms s = .next { s with fio := { s.fio with tick := some s.time.now } }) ∧
      (s.modl.prismStop = true ∨ s.scan.gridOn = false ∨ (admittedLanes s).length < 2 ∨ s.time.now < t0 + 1000000 →
        exec .keepaliveTick1ms s = .next s) ∧
      (rd s R.BANK_STAT_KA_TRIP 0 k.val = 0 →
        (800 * rd s R.KA_STAT_KA_US < s.time.now - t0 →
          exec (.keepaliveTrip k) s =
            .next (outSyncAll (noted (disarmBank (wr s R.BANK_STAT_KA_TRIP 1 0 k.val) k.val)))) ∧
        (s.time.now - t0 ≤ 800 * rd s R.KA_STAT_KA_US → exec (.keepaliveTrip k) s = .next s))) ∧
    (bitAt s.fio.kaNew k.val = 1 → ∃ e ∈ (kaRecord s).faults.events, e.code = 0x070B ∧ e.arg = k.val) ∧
    (rd s R.BANK_STAT_OOS 0 k.val = 1 → rd s R.BANK_STAT_OOS_SCANS 0 k.val = 3 →
      exec (.bankOosOverrun k) s = .next (outSyncAll (cellsWatch (cellsArm (raise (filtersRestart (wr (wr (wr s R.BANK_STAT_OOS 0 0 k.val)
        R.BANK_CTRL_OOS 0 0 k.val) R.BANK_STAT_OOS_SCANS 0 0 k.val) k.val) 0x070C k.val))))) ∧
    (rd s R.BANK_STAT_OOS_SCANS 0 k.val < 3 → exec (.bankOosOverrun k) s = .next s)

/-- REFLEX_FIRE and REFLEX_PULSE_END (08 R351): an armed cell whose condition holds (level) or has come to hold (edge) takes
its target over, counts and reports 0x0701; a pulse lets go when its time has passed. A cell that is not armed does neither; a pulse under
way is not started again.
Model choices that it rests on: log entries 3, 47. -/
def Obligations.ReflexCells : Prop :=
  ∀ (s : State) (i : Fin 64), live s = true →
    (rd s R.RFX3_ARMED 0 i.val = 1 → rd s R.RFX3_HOLD 0 i.val = 0 →
      (2 ≤ rd s R.RFX0_COND 0 i.val → cellCond s i.val = true) → (rd s R.RFX0_COND 0 i.val < 2 → (cellSt s i.val).edge = true) →
      exec (.reflexFire i) s = .next (raise (outSyncAll (rcAdd (setCell (wr (setCell s i.val (fun y => { y with edge := false }))
        R.RFX3_HOLD 1 0 i.val) i.val (fun y => { y with pulseEnd := s.time.now + 1000 * rd s R.RFX2_PULSE_US 0 i.val }))
        R.RFX3_FIRE_CNT 1 i.val)) 0x0701 i.val)) ∧
    (rd s R.RFX3_ARMED 0 i.val ≠ 1 → exec (.reflexFire i) s = .next s) ∧
    (rd s R.RFX3_ARMED 0 i.val = 1 → rd s R.RFX3_HOLD 0 i.val = 1 → rd s R.RFX0_COND 0 i.val < 2 → (cellSt s i.val).edge = true →
      2 ≤ rd s R.RFX0_ACTION 0 i.val → exec (.reflexFire i) s = .next (setCell s i.val (fun y => { y with edge := false }))) ∧
    (rd s R.RFX3_HOLD 0 i.val = 1 → 2 ≤ rd s R.RFX0_ACTION 0 i.val →
      ((cellSt s i.val).pulseEnd ≤ s.time.now + 1000 →
        exec (.reflexPulseEnd i) s = .next (outSyncAll (wr s R.RFX3_HOLD 0 0 i.val))) ∧
      (s.time.now + 1000 < (cellSt s i.val).pulseEnd → exec (.reflexPulseEnd i) s = .next s))

/-- AI_CONVERSION (08 R353, R355, R356), as the first of its channel or 100 µs after the one before, for every code, compliance voltage and
limit report. The conversion, at most 65,535, joins the channel's last 1,000; the filtered code is the mean over the span that FILT selects;
the band is that of Table 8.9 for the mean in nA, passed by 20 µA after the first conversion; COMPL_LOW comes with a voltage below
COMPL_MIN and goes with 10 in a row at COMPL_MIN + 200 mV or with LOOP_EN = 0. A new band, or the first where it is an alarm, is recorded: as
0x0707, whose condition lasts, where it is an alarm, as 0x0702 within the bands 0 to 2, while a return from an alarm ends the condition and
records nothing; COMPL_LOW is recorded as 0x0708 when it comes and ends that condition when it goes. The filtered code and the voltage are
shown; nothing else changes: no other register field, no other channel, no memory, no mode. An earlier conversion has no effect.
Model choices that it rests on: log entries 3, 49, 114. -/
def Obligations.AnalogConversion : Prop :=
  ∀ (s : State) (c : Fin 8) (code mV : Nat) (limit : Bool), live s = true →
    let x := aiSt s c.val
    let hist := (min code 65535 :: x.hist).take 1000
    let mean := aiMean (hist.take (aiSpan (rd s R.AI_CFG_FILT 0 c.val)))
    let cmin := rd s R.AI_CFG_COMPL_MIN 0 c.val
    (x.hist = [] ∨ x.convAt + 100000 ≤ s.time.now →
      ∃ (y : AiSt) (t : State), exec (.aiConversion c code mV limit) s = .next t ∧
        y.hist = hist ∧ y.code = mean ∧ y.limit = limit ∧ y.convAt = s.time.now ∧
        y.above = (if cmin + 200 ≤ mV then x.above + 1 else 0) ∧
        (y.low = true ↔ rd s R.AI_CFG_LOOP_EN 0 c.val = 1 ∧ (mV < cmin ∨ (x.low = true ∧ y.above < 10))) ∧
        (x.hist = [] → y.band = bandCodes.getD (bandFirst (aiNa mean)) 0) ∧
        (x.hist ≠ [] → y.band = bandCodes.getD (bandMove (aiNa mean) ((bandCodes.idxOf? x.band).getD 0)) 0) ∧
        (let shown := setAi (wr (wr s R.AI_STAT_CODE mean 0 c.val) R.AI_STAT_VCOMP (min mV 65535) 0 c.val) c.val y
         let u := if y.band = x.band ∧ (x.hist ≠ [] ∨ y.band ≤ 2) then shown
           else if 2 < y.band then raiseOn shown 0x0707 c.val c.val
           else if x.band ≤ 2 then raise shown 0x0702 c.val
           else endCond shown 0x0707 c.val
         t = if y.low = x.low then u else if y.low = true then raiseOn u 0x0708 c.val c.val else endCond u 0x0708 c.val) ∧
        rd t R.AI_STAT_CODE 0 c.val = mean % 2 ^ R.AI_STAT_CODE.width ∧ rd t R.AI_STAT_VCOMP 0 c.val = min mV 65535 ∧
        aiSt t c.val = y ∧ (∀ m, m ≠ c.val → aiSt t m = aiSt s m ∧ rd t R.AI_STAT_CODE 0 m = rd s R.AI_STAT_CODE 0 m ∧
          rd t R.AI_STAT_VCOMP 0 m = rd s R.AI_STAT_VCOMP 0 m) ∧
        KeepsRegs [R.AI_STAT_CODE, R.AI_STAT_VCOMP] s t ∧ t.mem = s.mem ∧ t.modl = s.modl ∧ t.lanes = s.lanes ∧ t.db = s.db ∧
        t.scan = s.scan ∧ t.time = s.time ∧ t.out = s.out) ∧
    (x.hist ≠ [] → s.time.now < x.convAt + 100000 → exec (.aiConversion c code mV limit) s = .next s)

/-- The encoders (08 R359 to R361, R635, 07 R315): an edge counts in the controller where EN is set, in the sense INV gives,
and in the Deadbolt while that is live; a Z pulse notes the count, counts, and clears the count with ZMODE 2, and with ZMODE 1 at the first
since the entry to mode RUN; a fault shows its cause, counts and raises 0x0709, its end after 10 ms without a cause clears all; ENC_V
takes the voltage of the TYPE pin once, 10 ms after the release of RST_N, and a later change of the pin, shown in every power state,
switches it off. A Z pulse is an edge for the capture unit (R362).
Model choices that it rests on: log entry 46. -/
def Obligations.FieldEncoders : Prop :=
  ∀ (s : State) (e : Fin 4),
    (∀ htl, live s = false → exec (.encTypeChange e htl) s = .next (wr s R.FENC_STAT_HTL (b2n htl) 0 e.val)) ∧
    (live s = true →
    (∀ up, Does (.encEdge e up) s fun t => KeepsRegs [R.ENC_CNT_COUNT] s t ∧ t.mem = s.mem ∧ t.faults = s.faults ∧
      rd t R.ENC_CNT_COUNT 0 e.val = (if dbLive s then step32 up (rd s R.ENC_CNT_COUNT 0 e.val) else rd s R.ENC_CNT_COUNT 0 e.val) ∧
      (encSt t e.val).count = (if rd s R.ENC_CFG_EN 0 e.val = 1 then step32 (xor up (rd s R.ENC_CFG_INV 0 e.val == 1)) (encSt s e.val).count
        else (encSt s e.val).count) ∧
      ∀ m, m ≠ e.val → encSt t m = encSt s m ∧ rd t R.ENC_CNT_COUNT 0 m = rd s R.ENC_CNT_COUNT 0 m) ∧
    (Does (.encZPulse e) s fun t => t.regs = s.regs ∧ t.mem = s.mem ∧ t.faults = s.faults ∧
      t.time.edges = s.time.edges ++ [(64 + e.val, true)] ∧
      (encSt t e.val).count = (if rd s R.ENC_CFG_ZMODE 0 e.val = 2 ∨
        (rd s R.ENC_CFG_ZMODE 0 e.val = 1 ∧ s.modl.mode = .run ∧ (encSt s e.val).zseen = false) then 0 else (encSt s e.val).count) ∧
      (encSt t e.val).zpos = (encSt s e.val).count ∧ (encSt t e.val).zcnt = ((encSt s e.val).zcnt + 1) % 65536 ∧
      ∀ m, m ≠ e.val → encSt t m = encSt s m) ∧
    (∀ cause, exec (.encFault e cause) s = .next (raiseOn (rcAdd (wr (wr (setEnc s e.val (fun x => { x with fltAt := s.time.now }))
      (encRow cause.val) 1 0 e.val) R.FENC_STAT_FAULT 1 0 e.val) R.FENC_STAT_ERR_CNT 1 e.val) 0x0709 e.val e.val)) ∧
    (rd s R.FENC_STAT_FAULT 0 e.val = 1 →
      ((encSt s e.val).fltAt + 10000000 ≤ s.time.now →
        exec (.encFaultClear e) s = .next (endCond (wr (wr (wr (wr s R.FENC_STAT_FAULT 0 0 e.val) R.FENC_STAT_AMPL 0 0 e.val)
          R.FENC_STAT_OPEN 0 0 e.val) R.FENC_STAT_SAME 0 0 e.val) 0x0709 e.val)) ∧
      (s.time.now < (encSt s e.val).fltAt + 10000000 → exec (.encFaultClear e) s = .next s)) ∧
    (∀ htl, Tab.get none s.fio.encV e.val = none →
      (s.modl.rstAt + 10000000 ≤ s.time.now →
        exec (.encVSwitchOn e htl) s = .next (wr { s with fio := { s.fio with encV := Tab.put none s.fio.encV e.val (some htl) } }
          R.FENC_STAT_HTL (b2n htl) 0 e.val)) ∧
      (s.time.now < s.modl.rstAt + 10000000 → exec (.encVSwitchOn e htl) s = .next s)) ∧
    (∀ htl, Tab.get none s.fio.encV e.val = some (!htl) →
      exec (.encVSwitchOn e htl) s = .next s ∧
      Does (.encTypeChange e htl) s fun t => rd t R.FENC_STAT_HTL 0 e.val = b2n htl ∧ bitAt t.fio.encOff e.val = 1 ∧
        KeepsRegs [R.FENC_STAT_HTL] s t ∧ t.mem = s.mem ∧ t.faults = s.faults))

/-! ## The Deadbolt (chapter 7) -/

/-- An axis that meets a condition of immediate reaction (07 R310, R312): while released or stopping its TE enable goes to 0 and
it is SAFE, or LOCKED where the condition locks or a lock is due, an expired allowance (R325) among them, with the cause shown, 9 for
that allowance; a SAFE axis is LOCKED where the condition locks;
a locked axis, or one that the armed block does not use, stays as it is, and a SAFE axis too where the condition does not lock. No
other axis and no memory changes.
Model choices that it rests on: log entries 40, 47. -/
def Obligations.AxisImmediate : Prop :=
  ∀ (s : State) (a cause : Nat) (lock : Bool), a < 4 → cause < 16 →
    let t := axisNow s a cause lock
    ((axKind s a = 0 ∨ axState s a = axLocked ∨ (axState s a = axSafe ∧ lock = false)) → t = s) ∧
    (axKind s a ≠ 0 → (axState s a = axReleased ∨ axState s a = axStopping ∨ (axState s a = axSafe ∧ lock = true)) →
      bitAt t.db.te a = 0 ∧ rd t R.AXIS_STAT_CAUSE 0 a = (if (axSt s a).stopAtSs = true then 9 else cause) ∧
      axState t a = (if lock = true ∨ (axSt s a).lockNext ≠ 0 ∨ (axSt s a).stopAtSs = true then axLocked else axSafe) ∧
      (∀ b, b < 4 → b ≠ a → axState t b = axState s b ∧ bitAt t.db.te b = bitAt s.db.te b) ∧ t.mem = s.mem ∧ t.modl = s.modl)

/-- State FAULT of the Deadbolt (07 R287): DB_INTERNAL_FAULT with code 1 to 3, or 5 with a pump source stopped, and a CRC of the armed
block that no longer fits (code 4), show the code and state 0xF, put every switch enable, PUMP_D and the test pulse outputs to 0 and
raise the F4 fault 0x0610; no memory changes but for the Penesh connections, which close. Code 5 with both pumps running, the other codes, and a block that fits or was never armed change nothing.
Model choices that it rests on: log entry 40. -/
def Obligations.DeadboltFault : Prop :=
  ∀ s : State, live s = true → dbLive s = true →
    let faulty := fun (fcode : Nat) (t : State) => rd t R.DB_STAT_STATE = 0xF ∧ rd t R.DB_STAT_FCODE = fcode ∧
      t.db.te = 0 ∧ t.db.brk = 0 ∧ t.db.pumpD = false ∧ t.db.tpo = 0 ∧ t.modl.mode = .safe ∧ isPresent t 0x0610 = true ∧ KeepsMemButPsl s t
    (∀ fcode : Fin 16, 1 ≤ fcode.val → fcode.val ≤ 3 → Does (.dbInternalFault fcode) s (faulty fcode.val)) ∧
    (s.db.pumpS = false ∨ s.db.pumpD = false → Does (.dbInternalFault 5) s (faulty 5)) ∧
    (s.db.pumpS = true → s.db.pumpD = true → exec (.dbInternalFault 5) s = .next s) ∧
    (∀ fcode : Fin 16, fcode.val = 0 ∨ fcode.val = 4 ∨ 5 < fcode.val → exec (.dbInternalFault fcode) s = .next s) ∧
    (s.db.armedOnce = true → crc32c (rbs s .paramArmed 0 0x3FC) ≠ rd s R.DB_PARAM_ID_ID → Does .paramCrcRecheck s (faulty 4)) ∧
    (s.db.armedOnce = false ∨ crc32c (rbs s .paramArmed 0 0x3FC) = rd s R.DB_PARAM_ID_ID → exec .paramCrcRecheck s = .next s)

/-- The self-test of the Deadbolt ends (07 R286, 13 R470): passed, it is in CONFIG with the test pulse outputs at 24 V, PUMP_D
toggling, and both brake tests due; failed, it is in FAULT with code 0xF. In any other state the report changes nothing.
DEBUG_PORT_ACCESS (04 R192 to R194): through an open port the lane is under debug from then on, an admitted one is excluded with cause
0x0A, and the Deadbolt holds; through a port that is not open, and to the Keeper, nothing happens to a lane.
Model choices that it rests on: log entries 40, 44. -/
def Obligations.SelftestAndDebug : Prop :=
  ∀ (s : State) (l : Lane), live s = true →
    (dbState s = dbSelftest →
      (Does (.dbSelftestEnd true) s fun t => dbState t = dbConfig ∧ t.db.tpo = 0xF ∧ t.db.pumpD = true ∧ t.db.epoch = s.time.now ∧
        t.mem = s.mem ∧ ∀ b, b < 2 → rd t R.BRK_STAT_BT_DUE 0 b = 1) ∧
      (Does (.dbSelftestEnd false) s fun t => dbState t = dbFaultSt ∧ rd t R.DB_STAT_FCODE = 0xF ∧ t.modl.mode = .safe)) ∧
    (dbState s ≠ dbSelftest → ∀ pass, exec (.dbSelftestEnd pass) s = .next s) ∧
    ((lane s l).portOpen = true → (lane s l).admitted = true →
      exec (.debugPortAccess (some l)) s = .next (dbgHold (excludeLane (setLane s l (fun x => { x with dbgAct := true })) l 0x0A))) ∧
    ((lane s l).portOpen = true → (lane s l).admitted = false →
      Does (.debugPortAccess (some l)) s fun t => (lane t l).dbgAct = true ∧ rd t R.DB_STAT_DBG_HOLD = 1 ∧ t.mem = s.mem ∧ t.modl = s.modl) ∧
    ((lane s l).portOpen = false → exec (.debugPortAccess (some l)) s = .next s) ∧
    exec (.debugPortAccess none) s = .next s

/-- The supply of the switches (07 R290, R291, 19 R630): a pump source that stops, and the loss of SV24, clear VGD_OK and put every axis
through its immediate reaction; the source counts as stopped from then on, and with PUMP_S the Hasp is released; the return of SV24
brings VGD back only while both pumps toggle.
Model choices that it rests on: log entries 41, 120. -/
def Obligations.SwitchSupply : Prop :=
  ∀ s : State, live s = true →
    (s.db.pumpS = true → s.db.pumpD = true →
      exec (.vgdLoss true false) s = .next (haspRelease (vgdFall { wr s R.DB_STAT_PUMP_S_OK 0 with db := { s.db with pumpS := false } })) ∧
      exec (.vgdLoss false true) s = .next (vgdFall { wr s R.DB_STAT_PUMP_D_OK 0 with db := { s.db with pumpD := false } }) ∧
      exec (.vgdLoss true true) s = .next (haspRelease (vgdFall { wr (wr s R.DB_STAT_PUMP_S_OK 0) R.DB_STAT_PUMP_D_OK 0 with
        db := { s.db with pumpS := false, pumpD := false } })) ∧
      exec (.vgdLoss false false) s = .next s) ∧
    (Does .sv24Loss s fun t => rd t R.DB_STAT_VGD_OK = 0 ∧ t.db.sv24 = false ∧ t.mem = s.mem ∧
      ∀ a, a < 4 → axKind s a ≠ 0 → (axState s a = axReleased ∨ axState s a = axStopping) → bitAt t.db.te a = 0) ∧
    (s.db.pumpS = true → s.db.pumpD = true → Does .sv24Return s fun t => rd t R.DB_STAT_VGD_OK = 1 ∧ t.db.sv24 = true ∧ t.mem = s.mem) ∧
    (s.db.pumpS = false ∨ s.db.pumpD = false → Does .sv24Return s fun t => t.db = { s.db with sv24 := true } ∧
      OnlyRegs [R.DB_STAT_PUMP_S_OK, R.DB_STAT_PUMP_D_OK] { s with db := t.db } t)

/-- Challenge and response (07 R297 to R303). A lane's response of this check is its last write. At the check point of a cycle, once in
it, of the armed Deadbolt whose strobes are acquired, with no liveness failure: the strobe in
its window, the right voted Prism word of this cycle and at least two right responses make LIVE_OK 1 and raise nothing where every lane
answered rightly; a strobe out of its window, a wrong or missing Prism word or fewer than two right responses make a liveness failure, F4 0x0611. In both
cases, and in CONFIG, the responses are cleared and a new challenge, never 0, is there. A time-out of the strobe is a liveness failure too.
Model choices that it rests on: log entries 3, 42, 43. -/
def Obligations.ChallengeResponse : Prop :=
  ∀ s : State, live s = true →
    (∀ l v, laneClocked s l = true → (lane s l).injRun = false →
      exec (.dbResp l v) s = .next { s with db := { s.db with resp := s.db.resp.set l (some v.toNat) } }) ∧
    (checkCome s 0 = false ∨ checkAhead s = false → exec .dbCheckPoint s = .next s) ∧
    (checkCome s 0 = true → checkAhead s = true → rdL s R.SCAN_CTRL_SRC .x = 1 ∨ s.scan.interim = false →
      let done := fun (t : State) => t.db.resp = .all none ∧ t.db.prism = none ∧ rd t R.DB_CHAL_C ≠ 0 ∧ t.db.strobeAt = some s.time.now ∧
        t.db.chkAt = some (cycleSerial s)
      (dbState s = dbConfig → Does .dbCheckPoint s fun t => done t ∧ OnlyRegs [R.DB_CHAL_C] { s with db := t.db } t) ∧
      (dbArmed s = true → rd s R.DB_STAT_LIVE_FAIL = 0 → s.db.acq = true →
        let c := rd s R.DB_CHAL_C
        let good := fun (l : Lane) => s.db.resp.get l == some (dbResponse (respInit l) c)
        (strobeOk s = true → s.db.prism = some (c, dbResponse respPInit c) → (∀ l, good l = true) →
          Does .dbCheckPoint s fun t => done t ∧ rd t R.DB_STAT_LIVE_OK = 1 ∧ rd t R.DB_CHECK_RESP_OK = 7 ∧
            t.faults.present = s.faults.present ∧ t.modl = s.modl) ∧
        ((strobeOk s = false ∨ s.db.prism ≠ some (c, dbResponse respPInit c) ∨ (Lane.all.filter good).length < 2) →
          Does .dbCheckPoint s fun t => done t ∧ rd t R.DB_STAT_LIVE_FAIL = 1 ∧ rd t R.DB_STAT_LIVE_OK = 0 ∧ isPresent t 0x0611 = true ∧
            t.modl.mode = .safe))) ∧
    (∀ t0, dbArmed s = true → s.db.acq = true → rd s R.DB_STAT_LIVE_FAIL = 0 → s.db.strobeAt = some t0 →
      pChk s + chkTol s ≤ s.time.now - t0 → exec .dbStrobeTimeout s = .next (liveFail s)) ∧
    (∀ t0, s.db.strobeAt = some t0 → s.time.now - t0 < pChk s + chkTol s → exec .dbStrobeTimeout s = .next s)

/-- Safety inputs (07 R305 to R307): a terminal that changes outside its own pulse window starts its count, inside it only its level is
noted; a level that has held for T_FILT outside the windows becomes the side's state, and the pairs then move; a pair that stays in TRANS
for T_DISC goes to FAULT with cause 1. The test pulses (07 R304, R305): when it is due, in CONFIG or ARMED, TPO_j goes to 0 V with the
levels of all terminals noted; at the end of TP_W it is back at 24 V; in SELFTEST each output has one of 200 µs in its step; the check of cross connections 100 µs later puts every pair with a
noted side that reads 1 again into FAULT.
Model choices that it rests on: log entries 45, 47, 113, 141. -/
def Obligations.SafetyInputs : Prop :=
  ∀ s : State, live s = true →
    (∀ (i : Fin 16) level, dbState s ≠ dbReset → (siSt s i.val).raw ≠ level →
      Does (.siTerminalChange i level) s fun t => (siSt t i.val).raw = level ∧ (siSt t i.val).filt = (siSt s i.val).filt ∧
        (inOwnWindow s i.val = false → (siSt t i.val).cand = level ∧ (siSt t i.val).chgAt = s.time.now ∧ (siSt t i.val).paused = 0) ∧
        (inOwnWindow s i.val = true → (siSt t i.val).cand = (siSt s i.val).cand ∧ (siSt t i.val).chgAt = (siSt s i.val).chgAt) ∧
        (∀ j, j ≠ i.val → siSt t j = siSt s j) ∧ t.regs = s.regs ∧ t.mem = s.mem ∧ t.faults = s.faults) ∧
    (∀ i : Fin 16, dbLive s = true → dbState s ≠ dbSelftest → (siSt s i.val).cand ≠ (siSt s i.val).filt →
      inOwnWindow s i.val = false → sideFilt s i.val + (siSt s i.val).paused ≤ s.time.now - (siSt s i.val).chgAt →
      exec (.siFilterExpiry i) s = .next (pairsMove (setFilt s i.val (siSt s i.val).cand))) ∧
    (∀ i : Fin 16, s.time.now - (siSt s i.val).chgAt < sideFilt s i.val → exec (.siFilterExpiry i) s = .next s) ∧
    (∀ p : Fin 8, dbLive s = true → rd s R.SPAIR_STAT_STATE 0 p.val = 2 →
      ((spSt s p.val).at_ + msNs (par s (0x16 + 8 * p.val) 2) ≤ s.time.now →
        exec (.pairDiscrepancyTimeout p) s = .next (pairsMove (pairFault s p.val 1))) ∧
      (s.time.now < (spSt s p.val).at_ + msNs (par s (0x16 + 8 * p.val) 2) → exec (.pairDiscrepancyTimeout p) s = .next s)) ∧
    (∀ j : Fin 4, dbState s = dbSelftest →
      (selftestPulseDue s j.val = true → Does (.testPulse j) s fun t => bitAt t.db.tpo j.val = 0 ∧
        pulseSt t j.val = ⟨true, s.time.now, siLevels s, 0, 0⟩ ∧
        (∀ i, i ≠ j.val → pulseSt t i = pulseSt s i) ∧ t.regs = s.regs ∧ t.mem = s.mem ∧ t.faults = s.faults) ∧
      (selftestPulseDue s j.val = false → exec (.testPulse j) s = .next s) ∧
      ((pulseSt s j.val).run = true → (pulseSt s j.val).start + 200000 ≤ s.time.now →
        Does (.pulseWindowEnd j) s fun t => bitAt t.db.tpo j.val = 1 ∧ pulseSt t j.val = { pulseSt s j.val with run := false } ∧
          (∀ i, i ≠ j.val → pulseSt t i = pulseSt s i) ∧ t.regs = s.regs ∧ t.mem = s.mem ∧ t.faults = s.faults) ∧
      (s.time.now < (pulseSt s j.val).start + 200000 → exec (.pulseWindowEnd j) s = .next s)) ∧
    (∀ j : Fin 4, (dbState s = dbConfig ∨ dbArmed s = true) →
      (pulseDue s j.val = true → Does (.testPulse j) s fun t => bitAt t.db.tpo j.val = 0 ∧
        pulseSt t j.val = ⟨true, s.time.now, siLevels s, 0, 0⟩ ∧
        (∀ i, i ≠ j.val → pulseSt t i = pulseSt s i) ∧ t.regs = s.regs ∧ t.mem = s.mem ∧ t.faults = s.faults) ∧
      (pulseDue s j.val = false → exec (.testPulse j) s = .next s) ∧
      ((pulseSt s j.val).run = true → (pulseSt s j.val).start + tpW s ≤ s.time.now →
        Does (.pulseWindowEnd j) s fun t => bitAt t.db.tpo j.val = 1 ∧ (pulseSt t j.val).run = false ∧ t.mem = s.mem ∧ t.modl = s.modl) ∧
      (s.time.now < (pulseSt s j.val).start + tpW s → exec (.pulseWindowEnd j) s = .next s) ∧
      ((pulseSt s j.val).cross ≠ 0 → (pulseSt s j.val).start + tpW s + 100000 ≤ s.time.now →
        exec (.crossConnectionCheck j) s = .next (pairsMove ((List.range 16).foldl (fun t i =>
          if bitAt (pulseSt s j.val).cross i == 1 && (siSt t i).raw then pairFault t (i / 2) 4 else t)
          (setPulse s j.val (fun x => { x with cross := 0 }))))) ∧
      ((pulseSt s j.val).cross = 0 ∨ s.time.now < (pulseSt s j.val).start + tpW s + 100000 → exec (.crossConnectionCheck j) s = .next s))

/-- Speed and the times of an axis (07 R310, R312, R316, R318, R319, R325): a computation, 250 µs after the one before, keeps the last 33
counts of each encoder and shows its speed over T_GATE; a standstill ends a travel stop, and stops a holding axis whose allowance has
expired; T_STOP_MAX locks an axis that still stops with F2 0x060A, T_HOLD ends a holding stop, T_PRE lets the brake follow. Before the
time has passed nothing happens.
Model choices that it rests on: log entry 47. -/
def Obligations.AxisTimes : Prop :=
  ∀ (s : State) (a : Fin 4), live s = true →
    (dbLive s = true → s.db.compAt + 250000 ≤ s.time.now → Does .speedComputation s fun t =>
      (∀ e, e < 4 → Tab.get [] t.db.hist e = (rd s R.ENC_CNT_COUNT 0 e :: Tab.get [] s.db.hist e).take 33 ∧
        rd t R.ENC_SPD_V 0 e = ofSigned 32 (speedOf (Tab.get [] t.db.hist e) (if axKind s e = 0 then 4 else axGate s e)) % 2 ^ 32) ∧
      t.mem = s.mem ∧ t.modl = s.modl) ∧
    (dbLive s = false ∨ s.time.now < s.db.compAt + 250000 → exec .speedComputation s = .next s) ∧
    (dbArmed s = true → still s a.val = true →
      (axKind s a.val = 1 → axState s a.val = axStopping →
        exec (.standstill a) s = .next (axisOff s a.val (rd s R.AXIS_STAT_CAUSE 0 a.val) false)) ∧
      (axKind s a.val = 2 → (axSt s a.val).stopAtSs = true → exec (.standstill a) s = .next (axisStop s a.val 9 9))) ∧
    (still s a.val = false → exec (.standstill a) s = .next s) ∧
    (axKind s a.val = 1 → axState s a.val = axStopping → msNs (par s (axBase a.val + 20) 2) ≤ s.time.now - (axSt s a.val).stopAt →
      exec (.tStopMaxExpiry a) s = .next (axisNow (raise s 0x060A a.val) a.val 6 true)) ∧
    (s.time.now - (axSt s a.val).stopAt < msNs (par s (axBase a.val + 20) 2) → exec (.tStopMaxExpiry a) s = .next s) ∧
    (axKind s a.val = 2 → axState s a.val = axStopping → msNs (par s (axBase a.val + 22) 2) ≤ s.time.now - (axSt s a.val).stopAt →
      exec (.tHoldExpiry a) s = .next (axisOff s a.val (rd s R.AXIS_STAT_CAUSE 0 a.val) false)) ∧
    (s.time.now - (axSt s a.val).stopAt < msNs (par s (axBase a.val + 22) 2) → exec (.tHoldExpiry a) s = .next s) ∧
    (axKind s a.val = 2 → axState s a.val = axReleased → msNs (par s (axBase a.val + 24) 2) ≤ s.time.now - (axSt s a.val).relAt →
      exec (.tPreElapsed a) s = .next (dbSettle (setAx s a.val (fun x => { x with preOk := true })))) ∧
    (s.time.now - (axSt s a.val).relAt < msNs (par s (axBase a.val + 24) 2) → exec (.tPreElapsed a) s = .next s)

/-- Brake sides, currents and encoder faults (07 R293, R315, R320, R324, R325): a terminal that contradicts its enable, or does not
follow its off test, for which the side is off when it is due, is a side fault; a current outside its range 100 ms after the release, or
above 3.5 A, blocks the brake, with 0x060E unless that lasts already; a current above 20 mA for 10 ms while applied is a side fault of each side that conducts, else of both; a lost encoder
locks a travel axis with cause 5 and blocks the brake of a holding axis; it is over 10 ms after its cause was last found.
Model choices that it rests on: log entries 46, 47. -/
def Obligations.SidesAndCurrents : Prop :=
  ∀ s : State, live s = true → dbLive s = true →
    let shown := fun (b : Fin 2) mA => wr s R.BRK_I_MA (min mA 0xFFF) 0 b.val
    let block := fun (b : Fin 2) mA => dbSettle (setBr (raiseNew (shown b mA) 0x060E b.val b.val) b.val (fun x => { x with bCur := true }))
    (∀ (n : Fin 12) on, sideEnable s n.val = !on → exec (.sideStuckFault n on) s = .next (sideStuck s n.val on)) ∧
    (∀ (n : Fin 12) on, sideEnable s n.val = on → exec (.sideStuckFault n on) s = .next s) ∧
    (∀ n : Fin 12, sideEnable s n.val = true → offTestDue s n.val = true →
      let t := dbReadback { s with db := { s.db with offAt := Tab.put 0 s.db.offAt n.val (s.time.now + 1) } }
      exec (.sideOffTest n false) s = .next (sideStuck t n.val true) ∧ exec (.sideOffTest n true) s = .next t) ∧
    (∀ (n : Fin 12) f, sideEnable s n.val = false ∨ offTestDue s n.val = false → exec (.sideOffTest n f) s = .next s) ∧
    (∀ (b : Fin 2) mA, dbArmed s = true → brkReleased s b.val = true → msNs 100 ≤ s.time.now - (brSt s b.val).relAt →
      (mA < par s (brkBase b.val) 2 ∨ par s (brkBase b.val + 2) 2 < mA → exec (.brakeCurrentFault b mA) s = .next (block b mA)) ∧
      (par s (brkBase b.val) 2 ≤ mA → mA ≤ par s (brkBase b.val + 2) 2 → exec (.brakeCurrentFault b mA) s = .next (shown b mA))) ∧
    (∀ (b : Fin 2) mA, 3500 < mA → exec (.brakeOvercurrent b mA) s = .next (block b mA)) ∧
    (∀ (b : Fin 2) mA, mA ≤ 3500 → exec (.brakeOvercurrent b mA) s = .next (shown b mA)) ∧
    (∀ (b : Fin 2) mA, brkReleased s b.val = true → exec (.brakeAppliedCurrent b mA) s = .next (shown b mA)) ∧
    (∀ (b : Fin 2) mA, brkReleased s b.val = false →
      let m := b2n (sideConducts s (8 + 2 * b.val)) + 2 * b2n (sideConducts s (9 + 2 * b.val))
      (20 < mA → (brSt s b.val).appAt + msNs 10 ≤ s.time.now →
        exec (.brakeAppliedCurrent b mA) s = .next (brakeSideFault (shown b mA) b.val (if m = 0 then 3 else m))) ∧
      (mA ≤ 20 ∨ s.time.now < (brSt s b.val).appAt + msNs 10 → exec (.brakeAppliedCurrent b mA) s = .next (shown b mA))) ∧
    (∀ e : Fin 4,
      let f := raiseNew { s with db := { s.db with encFlt := setB s.db.encFlt e.val true, encAt := Tab.put 0 s.db.encAt e.val s.time.now } }
        0x0609 e.val e.val
      (axKind s e.val = 1 → exec (.dbEncoderFault e) s = .next (axisNow f e.val 5 true)) ∧
      (axKind s e.val = 2 → axBrk s e.val < 2 →
        exec (.dbEncoderFault e) s = .next (dbSettle (setBr f (axBrk s e.val) (fun x => { x with bEnc := true })))) ∧
      (axKind s e.val ≠ 1 → axKind s e.val ≠ 2 ∨ 2 ≤ axBrk s e.val → exec (.dbEncoderFault e) s = .next f)) ∧
    (∀ e : Fin 4, bitAt s.db.encFlt e.val = 1 →
      (Tab.get 0 s.db.encAt e.val + msNs 10 ≤ s.time.now → exec (.dbEncoderFaultClear e) s = .next (endCond
        { s with db := { s.db with encFlt := setB s.db.encFlt e.val false } } 0x0609 e.val)) ∧
      (s.time.now < Tab.get 0 s.db.encAt e.val + msNs 10 → exec (.dbEncoderFaultClear e) s = .next s))

/-- Brake tests and the allowance (07 R321 to R325, Table 7.6): after T_ENG the test is in LOAD with the count noted; after T_ENG
and T_LOAD it has passed, is no longer due, unblocks the brake and is recorded; when the interval has passed a test is due with
0x0606 unless that lasts already, when the grace has passed the brake is blocked; the end of the allowance raises 0x060F and stops the axis or, while it is
released, marks it to stop at the next standstill. Before its time each changes nothing.
Model choices that it rests on: log entries 46, 47. -/
def Obligations.BrakeTests : Prop :=
  ∀ (s : State) (b : Fin 2) (a : Nat), live s = true → brkAxis s b.val = some a →
    let eng := msNs (par s (brkBase b.val + 4) 2)
    let both := msNs (par s (brkBase b.val + 4) 2 + par s (brkBase b.val + 6) 2)
    let gone := raiseOn (wr (wr (wr s R.BRK_STAT_ALLOW_RUN 0 0 b.val) R.BRK_STAT_ALLOW_EXP 1 0 b.val) R.BRK_STAT_ALLOW_S 0 0 b.val)
      0x060F b.val b.val
    (btPhase s b.val = 1 →
      (eng ≤ s.time.now - (brSt s b.val).btAt →
        exec (.brakeTestEngageEnd b) s = .next (setBr (wr s R.BRK_STAT_BT_PHASE 2 0 b.val) b.val
          (fun x => { x with cLoad := rd s R.ENC_CNT_COUNT 0 a }))) ∧
      (s.time.now - (brSt s b.val).btAt < eng → exec (.brakeTestEngageEnd b) s = .next s)) ∧
    (btPhase s b.val = 2 →
      (both ≤ s.time.now - (brSt s b.val).btAt →
        Does (.brakeTestPass b) s fun t => rd t R.BRK_STAT_BT_PHASE 0 b.val = 3 ∧ rd t R.BRK_STAT_BT_RESULT 0 b.val = 1 ∧
          rd t R.BRK_STAT_BT_DUE 0 b.val = 0 ∧ (brSt t b.val).bFail = false ∧ (brSt t b.val).bGrace = false ∧
          (brSt t b.val).passAt = s.time.now ∧ t.faults.lastCode = 0x0602 ∧ t.mem = s.mem ∧ t.modl = s.modl) ∧
      (s.time.now - (brSt s b.val).btAt < both → exec (.brakeTestPass b) s = .next s)) ∧
    (rd s R.BRK_STAT_BT_DUE 0 b.val = 0 →
      (3600000000000 * par s (brkBase b.val + 10) 1 ≤ s.time.now - (brSt s b.val).passAt →
        Does (.btIntervalExpiry b) s fun t => rd t R.BRK_STAT_BT_DUE 0 b.val = 1 ∧
          (Tab.get false s.faults.active (65536 * 0x0606 + b.val) = false → Recorded s t 0x0606 b.val) ∧
          (Tab.get false s.faults.active (65536 * 0x0606 + b.val) = true → t.faults = s.faults) ∧
          (brSt t b.val).dueAt = s.time.now ∧ KeepsRegs [R.BRK_STAT_BT_DUE] s t ∧ t.mem = s.mem ∧ t.modl = s.modl) ∧
      (s.time.now - (brSt s b.val).passAt < 3600000000000 * par s (brkBase b.val + 10) 1 → exec (.btIntervalExpiry b) s = .next s)) ∧
    (rd s R.BRK_STAT_BT_DUE 0 b.val = 1 →
      (60000000000 * par s (brkBase b.val + 11) 1 ≤ s.time.now - (brSt s b.val).dueAt →
        exec (.btGraceExpiry b) s = .next (dbSettle (setBr s b.val (fun x => { x with bGrace := true })))) ∧
      (s.time.now - (brSt s b.val).dueAt < 60000000000 * par s (brkBase b.val + 11) 1 → exec (.btGraceExpiry b) s = .next s)) ∧
    (rd s R.BRK_STAT_ALLOW_RUN 0 b.val = 1 →
      (60000000000 * par s (brkBase b.val + 12) 1 ≤ s.time.now - (brSt s b.val).allowAt →
        (axState s a = axReleased → exec (.brkAllowExpiry b) s = .next (setAx gone a (fun x => { x with stopAtSs := true }))) ∧
        (axState s a ≠ axReleased → exec (.brkAllowExpiry b) s = .next (axisStop gone a 9 9))) ∧
      (s.time.now - (brSt s b.val).allowAt < 60000000000 * par s (brkBase b.val + 12) 1 → exec (.brkAllowExpiry b) s = .next s))

/-! ## The Luosh network and the Penesh layer (chapters 5 and 6) -/

/-- The ports (05 R201 to R205, R208, R221, R225, R226, R253): while the controller is on, a link that comes up starts its 16 exchanges
with a request; a request is answered with the own turn-around, a response gives one sample and, before the 16th, the next request; a LINK
frame leaves while the port transmits freely, and is blocked by the Shutter after that. A wrong FCS or header is counted. After 16
samples the port may forward, with the mean link delay shown; a port whose link goes down does neither. In OFF, for a LINK frame, between
ports that are not both ready, and in the 2 ms after the other port's link came up nothing is forwarded; while the other port sends a
frame of its own the frame is dropped as an owner error; over too long a link the Shutter blocks it. Otherwise it leaves by the
other port of the line, HOP one more: whole where the node is neither ACTIVE nor MASTER, and there where its checks pass; else cut, and
counted.
Model choices that it rests on: log entries 32, 116, 117, 123. -/
def Obligations.LuoshPorts : Prop :=
  ∀ (s : State) (p : Fin 4), live s = true →
    (luState s ≠ luOff → Does (.linkUp p) s fun t => portSt t p = ⟨true, 0, 0, s.time.now, s.time.now⟩ ∧ rd t R.PORT_LINK 0 p.val = 0 ∧
      t.out = (if parkQuiet s then s.out else s.out ++ [.luosh p (nodeFrame (ownNode s) 6 0 0 false false false (linkPayload 0 false))]) ∧
      t.mem = s.mem) ∧
    (luState s = luOff → exec (.linkUp p) s = .next (setPort s p ⟨true, 0, 0, s.time.now, 0⟩)) ∧
    (∀ f sub turn, (luState s = luOff ∨ (portSt s p).up = false) → exec (.linkFrameRx p f sub turn) s = .next s) ∧
    (∀ f sub turn, luState s ≠ luOff → (portSt s p).up = true →
      (fcsOk f = false → exec (.linkFrameRx p f sub turn) s = .next (fcsCount s (portLine p))) ∧
      (fcsOk f = true → (headerOk f = false ∨ f.kind ≠ 6) →
        exec (.linkFrameRx p f sub turn) s = .next (rcAdd s R.LINE_HCHK_ERR 1 (lineIdx (portLine p)))) ∧
      (fcsOk f = true → headerOk f = true → f.kind = 6 →
        let d := payloadOf f
        let q := portSt s p
        let after : PortSt := { q with samples := q.samples + 1, sum := q.sum + (s.time.now + sub.val - q.reqAt - ofBe (d.take 4)),
                                       reqAt := s.time.now }
        (d.getD 4 0 ≠ 1 → linkFree s p = true → parkQuiet s = false → Does (.linkFrameRx p f sub turn) s fun t =>
          t.out = s.out ++ [.luosh p (nodeFrame (ownNode s) 6 0 0 false false false (linkPayload turn true))] ∧
          t.luosh.ports = s.luosh.ports ∧ t.regs = s.regs ∧ t.mem = s.mem) ∧
        (d.getD 4 0 ≠ 1 → linkFree s p = false → exec (.linkFrameRx p f sub turn) s = .next (shutterBlock s [p] false)) ∧
        (d.getD 4 0 = 1 → q.samples = 15 → exec (.linkFrameRx p f sub turn) s = .next (setPort s p after)) ∧
        (d.getD 4 0 = 1 → q.samples < 15 → exec (.linkFrameRx p f sub turn) s = .next (linkSend (setPort s p after) p 0 false)) ∧
        (d.getD 4 0 = 1 → 16 ≤ q.samples → exec (.linkFrameRx p f sub turn) s = .next s))) ∧
    (luState s ≠ luOff → (portSt s p).up = true → (portSt s p).samples = 16 → Does (.linkMeasured p) s fun t =>
      rd t R.PORT_LINK 0 p.val = 1 ∧ rd t R.PORT_LINK_NS 0 p.val = ((portSt s p).sum + 16) / 32 % 2 ^ R.PORT_LINK_NS.width ∧
      OnlyRegs [R.PORT_LINK, R.PORT_LINK_NS] s t) ∧
    ((luState s = luOff ∨ (portSt s p).up = false ∨ (portSt s p).samples ≠ 16) → exec (.linkMeasured p) s = .next s) ∧
    (Does (.portLinkDown p) s fun t => portSt t p = ⟨false, 0, 0, 0, 0⟩ ∧ portReady t p = false ∧
      OnlyRegs [R.PORT_LINK] { s with luosh := t.luosh } t) ∧
    (∀ (f : Frame) (sub : Fin 4) (hopNs : Int),
      let o := otherPort p
      let b := portLine p
      let c := frameCheck s p f (arrival s p sub)
      let none' := luState s = luOff ∨ f.kind = 6 ∨ portReady s p = false ∨ portReady s o = false ∨ linkFree s o = true
      (none' → exec (.frameForward p o f sub hopNs) s = .next s) ∧
      (¬ none' →
        (portBusy s o = true → exec (.frameForward p o f sub hopNs) s = .next (rcAdd s R.LINE_OWNER_ERR 1 (lineIdx b))) ∧
        (portBusy s o = false → 120 < rd s R.PORT_LINK_NS 0 o.val →
          exec (.frameForward p o f sub hopNs) s = .next (shutterBlock s [o] false)) ∧
        (portBusy s o = false → rd s R.PORT_LINK_NS 0 o.val ≤ 120 →
          ((luState s ≠ luActive ∧ luState s ≠ luMaster) ∨ c = .ok →
            exec (.frameForward p o f sub hopNs) s = .next (emit s (.forward o (forwarded f hopNs) none))) ∧
          ((luState s = luActive ∨ luState s = luMaster) → c ≠ .ok → Does (.frameForward p o f sub hopNs) s fun t =>
            t.out = s.out ++ [.forward o (forwarded f hopNs) (cutFrom s p f (arrival s p sub) c)] ∧
            OnlyRegs [R.LINE_CUT, R.LINE_HCHK_ERR, R.LINE_OOW, R.LINE_OWNER_ERR] { s with out := t.out } t))) ∧
      (∀ q, q ≠ o → exec (.frameForward p q f sub hopNs) s = .next s) ∧
      (forwarded f hopNs).hop = min 1023 (f.hop + 1) ∧
      (fcsOk f = true → fcsOk (forwarded f hopNs) = true))

/-- Cycle starts received (05 R222, R227 to R230, R234, R236, R238, Table 5.10), where no new schedule waits: a frame that is not fit for
cycle-start use changes neither the node's state nor the cycle; a listening node that does not hold off joins from a frame of its schedule,
a node in STARTUP from a lower node's, and any other valid frame restarts a listening node's timeout; the other line's copy of one taken
changes nothing but counts; a SYNC node goes on with a frame that passes the checks and continues the last, from the node it follows, and is
ACTIVE after its second CS frame, once the Deadbolt has been armed, and returns to LISTEN otherwise; an ACTIVE node takes the next cycle's
CS frame of a coldstart node in the right direction and corrects its clock, originates nothing in a cycle whose frame was out of its
window, and leaves after the third cycle in a row with an event; it leaves for another schedule too; a master yields to a lower node's
frame that passes the checks.
The states of a node (05 R229, R231, R234 to R241): without its cycle start by the end of the window a SYNC node goes back to LISTEN and
an ACTIVE node goes on by its own clock; after T_LISTEN an armed coldstart node that does not hold off starts the network at time 0; its
third STARTUP frame makes it master; the master's cycle start begins the next cycle at S_0 + D of the first line, where it does not yield
and has not handed over, and its copies follow on the other; a successor of a silent master takes over, late by its place; at the cycle of
a handover, which acts once, the named node is master and the former one ACTIVE; a line missed for CS_LOSS cycles is lost, with 0x0401; the
hold-off ends after 8 cycles. Before its time each of them changes nothing.
Model choices that it rests on: log entries 33, 36, 104, 116, 117, 139. -/
def Obligations.LuoshStates : Prop :=
  ∀ s : State, live s = true →
    (∀ (p : Fin 4) (f : Frame) (sub : Fin 4), s.luosh.next = none →
      let u := lineFaced s p f
      let c := frameCheck s p f (arrival u p sub)
      let e := arrival u p sub - csDue f
      let w : Int := rd s R.LU_WIN_WACC_NS
      let joined := fun (t : State) => luState t = luSync ∧ rd t R.LU_CYCLE_NUM_CYCLE = f.cycle % 2 ^ 32 ∧ s0 t = csTime f ∧ t.mem = s.mem
      let stays := fun (t : State) => luState t = luState s ∧ rd t R.LU_CYCLE_NUM_CYCLE = rd s R.LU_CYCLE_NUM_CYCLE ∧ t.mem = s.mem
      let left := fun (t : State) => luState t = luListen ∧ t.mem = s.mem
      (∀ x kind, (x = .csFrameRx p f sub ∧ kind = 1) ∨ (x = .startupFrameRx p f sub ∧ kind = 2) →
        let follows := c = .ok ∧ continues s f e = true ∧ (kind = 1 ∨ s.luosh.taken.any (fun y => y.2.2 == f.node) = true)
        (startOk s p f kind = false → Does x s stays) ∧
        (startOk s p f kind = true →
          (luState s = luListen →
            (csSched f = schedNext s → s.luosh.holdoff = false → Does x s joined) ∧
            (csSched f ≠ schedNext s ∨ s.luosh.holdoff = true → Does x s fun t => stays t ∧ t.luosh.listenAt = s.time.now)) ∧
          (luState s = luStartup →
            (f.node < ownNode s → (kind = 1 ∨ s.luosh.startups < 3) → Does x s joined) ∧
            (ownNode s ≤ f.node ∨ (kind = 2 ∧ 3 ≤ s.luosh.startups) → Does x s stays)) ∧
          (luState s = luMaster →
            (c = .ok → f.node < ownNode s → Does x s left) ∧
            (c ≠ .ok ∨ ownNode s ≤ f.node → Does x s stays)) ∧
          (luSync ≤ luState s → luState s ≠ luMaster → secondCopy s f = true → Does x s stays) ∧
          (luState s = luSync → secondCopy s f = false →
            (follows → Does x s fun t => rd t R.LU_CYCLE_NUM_CYCLE = f.cycle % 2 ^ 32 ∧ t.mem = s.mem ∧
              luState t = (if (kind == 1 && s.luosh.taken.any (fun y => y.2.1 == 1) && s.db.armedOnce) = true then luActive else luSync)) ∧
            (¬ follows → Does x s left)))) ∧
      (startOk s p f 2 = true → luState s = luActive → Does (.startupFrameRx p f sub) s stays) ∧
      (startOk s p f 1 = true → luState s = luActive → secondCopy s f = false →
        let fits := startFits s p f ((rd s R.LU_CYCLE_NUM_CYCLE + 1) % 2 ^ 32)
        let out := e < -w ∨ w < e
        let run := (if s.luosh.oow then rd s R.LU_STAT_OOW_RUN else 0) + 1
        (fits = false → Does (.csFrameRx p f sub) s stays) ∧
        (fits = true → csSched f ≠ schedNext s → Does (.csFrameRx p f sub) s left) ∧
        (fits = true → csSched f = schedNext s → Does (.csFrameRx p f sub) s fun t =>
          rd t R.LU_CYCLE_NUM_CYCLE = f.cycle ∧ rd t R.LU_OFFSET_E_NS = ofSigned 32 e ∧ t.mem = s.mem ∧
          ((out ∨ s.luosh.oowNext = true) → 3 ≤ run → luState t = luListen ∧ t.luosh.holdoff = true) ∧
          ((¬ out ∧ s.luosh.oowNext = false) ∨ run < 3 → luState t = luActive ∧ (out → t.luosh.mute = true))))) ∧
    (csLast s < s.luosh.net →
      (luState s = luSync → exec .csFrameMissing s = .next (luToListen s)) ∧
      (luState s = luActive → exec .csFrameMissing s = .next (newCycle s (rd s R.LU_CYCLE_NUM_CYCLE + 1) (s0Next s)))) ∧
    (s.luosh.net ≤ csLast s ∨ (luState s ≠ luSync ∧ luState s ≠ luActive) → exec .csFrameMissing s = .next s) ∧
    (let due := luState s = luListen ∧ (coldNodes s).contains (ownNode s) = true ∧ s.db.armedOnce = true ∧
        s.luosh.listenAt + listenNs s ≤ s.time.now ∧ s.luosh.holdoff = false ∧ startAligned s = true;
      (due → Does .listenTimeout s fun t => luState t = luStartup ∧ s0 t = 0 ∧ rd t R.LU_CYCLE_NUM_CYCLE = 0 ∧ t.luosh.net = 0 ∧
        rd t R.TB_VAL_NS = 0 ∧ t.luosh.startups = 0 ∧ t.mem = s.mem) ∧
      (¬ due → exec .listenTimeout s = .next s)) ∧
    (let n := s.luosh.startups;
      let due := luState s = luStartup ∧ n < 3 ∧ n * cycleNs s ≤ s.luosh.net;
      (due → s.luosh.next = none → Does .startupFrameTx s fun t => rd t R.LU_CYCLE_NUM_CYCLE = n ∧ s0 t = n * cycleNs s ∧
        t.luosh.startups = n + 1 ∧ luState t = (if n = 2 then luMaster else luStartup) ∧
        (n = 2 → rd t R.LU_MASTER_MASTER_ID = ownNode s % 2 ^ R.LU_MASTER_MASTER_ID.width)) ∧
      (¬ due → exec .startupFrameTx s = .next s)) ∧
    (let cyc := rd s R.LU_CYCLE_NUM_CYCLE;
      let due := luState s = luMaster ∧ yieldDue s = false ∧ handedOver s = false ∧ linesDue s (s0Next s) 0 (csLines s) ≠ [];
      let now := linesDue s (s0 s) (rd s R.LU_MASTER_LATE_NS) ((startLines s).filter (fun b => !s.luosh.csSent.contains b));
      let copies := luState s = luMaster ∧ s.luosh.csSent ≠ [] ∧ now ≠ [];
      (due → s.luosh.next = none → Does (.csFrameTx ((cyc + 1) % 2 ^ 32)) s fun t => luState t = luMaster ∧
        rd t R.LU_CYCLE_NUM_CYCLE = (cyc + 1) % 2 ^ 32 ∧ rd t R.LU_OFFSET_E_NS = 0 ∧ rd t R.LU_MASTER_LATE_NS = 0) ∧
      (copies → exec (.csFrameTx cyc) s = .next (sendCsCopies s now)) ∧
      (∀ cycle, (¬ due ∨ cycle ≠ (cyc + 1) % 2 ^ 32) → (¬ copies ∨ cycle ≠ cyc) → exec (.csFrameTx cycle) s = .next s)) ∧
    (let p := position s (rd s R.LU_MASTER_MASTER_ID);
      let due := luState s = luActive ∧ s.luosh.atStart = luActive ∧ (p = 1 ∨ p = 2) ∧
        linesDue s (s0Next s) (1000 * p) (linesUp s) ≠ [];
      (due → s.luosh.next = none → Does .successionTimeout s fun t => luState t = luMaster ∧
        rd t R.LU_CYCLE_NUM_CYCLE = (rd s R.LU_CYCLE_NUM_CYCLE + 1) % 2 ^ 32 ∧ rd t R.LU_MASTER_LATE_NS = 1000 * p) ∧
      (¬ due → exec .successionTimeout s = .next s)) ∧
    (∀ h n, handover s = some (h, n) →
      let done := { s with luosh := { s.luosh with hoDone := h } }
      let due := h ≤ rd s R.LU_CYCLE_NUM_CYCLE + 1 ∧ s0Next s ≤ s.luosh.net ∧ luActive ≤ luState s
      let own := luState s = luActive ∧ (coldNodes s).contains n = true
      (due → n = ownNode s → own → exec .handoverCycle s = .next (setMaster (luEnter done luMaster) n 0)) ∧
      (due → n ≠ ownNode s → luState s = luMaster → exec .handoverCycle s = .next (setMaster (luEnter done luActive) n 0)) ∧
      (due → n ≠ ownNode s → luState s ≠ luMaster → exec .handoverCycle s = .next (setMaster done n 0)) ∧
      (¬ due ∨ (n = ownNode s ∧ ¬ own) → exec .handoverCycle s = .next s)) ∧
    (handover s = none → exec .handoverCycle s = .next s) ∧
    (∀ b, let row := if b then R.LU_STAT_LINE_B else R.LU_STAT_LINE_A
      let other := if b then R.LU_STAT_LINE_A else R.LU_STAT_LINE_B
      let due := rd s row ≠ 0 ∧ rd s R.LU_TIMERS_CS_LOSS ≤ (if b then s.luosh.missB else s.luosh.missA)
      (due → Does (.lineLost b) s fun t => rd t row = 0 ∧ isPresent t 0x0401 = true ∧ t.mem = s.mem ∧
        luState t = (if rd s other = 0 ∧ (luState s = luActive ∨ luState s = luSync) then luListen else luState s)) ∧
      (¬ due → exec (.lineLost b) s = .next s)) ∧
    (s.luosh.holdAt + 8 * cycleNs s ≤ s.time.now → exec .rejoinHoldoffEnd s = .next { s with luosh := { s.luosh with holdoff := false } }) ∧
    (s.time.now < s.luosh.holdAt + 8 * cycleNs s → exec .rejoinHoldoffEnd s = .next s)

/-- Received on Luosh (05 R227, R230, R245, R247): a valid first copy of a DATA frame takes its slot for the cycle and is staged; a
second copy, from the other line, only counts; a frame with a wrong FCS or that fails a check is counted as such, and nothing is taken
while the node listens or the port has no link. A valid claim of a free spare slot counts and is held for the lanes; an occupied slot
is an owner error. An idle spare slot is put up for release by the master.
Sent (05 R219, R228, R230, R234, R239, R240, R249, R250): at the time of a slot of the schedule, a node that was ACTIVE or MASTER since the
start of the slot's cycle and does not pass the cycle in silence sends its own upstream slot, what the lanes have staged voted, and the
health word in a health slot; the entitled master that was so at the start sends a DN slot, new in the first cycle of a scan and repeated
after it, invalid and zero where the module has no valid outputs. What a slot carries is read once: the frame of the other port carries the
same. Anything else, and a slot before its time, changes nothing.
Model choices that it rests on: log entries 34, 103, 105, 116, 129, 140. -/
def Obligations.LuoshSlots : Prop :=
  ∀ s : State, live s = true →
    (∀ (p : Fin 4) (f : Frame) (sub : Fin 4),
      let b := portLine p
      let t := arrival s p sub
      (∀ corr unc,
        (luState s < luSync ∨ f.kind ≠ 3 ∨ rd s R.PORT_LINK 0 p.val = 0 → exec (.dataFrameRx p f sub corr unc) s = .next s) ∧
        (luSync ≤ luState s → f.kind = 3 → rd s R.PORT_LINK 0 p.val ≠ 0 →
          (fcsOk f = false → exec (.dataFrameRx p f sub corr unc) s = .next (fcsCount s b)) ∧
          (fcsOk f = true → frameCheck s p f t ≠ .ok →
            exec (.dataFrameRx p f sub corr unc) s = .next (countBad s b f (frameCheck s p f t))) ∧
          (fcsOk f = true → frameCheck s p f t = .ok → Does (.dataFrameRx p f sub corr unc) s fun u =>
            u.luosh.rx = (f.node, b) :: s.luosh.rx ∧ u.modl = s.modl ∧
            u.luosh.slots = (if s.luosh.slots.contains f.slot then s.luosh.slots else f.slot :: s.luosh.slots)) ∧
          (fcsOk f = true → frameCheck s p f t = .ok → s.luosh.slots.contains f.slot = false →
            ∀ n, (slotEnt s f.slot).dn = false →
              ((slotEnt s f.slot).kind = 1 ∧ n = f.node ∧ (stnEnt s n).en = true ∧ (stnEnt s n).spare = false ∧ (stnEnt s n).inSlot = f.slot) ∨
              ((slotEnt s f.slot).kind = 2 ∧ spareTemplate s f.slot = some n) →
            Does (.dataFrameRx p f sub corr unc) s fun u =>
              Tab.get 0 u.scan.staged n = (if upstreamClosed s then 0 else s.luosh.cyc + 1) ∧
              Tab.get 0 u.scan.late n = (if upstreamClosed s = true ∧ rd s R.LU_CYCLE_NUM_CYCLE % kSel s = 0 then s.luosh.cyc + 1 else 0) ∧
              (∀ l ∈ unc.list, (lane u l).bcastUnc = true)))) ∧
      (luState s < luSync ∨ f.kind ≠ 4 ∨ rd s R.PORT_LINK 0 p.val = 0 → exec (.claimFrameRx p f sub) s = .next s) ∧
      (luSync ≤ luState s → f.kind = 4 → rd s R.PORT_LINK 0 p.val ≠ 0 →
        (fcsOk f = false → exec (.claimFrameRx p f sub) s = .next (fcsCount s b)) ∧
        (fcsOk f = true → frameCheck s p f t ≠ .ok → exec (.claimFrameRx p f sub) s = .next (countBad s b f (frameCheck s p f t))) ∧
        (fcsOk f = true → frameCheck s p f t = .ok → ∀ i, spareIdx s f.slot = some i →
          (occupied s i = true → exec (.claimFrameRx p f sub) s = .next (rcAdd (frameSeen s b) R.LINE_OWNER_ERR 1 (lineIdx b))) ∧
          (occupied s i = false → s.luosh.slots.contains f.slot = true → exec (.claimFrameRx p f sub) s = .next (frameSeen s b)) ∧
          (occupied s i = false → s.luosh.slots.contains f.slot = false → Does (.claimFrameRx p f sub) s fun u =>
            u.luosh.slots = f.slot :: s.luosh.slots ∧ u.modl = s.modl ∧
            Tab.get ⟨0, 0, 0⟩ u.luosh.claims i = ⟨f.node, ofBe (f.body.take 4), ofBe ((f.body.drop 4).take 2)⟩)))) ∧
    (∀ i : Fin 512,
      let due := occupied s i.val = true ∧ rd s R.LU_TIMERS_RELEASE ≤ Tab.get 0 s.luosh.idle i.val ∧ luState s = luMaster ∧
        s.luosh.releases.contains i.val = false
      (due → exec (.spareRelease i) s = .next { s with luosh := { s.luosh with releases := s.luosh.releases ++ [i.val] } }) ∧
      (¬ due → exec (.spareRelease i) s = .next s)) ∧
    (∀ (slot : Fin 4096) (p : Fin 4) (cycle : Nat),
      let e := slotEnt s slot.val
      let at_ := slot.val < rd s R.LU_SLOT_CNT_COUNT ∧ e.kind = 1 ∧ (luState s = luActive ∨ luState s = luMaster) ∧
        (luActive ≤ s.luosh.atStart ∨ cycle ≠ rd s R.LU_CYCLE_NUM_CYCLE) ∧ (s.luosh.mute = false ∨ s0Next s ≤ s.luosh.net) ∧
        slotNow s slot.val p cycle = true
      let down := luState s = luMaster ∧ s.luosh.atStart = luMaster ∧ entitled s = true
      let same := fun (f : Lane → List Byte) (out : List Byte) => 2 ≤ (votingLanes s).length ∧ out.length = e.plen ∧
        ∀ l, (lane s l).admitted = true ∨ (lane s l).candidate = true → f l = out
      let old := Tab.get none s.luosh.sent slot.val
      let first := ∀ x, old = some x → x.cycle ≠ cycle
      let kept := (List.range e.plen).map (fun i => (Tab.get [] s.luosh.dn slot.val).getD i 0)
      let carry := fun (t : State) (ov rep : Bool) (out : List Byte) => sendData { t with luosh := { t.luosh with
        sent := Tab.put none t.luosh.sent slot.val (some ⟨cycle, some (ov, rep, out)⟩) } } slot.val p ov rep out
      let again := ∀ x, old = some x → x.cycle = cycle → ∀ ov rep out, x.out = some (ov, rep, out) →
        exec (.dataSlotTx slot p cycle) s = .next (carry s ov rep out)
      let silent := ∀ x, old = some x → x.cycle = cycle → x.out = none → exec (.dataSlotTx slot p cycle) s = .next { s with luosh :=
        { s.luosh with sent := Tab.put none s.luosh.sent slot.val (some ⟨cycle, none⟩) } }
      (¬ at_ → exec (.dataSlotTx slot p cycle) s = .next s) ∧
      (at_ → e.dn = true → ¬ down → exec (.dataSlotTx slot p cycle) s = .next s) ∧
      (at_ → e.dn = true → down →
        (outputsValid s = false →
          exec (.dataSlotTx slot p cycle) s = .next (sendData s slot.val p false (!s.luosh.fresh) (List.replicate e.plen 0))) ∧
        (outputsValid s = true → again ∧ silent ∧
          (first → s.luosh.fresh = false → exec (.dataSlotTx slot p cycle) s = .next (carry s true true kept)) ∧
          (first → s.luosh.fresh = true → ∀ out, same (fun l => dnStaged s l slot.val) out → exec (.dataSlotTx slot p cycle) s =
            .next (carry { s with luosh := { s.luosh with dn := Tab.put [] s.luosh.dn slot.val out } } true false out)))) ∧
      (at_ → e.dn = false → e.owner = ownNode s →
        (isHealthSlot s slot.val = true → again ∧ silent ∧
          (first → exec (.dataSlotTx slot p cycle) s = .next (carry (sendHealth s).1 false false (sendHealth s).2))) ∧
        (isHealthSlot s slot.val = false → s.modl.prismStop = true → exec (.dataSlotTx slot p cycle) s = .next s) ∧
        (isHealthSlot s slot.val = false → s.modl.prismStop = false → again ∧ silent ∧
          (first → ∀ out, same (fun l => ownStaged s l slot.val) out →
            exec (.dataSlotTx slot p cycle) s = .next (carry s false false out)))) ∧
      (at_ → e.dn = false → e.owner ≠ ownNode s → exec (.dataSlotTx slot p cycle) s = .next s))

/-- The Penesh layer (06 R260, R270, R273, R274): a connection in RUN whose time expectation has passed, with no frame present, goes to
ERROR with code 0x08 in every lane whose core pass lies ahead; in RUN within its time it stays. One in ERROR with RESTART set goes on to
START when T_EXP has passed. A connection that is not configured, not enabled, or whose core pass is over changes nothing. A datagram is
queued unchanged while the Keeper is up and lost otherwise.
Model choices that it rests on: log entries 38, 47. -/
def Obligations.PeneshTimes : Prop :=
  ∀ (s : State) (c : Fin 256), live s = true →
    (∀ cfg, s.psl.conns[c.val]? = some cfg →
      (cfg.en = true → (∀ l, pslAhead s l = true ∧ pslPresent s l cfg = [] ∧ pslTimedOut s l c.val cfg = true) →
        Does (.pslTimeout c) s fun t => ∀ l, (pslGet t l c.val).st = .error ∧ (pslGet t l c.val).err = 0x08) ∧
      (cfg.en = false ∨ (∀ l, pslAhead s l = false ∨ pslTimedOut s l c.val cfg = false) → exec (.pslTimeout c) s = .next s) ∧
      (cfg.en = true → (∀ l, pslAhead s l = true ∧ pslRestartDue s l c.val cfg = true) →
        Does (.pslErrorRestart c) s fun t => ∀ l, pslGet t l c.val = (pslGet s l c.val).restart) ∧
      (cfg.en = false ∨ (∀ l, pslAhead s l = false ∨ pslRestartDue s l c.val cfg = false) → exec (.pslErrorRestart c) s = .next s)) ∧
    (s.psl.conns[c.val]? = none → exec (.pslTimeout c) s = .next s ∧ exec (.pslErrorRestart c) s = .next s) ∧
    (∀ ip payload, keeperUp s = true →
      exec (.pslEthDatagramRx ip payload) s = .next { s with psl := { s.psl with waiting := s.psl.waiting ++ [(ip, payload)] } }) ∧
    (∀ ip payload, keeperUp s = false → exec (.pslEthDatagramRx ip payload) s = .next s)

/-! ## Pairs, cascades and time (chapters 9 and 10) -/

/-- The Hasp and the roles of a pair (10 R390, R393, R394, R399, R400, R403): the peer's Hasp held or free shows in PEER_HELD,
FREE_US and LINE_OK; held while this module holds it longer than 100 µs after its take, it releases the Hasp with CONFLICT and the F3
fault 0x0804; within 100 µs the module with PREF 0 releases and notes TAKE_REF, and one with PREF 1 keeps it; a test burst leaves an active
module that does not hold it, once in 1 s; a burst received counts; a line silent for 2.5 s clears LINE_OK; eight freezes without a
verdict raise 0x0803; TAKEBACK is set after HOLD_OFF; the master that has named its peer yields at the next cycle start. Before its time
each of them changes nothing.
Model choices that it rests on: log entry 47. -/
def Obligations.HaspAndPair : Prop :=
  ∀ s : State, live s = true →
    let sinceTake := s.time.now - s.pair.tTake
    (rd s R.HASP_STAT_HELD = 0 ∨ (sinceTake ≤ 100000 ∧ rd s R.HASP_CTRL_PREF ≠ 0) → Does .haspInHeld s fun t =>
      rd t R.HASP_STAT_PEER_HELD = 1 ∧ rd t R.HASP_STAT_FREE_US = 0 ∧ rd t R.HASP_STAT_LINE_OK = 1 ∧
      OnlyRegs [R.HASP_STAT_PEER_HELD, R.HASP_STAT_FREE_US, R.HASP_STAT_LINE_OK] { s with pair := t.pair } t) ∧
    (rd s R.HASP_STAT_HELD = 1 → 100000 < sinceTake → Does .haspInHeld s fun t =>
      rd t R.HASP_STAT_HELD = 0 ∧ rd t R.HASP_STAT_CONFLICT = 1 ∧ isPresent t 0x0804 = true ∧ t.pair.hout = false ∧ t.mem = s.mem) ∧
    (rd s R.HASP_STAT_HELD = 1 → sinceTake ≤ 100000 → rd s R.HASP_CTRL_PREF = 0 → Does .haspInHeld s fun t =>
      rd t R.HASP_STAT_HELD = 0 ∧ rd t R.HASP_STAT_TAKE_REF = 1 ∧ t.pair.hout = false ∧ t.mem = s.mem) ∧
    (rd s R.HASP_STAT_PEER_HELD = 1 → Does .haspInFree s fun t => rd t R.HASP_STAT_PEER_HELD = 0 ∧ rd t R.HASP_STAT_FREE_US = 0 ∧
      rd t R.HASP_STAT_LINE_OK = b2n (burstHeard s) ∧
      OnlyRegs [R.HASP_STAT_PEER_HELD, R.HASP_STAT_FREE_US, R.HASP_STAT_LINE_OK] { s with pair := { s.pair with freeSub := 0 } } t) ∧
    (rd s R.HASP_STAT_PEER_HELD ≠ 1 → exec .haspInFree s = .next s) ∧
    (let due := rd s R.HASP_STAT_PAIR_ACT = 1 ∧ rd s R.HASP_STAT_HELD = 0 ∧ ∀ t0, s.pair.burstTx = some t0 → t0 + 1000000000 ≤ s.time.now;
      (due → exec .haspTestBurst s = .next (emit { s with pair := { s.pair with burstTx := some s.time.now } } .haspBurst)) ∧
      (¬ due → exec .haspTestBurst s = .next s)) ∧
    (Does .haspBurstRx s fun t => rd t R.HASP_STAT_LINE_OK = 1 ∧
      rd t R.HASP_EVT_TESTS_RX = min (rd s R.HASP_EVT_TESTS_RX + 1) (2 ^ R.HASP_EVT_TESTS_RX.width - 1) ∧
      OnlyRegs [R.HASP_STAT_LINE_OK, R.HASP_EVT_TESTS_RX] { s with pair := { s.pair with burstRx := some s.time.now } } t) ∧
    (rd s R.HASP_STAT_PEER_HELD ≠ 1 → burstHeard s = false → exec .haspLineLoss s = .next (wr s R.HASP_STAT_LINE_OK 0)) ∧
    (rd s R.HASP_STAT_PEER_HELD = 1 ∨ burstHeard s = true → exec .haspLineLoss s = .next s) ∧
    (isPair s = true → 8 ≤ s.pair.noVerdict → exec .refereeLost s = .next (raiseOn s 0x0803 0 0)) ∧
    (isPair s = false ∨ s.pair.noVerdict < 8 → exec .refereeLost s = .next s) ∧
    (∀ t0, s.pair.tbSince = some t0 →
      let due := isPair s = true ∧ rdL s R.PAIR_TIME_HOLD_OFF .x ≠ 0 ∧ rdL s R.PAIR_TIME_HOLD_OFF .x * 1000000000 ≤ s.scan.tx - t0
      (due → exec .takebackSet s = .next (wrAll s R.PAIR_STAT_TAKEBACK 1)) ∧ (¬ due → exec .takebackSet s = .next s)) ∧
    (s.pair.tbSince = none → exec .takebackSet s = .next s) ∧
    (yieldDue s = true → s0Next s ≤ s.luosh.net → Does .masterYield s fun t => luState t = luActive ∧ t.out = s.out ∧ t.mem = s.mem) ∧
    (yieldDue s = false ∨ s.luosh.net < s0Next s → exec .masterYield s = .next s)

/-- The cascade links (10 R406 to R408): a link whose far end is the neighbour comes up with its delay and ends 0x0810, another
far end keeps it down with 0x0810. A good SYNC frame gives a member its number, period and the master's freeze point, and is passed on
down the line with the hold that it gets and the delay of the upper link added; where the own grid runs, freeze points within 100 ns of the master's bring
the member to synchronous operation and others end it. CASCADE_UNSYNC ends it where it has lapsed, a lost lower link for the master; a
link down shows.
Model choices that it rests on: log entries 47, 119. -/
def Obligations.CascadeLinks : Prop :=
  ∀ s : State, live s = true →
    (∀ (far : Fin 4) d, (far.val = cxPos s + 1 → exec (.cascadeLinkUp true far d) s =
        .next (endCond (setCxLink { s with cx := { s.cx with delayDn := d } } true true) 0x0810 1)) ∧
      (far.val + 1 = cxPos s → exec (.cascadeLinkUp false far d) s =
        .next (endCond (setCxLink { s with cx := { s.cx with delayUp := d } } false true) 0x0810 0)) ∧
      (far.val ≠ cxPos s + 1 → Does (.cascadeLinkUp true far d) s fun t => cxLink t true = false ∧ cxLink t false = cxLink s false ∧
        isPresent t 0x0810 = true ∧ t.cx = s.cx ∧ t.mem = s.mem) ∧
      (far.val + 1 ≠ cxPos s → Does (.cascadeLinkUp false far d) s fun t => cxLink t false = false ∧ cxLink t true = cxLink s true ∧
        isPresent t 0x0810 = true ∧ t.cx = s.cx ∧ t.mem = s.mem)) ∧
    (∀ (f : CxFrame) (sub : Fin 4) (holdNs : Nat),
      let ready := cxOn s = true ∧ cxPos s ≠ 0 ∧ cxLink s false = true ∧ cxGood f 1 = true ∧ f.data.length = 8
      let near := cxNear (cxTakeSync s f sub) s.scan.tFreeze
      (ready → Does (.cascadeSyncRx false f sub holdNs) s fun t => t.cx.syncNum = f.num ∧ t.cx.syncUs = ofBe (f.data.take 4) ∧ t.cx.since = 0 ∧
        t.cx.syncAt = some ((tb1 s + sub.val + 2 ^ 32 - ofBe (f.data.drop 4) % 2 ^ 32) % 2 ^ 32) ∧ t.mem = s.mem ∧
        t.out = (if cxLink s true then s.out ++ [.cx true (cxForwardSync s f holdNs)] else s.out) ∧
        rdL t R.CX_STAT_SYNC_OK .x = (if s.scan.gridOn then b2n near else rdL s R.CX_STAT_SYNC_OK .x)) ∧
      (¬ ready → exec (.cascadeSyncRx false f sub holdNs) s = .next s) ∧ exec (.cascadeSyncRx true f sub holdNs) s = .next s) ∧
    (cxOn s = true → cxLapsed s = true → Does .cascadeUnsync s fun t => rdL t R.CX_STAT_SYNC_OK .x = 0 ∧ t.mem = s.mem ∧
      (rdL s R.CX_STAT_SYNC_OK .x = 1 → isPresent t 0x0811 = true ∧ t.cx = { s.cx with ownGrid := true })) ∧
    (cxOn s = false ∨ cxLapsed s = false → exec .cascadeUnsync s = .next s) ∧
    (∀ dn, (cxOn s = true ∧ dn = true ∧ cxPos s = 0 → exec (.cascadeLinkDown dn) s = .next (cxUnsync (setCxLink s dn false))) ∧
      (cxOn s = false ∨ dn = false ∨ cxPos s ≠ 0 → exec (.cascadeLinkDown dn) s = .next (setCxLink s dn false)))

/-- TB_VAL and TB_SNAP (09 R367): a lane's read of TB_VAL[n] returns the base; TB_SNAP puts all four bases into SNAP[0..3], each as
TB_VAL[n] stands, and TB[2] in full into SNAP2_HI with SNAP[2], all of the same clock, and nothing else changes. -/
def Obligations.TimeSnapshot : Prop :=
  ∀ s : State, live s = true →
    (∀ (reader : Fin 4) (n : Fin 4), reader.val < 3 → coreUp s reader.val = true →
      exec (.rcFieldRead reader (0x20020010 + 4 * n.val, .b4)) s = .next (emit s (.read reader.val (rd s R.TB_VAL_NS 0 n.val)))) ∧
    (∀ n : Fin 4, exec (.rcFieldRead 3 (0x60020010 + 4 * n.val, .b4)) s = .next (emit s (.read 3 (rd s R.TB_VAL_NS 0 n.val)))) ∧
    Does .tbSnap s fun t => (∀ n, n < 4 → rd t R.SNAP_NS 0 n = rd s R.TB_VAL_NS 0 n) ∧
      rd t R.SNAP2_HI_NS = s.time.tb2 / 2 ^ 32 % 2 ^ 32 ∧ OnlyRegs [R.SNAP_NS, R.SNAP2_HI_NS] s t

/-- The bases (09 R365, R366, R368, R371, R377): the lock of the time PLL starts TB[1], makes it valid and steps no base, and stores the
pair of TB[2] where that becomes valid with it; the Keeper's step of TB[2], to a multiple of 4 ns, counts STEP2 and stores the pair, and
makes it valid where the mailbox is the source; under PTP a Sync of the own domain is stamped in steps of 8 ns and answered by a
Delay_Req, its own stamp kept: an offset above 1 ms steps TB[2] by it, one within 10 µs counts towards the lock after eight in a row, which a
missed Sync interval breaks, a Delay_Resp to that Delay_Req gives the mean path delay, an Announce gives UTC_OFS, and 10 s without a Sync
show HOLDOVER; without the Keeper, for another domain, and with TB2_CTRL.SRC 0 none of them acts; once in a second of TB[1] with TB[2] valid
its pair with the tick count is stored.
Model choices that it rests on: log entries 3, 50, 115, 143, 144. -/
def Obligations.TimeBases : Prop :=
  ∀ s : State, live s = true →
    (Does .timePllLock s fun t => rd t R.CLK_STAT_TIME = 1 ∧ bitAt (rd t R.TB_STAT_VALID) 1 = 1 ∧
      OnlyRegs [R.CLK_STAT_TIME, R.TB_STAT_VALID] { s with time := t.time, aon := t.aon } t ∧
      (bitAt (rd s R.TB_STAT_VALID) 2 = 0 → s.time.v2 = true → t.aon = { s.aon with pair := some (s.aon.ticks, s.time.tb2) } ∧
        t.time = { s.time with pll := true, pairAt := tb1 s }) ∧
      (bitAt (rd s R.TB_STAT_VALID) 2 = 1 ∨ s.time.v2 = false → t.aon = s.aon ∧ t.time = { s.time with pll := true })) ∧
    (∀ v, keeperUp s = true → Does (.tb2Adj v) s fun t => t.time.tb2 = 4 * (((s.time.tb2 : Int) + v.toInt).toNat % 2 ^ 64 / 4) ∧
      t.time.v2 = (s.time.v2 || rd s R.TB2_CTRL_SRC == 0) ∧ t.aon.pair = some (s.aon.ticks, t.time.tb2) ∧
      rd t R.TB_STAT_STEP2 = (rd s R.TB_STAT_STEP2 + 1) % 2 ^ R.TB_STAT_STEP2.width ∧
      (rd s R.TB2_CTRL_SRC = 0 → rd t R.AON_STAT_VALID = 1) ∧ t.mem = s.mem ∧ t.faults = s.faults) ∧
    (∀ v, keeperUp s = false → exec (.tb2Adj v) s = .next s) ∧
    (∀ d at_ utc, rd s R.TB2_CTRL_SRC = 0 ∨ d ≠ s.time.domain ∨ keeperUp s = false → exec (.ptpSyncRx d at_) s = .next s ∧
      exec (.ptpDelayRespRx d at_) s = .next s ∧ exec (.ptpAnnounceRx d utc) s = .next s) ∧
    (rd s R.TB2_CTRL_SRC ≠ 0 → keeperUp s = true →
      (∀ t1 : Nat, let ms : Int := ((8 * (s.time.tb2 / 8) : Nat) : Int) - t1
        let off := ms - s.time.ptpDelay
        let far := 1000000 < off.natAbs
        Does (.ptpSyncRx s.time.domain t1) s fun t => t.time.ptpAt = s.time.now ∧ t.mem = s.mem ∧
          t.time.ptpMs = (if far then s.time.ptpDelay else ms) ∧ t.time.ptpDelay = s.time.ptpDelay ∧
          rd t R.PTP_STAT_OFFSET = offsetSat off % 2 ^ R.PTP_STAT_OFFSET.width ∧
          t.time.tb2 = (if far then 4 * (((s.time.tb2 : Int) - off).toNat % 2 ^ 64 / 4) else s.time.tb2) ∧
          t.time.ptpGood = (if off.natAbs ≤ 10000 then (if s.time.now < s.time.ptpAt + 2000000000 then s.time.ptpGood else 0) + 1 else 0) ∧
          rd t R.PTP_STAT_LOCKED = b2n (decide (8 ≤ t.time.ptpGood)) ∧ (8 ≤ t.time.ptpGood → t.time.v2 = true) ∧
          t.out = s.out ++ [.delayReq s.time.domain] ∧ t.time.ptpReq = some (8 * (t.time.tb2 / 8))) ∧
      (∀ t3 t4 : Nat, s.time.ptpReq = some t3 → exec (.ptpDelayRespRx s.time.domain t4) s =
        .next { s with time := { s.time with ptpDelay := (s.time.ptpMs + ((t4 : Int) - t3)) / 2, ptpReq := none } }) ∧
      (∀ t4, s.time.ptpReq = none → exec (.ptpDelayRespRx s.time.domain t4) s = .next s) ∧
      (∀ utc, exec (.ptpAnnounceRx s.time.domain utc) s = .next (wr s R.TB2_CTRL_UTC_OFS utc))) ∧
    (rd s R.TB2_CTRL_SRC ≠ 0 → s.time.ptpAt + 10000000000 ≤ s.time.now →
      exec .ptpHoldover s = .next (wr (wr { s with time := { s.time with ptpGood := 0 } } R.PTP_STAT_HOLDOVER 1) R.PTP_STAT_LOCKED 0)) ∧
    (rd s R.TB2_CTRL_SRC = 0 ∨ s.time.now < s.time.ptpAt + 10000000000 → exec .ptpHoldover s = .next s) ∧
    (let due := s.time.pll = true ∧ s.time.v2 = true ∧ 1000000000 ≤ (tb1 s + 2 ^ 32 - s.time.pairAt) % 2 ^ 32;
      (due → exec .storedPairWrite s = .next { s with aon := { s.aon with pair := some (s.aon.ticks, s.time.tb2) },
                                                      time := { s.time with pairAt := tb1 s } }) ∧
      (¬ due → exec .storedPairWrite s = .next s))

/-- The capture unit (08 R362, 09 R379 to R383): an edge that no source has supplied does nothing; one that was supplied reaches the unit
once: a selected edge waits in its source's latch with the time of the base selected; of the event
sources only the event counts, whatever edge is selected; with the unit off, or an edge that is not selected, nothing changes; an edge that
finds its latch full is counted as lost for every reader. The first latch that waits is written to the next place of the FIFO, which
clears the mark of a loss, or is lost where no entry is free. A reader moves on, at most to the end of the last batch.
Model choices that it rests on: log entry 28. -/
def Obligations.EdgeCapture : Prop :=
  ∀ s : State, live s = true →
    (∀ (reg : Fin 5) (n : Fin 16) (rising : Bool),
      let src := 16 * reg.val + n.val
      let sel := src < 68 ∧ (if 64 ≤ src then rising = true ∧ capSel s src ≠ 0
        else (if rising then bitAt (capSel s src) 0 else bitAt (capSel s src) 1) = 1)
      let full := s.time.latches.any (fun x => x.src == src)
      let u := { s with time := { s.time with edges := s.time.edges.erase (src, rising) } }
      (s.time.edges.contains (src, rising) = false → exec (.captureEdge reg n rising) s = .next s) ∧
      (s.time.edges.contains (src, rising) = true →
        (rd s R.CAP_CTRL_EN = 0 ∨ ¬ sel → exec (.captureEdge reg n rising) s = .next u) ∧
        (rd s R.CAP_CTRL_EN ≠ 0 → sel → full = true → exec (.captureEdge reg n rising) s = .next (capLose u)) ∧
        (rd s R.CAP_CTRL_EN ≠ 0 → sel → full = false → Does (.captureEdge reg n rising) s fun t =>
          (∃ x, x ∈ t.time.latches ∧ x = ⟨src, rd s R.TB_VAL_NS 0 (rd s R.CAP_CTRL_TB), rd s R.CAP_CTRL_TB, rising, s.time.now⟩) ∧
          (∀ x, x ∈ s.time.latches → x ∈ t.time.latches) ∧ t.time.latches.length = s.time.latches.length + 1 ∧
          t = { s with time := { s.time with latches := t.time.latches, edges := s.time.edges.erase (src, rising) } }))) ∧
    (∀ x rest, s.time.latches = x :: rest → x.src < 68 →
      let t := capDrain s
      let p := s.time.capCount % 1024
      t.time.latches = rest ∧
      (s.time.capCount - capFreed s < 1024 → t.time.capCount = s.time.capCount + 1 ∧ t.time.capLoss = false ∧
        t.time.capLimit = s.time.capLimit ∧ capWord0 t p = x.stamp % 2 ^ 32 ∧ bits (capWord1 t p) 22 16 = x.src % 128 ∧
        bits (capWord1 t p) 29 29 = b2n x.rising ∧ bits (capWord1 t p) 28 28 = b2n s.time.capLoss) ∧
      (1024 ≤ s.time.capCount - capFreed s → t.time.capCount = s.time.capCount ∧ t.time.capLoss = true ∧ t.mem = s.mem)) ∧
    (∀ (r : Fin 4) v, coreUp s r.val = true → Does (.capRdIdxWrite r v) s fun t =>
      let pos := min (Tab.get 0 s.time.capRd r.val + (v + 1024 - Tab.get 0 s.time.capRd r.val % 1024) % 1024) s.time.capLimit
      (r.val < 3 → Tab.get 0 t.time.capRd r.val = pos) ∧ (r.val = 3 → Tab.get 0 t.time.capRd 3 = max pos (capFreed s)) ∧
      t.time.capCount = s.time.capCount ∧ t.time.capLimit = s.time.capLimit ∧ t.mem = s.mem)

/-! ## Reset, power and bring-up (chapters 3, 12 and 13) -/

/-- RST_N low (01 R42, 12 R456, 13 R461): on a module that is on, every register field outside the always-on domain reads its reset
value, MRAM, flash and host memory keep every byte, every other memory is empty, mode INIT, no lane admitted, no fault present, and the
always-on ticks and the queue stay; on one held in reset only its supply is there again. RST_N high again starts the Deadbolt's self-test
with the cause and the straps latched and no PLL of the time unit; while RST_N is high, or without supply, nothing changes. The collapse
of the logic supply leaves the module off, whatever it did; the always-on domain then marks that the supply has risen anew.
Model choices that it rests on: log entries 2, 59, 61. -/
def Obligations.ResetLeaves : Prop :=
  ∀ s : State,
    (s.modl.rst = false → Does .rstNAssert s fun t =>
      t.modl = { State.reset.modl with mode := .init, power := .run, prismStop := false, nextMode := none, rst := true } ∧
      (∀ r : Row, (∀ q ∈ aonRows, r.id ≠ q.id) → ∀ b i, rd t r b i = r.reset % 2 ^ r.width) ∧
      (∀ off, rb t .mram off = rb s .mram off ∧ rb t .flash off = rb s .flash off ∧ rb t .hostMem off = rb s .hostMem off ∧
        rb t .keeperSram off = memDefault ∧ rb t .shared off = memDefault ∧ ∀ l, rb t (.laneSram l) off = memDefault) ∧
      (∀ l, (lane t l).admitted = false) ∧ t.faults = Faults.reset ∧ t.aon.ticks = s.aon.ticks ∧ t.pending = s.pending ∧
      t.keeper.otp = s.keeper.otp) ∧
    (s.modl.rst = true → exec .rstNAssert s = .next { s with modl := { s.modl with power := .run } }) ∧
    (∀ pos hinge htl,
      (s.modl.rst = true → s.modl.power ≠ .off → Does (.rstNRelease pos hinge htl) s fun t =>
        t.modl.rst = false ∧ t.modl.power = .run ∧ t.modl.mode = .init ∧ dbState t = dbSelftest ∧ t.time.pll = s.time.pll ∧
        t.keeper.hinge = hinge ∧ rd t R.BOOT_STAT_RST_CAUSE = rstCause s ∧ (∀ l, rdL t R.CX_STAT_POS l = pos.val) ∧ t.mem = s.mem ∧
        t.faults = s.faults) ∧
      (s.modl.rst = false ∨ s.modl.power = .off → exec (.rstNRelease pos hinge htl) s = .next s)) ∧
    (s.modl.power ≠ .off → Does .logicSupplyCollapse s fun t => t.modl.power = .off ∧ t.aon.rose = true ∧
      t.aon.ticks = s.aon.ticks ∧ t.keeper.otp = s.keeper.otp ∧ ∀ off, rb t .mram off = rb s .mram off ∧ rb t .flash off = rb s .flash off) ∧
    (s.modl.power = .off → exec .logicSupplyCollapse s = .next s)

/-- The supply signals (12 R442 to R444, R458): the first falling edge of SUPW_N opens a supply window at the present tick and is
reported with 0x0901, a later one in the window is counted, without supply nothing happens; once WIN_MS of the tick count have passed the
window closes with 0x0902 and the level shown, and not before; VBAT_LOW follows its signal; the loss of the always-on supply clears the
tick count, the stored pair and VALID.
Model choices that it rests on: log entry 62. -/
def Obligations.SupplySignals : Prop :=
  ∀ s : State,
    (s.modl.power ≠ .off → s.aon.win = none → exec .supwNFall s = .next (owe (wr { wr s R.SUPW_STAT_LOW 1 with
      aon := { s.aon with win := some s.aon.ticks, winEdges := 1 } } R.SUPW_STAT_WIN_OPEN 1) 0x0901 0)) ∧
    (∀ t0, s.modl.power ≠ .off → s.aon.win = some t0 → exec .supwNFall s = .next (rcAdd { wr s R.SUPW_STAT_LOW 1 with
      aon := { s.aon with winEdges := s.aon.winEdges + 1 } } R.SUPW_STAT_EDGES)) ∧
    (s.modl.power = .off → exec .supwNFall s = .next s) ∧
    (∀ t0 ms low, s.aon.win = some t0 →
      let ticks := (s.aon.ticks + 2 ^ 48 - t0) % 2 ^ 48
      (32768 * rd s R.SUPW_CFG_WIN_MS ≤ 1000 * ticks → exec (.supplyWindowExpiry ms low) s = .next (owe (wr (wr
        { s with aon := { s.aon with win := none } } R.SUPW_STAT_WIN_OPEN 0) R.SUPW_STAT_LOW (b2n low)) 0x0902
        (2 ^ 16 * s.aon.winEdges + min ms 65535))) ∧
      (1000 * ticks < 32768 * rd s R.SUPW_CFG_WIN_MS → exec (.supplyWindowExpiry ms low) s = .next s)) ∧
    (∀ ms low, s.aon.win = none → exec (.supplyWindowExpiry ms low) s = .next s) ∧
    (∀ low, Does (.vbatLowChange low) s fun t => OnlyRegs [R.AON_STAT_VBAT_LOW] s t ∧ rd t R.AON_STAT_VBAT_LOW = b2n low) ∧
    (Does .aonSupplyLoss s fun t => t.aon.ticks = 0 ∧ t.aon.pair = none ∧ rd t R.AON_STAT_VALID = 0 ∧ rd t R.AON_TICK_LO_TICK = 0 ∧
      rd t R.AON_TICK_HI_TICK = 0 ∧ t.mem = s.mem ∧ t.modl = s.modl)

/-- PARK and its wake (12 R451 to R455, 09 R376, 13 R480): PARK_GO with PARK_ARM set and the Keeper up, once it has written its journal
queue, or 100 ms of PARK_ARM, end in power state PARK: the stored pair is written, the registers of the always-on domain, BOOT_STAT and the
time unit keep their value, every other one reads its reset value, SRAM stays, register memories are lost, no lane is admitted, and of MRAM
only the remainder of the allowance and a TIME record are added at the end of the journal; the first enabled wake source while parking is
latched, later ones are not; the wake brings power state RUN with TB[1], TB[2] and TB[3] advanced by the ticks counted, HOLDOVER set, the
Deadbolt in SELFTEST and the source shown; a wake by Luosh without its WAKE frame within 50 ms of a link goes back to PARK, counted; the
Keeper then puts its start-up requests once before everything else that it posts. Otherwise each of them changes nothing.
Model choices that it rests on: log entries 1, 57, 58. -/
def Obligations.ParkAndWake : Prop :=
  ∀ s : State,
    let safe := s.modl.mode == .safe
    -- the parked state that follows u, where the Keeper has written n bytes of MRAM from a
    let parked (u t : State) : Prop :=
      t.modl = { State.reset.modl with rst := false, power := .park, mode := if safe then .safe else .stop, prismStop := safe } ∧
      t.time = { u.time with pll := false, acc0 := 0, edges := [], ptpReq := none } ∧
      t.aon = { u.aon with
        pair := some (u.aon.ticks, u.time.tb2), armAt := none, parkTick := u.aon.ticks, parkTb1 := tb1 u, luosh := false,
        parkTb3 := if rd u R.TB3_CTRL_EN = 1 ∧ rd u R.TB3_CTRL_REF = 1 then some (rd u R.TB_VAL_NS 0 3) else none } ∧
      (∀ r : Row, (∃ q ∈ parkKept, r.id = q.id) → ∀ b i, rd t r b i = rd u r b i) ∧
      (∀ r : Row, (∀ q ∈ parkKept, r.id ≠ q.id) → ∀ b i, rd t r b i = r.reset % 2 ^ r.width) ∧
      (∀ r ∈ parkGone, ∀ off, off < regionSpan → rb t r off = memDefault) ∧
      (∀ r : Region, r ∉ parkGone → ∀ off, off < regionSpan →
        (∀ k, k < (if keeperUp u = true ∧ u.jrnl.up = true then (if u.degr.known then 88 else 40) else 0) →
          r.at off ≠ Region.mram.at (halfBase u.jrnl.half + u.jrnl.pos + k)) → rb t r off = rb u r off) ∧
      (∀ l, (lane t l).admitted = false ∧ (lane t l).candidate = false ∧ (lane t l).dbgAct = (lane u l).dbgAct ∧
        (lane t l).fenced = ((lane u l).fenced || u.repair.target == some l)) ∧
      t.faults = u.faults ∧ t.keeper.up = false ∧ t.keeper.otp = u.keeper.otp ∧ t.pending = u.pending
    (live s = true → rd s R.PWR_STAT_PARK_ARM = 1 → keeperUp s = true →
      let u := drainQueue (s.jrnl.queue.length + 1) s
      Does .parkGo s (parked u) ∧ (s.jrnl.up = true → s.jrnl.recUp = true → u.jrnl.queue = []) ∧ u.time = s.time ∧ u.aon = s.aon ∧
        KeepsRegs [R.JQ_STAT_FILL] s u ∧ u.lanes = s.lanes ∧ u.pending = s.pending) ∧
    (live s = false ∨ rd s R.PWR_STAT_PARK_ARM ≠ 1 ∨ keeperUp s = false → exec .parkGo s = .next s) ∧
    (∀ t0, live s = true → s.aon.armAt = some t0 → rd s R.PWR_STAT_PARK_ARM = 1 → t0 + 100000000 ≤ s.time.now →
      Does .parkArmTimeout s (parked s)) ∧
    (∀ t0, s.aon.armAt = some t0 → s.time.now < t0 + 100000000 → exec .parkArmTimeout s = .next s) ∧
    (live s = false ∨ s.aon.armAt = none ∨ rd s R.PWR_STAT_PARK_ARM ≠ 1 → exec .parkArmTimeout s = .next s) ∧
    (parking s = true → s.aon.wake = none →
      (rd s R.WAKE_CFG_WAKEN_EN = 1 → exec .wakeNFall s = .next { s with aon := { s.aon with wake := some 1 } }) ∧
      (rd s R.WAKE_CFG_LUOSH_EN = 1 → exec .luoshWakeEnergy s = .next { s with aon := { s.aon with wake := some 2 } }) ∧
      (rd s R.WAKE_CFG_ALARM_EN = 1 → s.aon.ticks = rd s R.AON_ALARM_LO_TICK + 2 ^ 32 * rd s R.AON_ALARM_HI_TICK →
        exec .rtcAlarm s = .next { s with aon := { s.aon with wake := some 3 } })) ∧
    (parking s = false ∨ s.aon.wake ≠ none →
      exec .wakeNFall s = .next s ∧ exec .luoshWakeEnergy s = .next s ∧ exec .rtcAlarm s = .next s) ∧
    (rd s R.WAKE_CFG_WAKEN_EN ≠ 1 → exec .wakeNFall s = .next s) ∧ (rd s R.WAKE_CFG_LUOSH_EN ≠ 1 → exec .luoshWakeEnergy s = .next s) ∧
    (rd s R.WAKE_CFG_ALARM_EN ≠ 1 ∨ s.aon.ticks ≠ rd s R.AON_ALARM_LO_TICK + 2 ^ 32 * rd s R.AON_ALARM_HI_TICK →
      exec .rtcAlarm s = .next s) ∧
    (∀ src locked, s.modl.power = .park → s.aon.wake = some src →
      let ns := tickNs ((s.aon.ticks + 2 ^ 48 - s.aon.parkTick) % 2 ^ 48)
      Does (.wakeComplete locked) s fun t => t.modl.power = .run ∧ tb1 t = (s.aon.parkTb1 + ns) % 2 ^ 32 ∧ t.time.pll = true ∧
        t.time.tb2 = (s.time.tb2 + ns) % 2 ^ 64 ∧ t.time.now = s.time.now + ns ∧ t.time.ptpGood = 0 ∧
        (∀ v, s.aon.parkTb3 = some v → rd t R.TB_VAL_NS 0 3 = (v + ns) % 2 ^ 32) ∧
        (s.aon.parkTb3 = none → rd t R.TB_VAL_NS 0 3 = rd s R.TB_VAL_NS 0 3) ∧ rd t R.PTP_STAT_HOLDOVER = 1 ∧
        rd t R.PARK_NS_LO_NS = ns % 2 ^ R.PARK_NS_LO_NS.width ∧ rd t R.PARK_NS_HI_NS = ns / 2 ^ 32 % 2 ^ R.PARK_NS_HI_NS.width ∧
        rd t R.WAKE_CNT_WAKES = min (rd s R.WAKE_CNT_WAKES + 1) (2 ^ R.WAKE_CNT_WAKES.width - 1) ∧
        rd t R.AON_STAT_LAST_WAKE = src % 2 ^ R.AON_STAT_LAST_WAKE.width ∧ t.aon.wake = none ∧ t.aon.luosh = (src == 2) ∧
        keeperUp t = s.keeper.restart.isNone ∧ t.keeper.restore = true ∧
        (∀ l, (lane t l).stopped = ((lane s l).stopped || !locked.get l)) ∧
        ((∀ e ∈ s.aon.owed, classOf e.1 ≠ 4) → t.modl = { s.modl with power := .run } ∧ dbState t = dbSelftest ∧
          ((keeperUp t && s.jrnl.recUp) = false → t.mem = s.mem ∧ t.aon.owed = s.aon.owed) ∧
          ((keeperUp t && s.jrnl.recUp) = true → t.aon.owed = []))) ∧
    (∀ locked, s.modl.power ≠ .park ∨ s.aon.wake = none → exec (.wakeComplete locked) s = .next s) ∧
    (∀ p f, live s = true →
      let good := fcsOk f = true ∧ headerOk f = true ∧ f.kind = 5 ∧ f.plen = 8 ∧ 8 ≤ f.body.length ∧ (portSt s p).up = true
      (good → exec (.wakeFrameRx p f) s = .next { s with aon := { s.aon with luosh := false } }) ∧
      (¬ good → exec (.wakeFrameRx p f) s = .next s)) ∧
    (let due := s.aon.luosh = true ∧ ∃ p, (portSt s p).up = true ∧ (portSt s p).upAt + 50000000 ≤ s.time.now;
      (live s = true → due → Does .spuriousWakeTimeout s fun t => parked (rcAdd s R.WAKE_CNT_SPUR) t ∧
        rd t R.WAKE_CNT_SPUR = min (rd s R.WAKE_CNT_SPUR + 1) (2 ^ R.WAKE_CNT_SPUR.width - 1)) ∧
      (¬ due → exec .spuriousWakeTimeout s = .next s)) ∧
    (live s = true → keeperUp s = true → s.keeper.restore = true → Does .wakeRestore s fun t => t.keeper.restore = false ∧
      (∃ first : List (Origin × Request), (∀ e ∈ first, ∃ n, e.1 = .startup n) ∧ t.keeper.toPost = first ++ s.keeper.toPost) ∧
      t.keeper.starting = true ∧ t.keeper.autoDone = false ∧ t.mem = s.mem ∧ t.modl = s.modl ∧ t.jrnl = s.jrnl ∧ t.lanes = s.lanes ∧
      KeepsRegs [R.BOOT_STAT_PROG_RES, R.BOOT_STAT_SAFE_RES, R.SUPW_CFG_WIN_MS, R.TJ_CFG_WARN, R.WAKE_CFG_ALARM_EN, R.WAKE_CFG_LUOSH_EN,
        R.WAKE_CFG_WAKEN_EN] s t ∧ exec .wakeRestore t = .next t) ∧
    (live s = false ∨ keeperUp s = false ∨ s.keeper.restore = false → exec .wakeRestore s = .next s)

/-- Clocks and temperature (12 R446, R460): a lost time PLL stops every base and the grid; a lost lane PLL stops that lane's clock
alone; a lost interconnect PLL stops Prism and PUMP_S; the Keeper's and the ports' only show; without the TCXO every clock is out
of lock. The Keeper reads the junction temperature every 10 ms: above WARN the condition of 0x0906 begins, it ends 5 K below it, and
between them the temperature only shows.
Model choices that it rests on: log entry 52. -/
def Obligations.ClocksAndTemperature : Prop :=
  ∀ s : State, live s = true →
    (Does (.pllLockLoss .time) s fun t => t.time = { s.time with pll := false } ∧ t.scan.gridOn = false ∧ rd t R.TB_STAT_VALID = 0 ∧
      rd t R.CLK_STAT_TIME = 0 ∧ OnlyRegs [R.CLK_STAT_TIME, R.TB_STAT_VALID] { s with time := t.time, scan := t.scan } t) ∧
    (∀ l, Does (.pllLockLoss (.lane l)) s fun t => (lane t l).stopped = true ∧ (∀ m, m ≠ l → lane t m = lane s m) ∧
      bitAt (rd t R.CLK_STAT_LANE) l.idx = 0 ∧ KeepsRegs [R.CLK_STAT_LANE] s t ∧ t.mem = s.mem) ∧
    (Does (.pllLockLoss .icn) s fun t => t.modl.prismStop = true ∧ t.db.pumpS = false ∧ rd t R.CLK_STAT_ICN = 0 ∧
      rd t R.DB_STAT_VGD_OK = 0 ∧ rd t R.HASP_STAT_HELD = 0 ∧ t.mem = s.mem) ∧
    exec (.pllLockLoss .keeper) s = .next (wr s R.CLK_STAT_KEEPER 0) ∧
    exec (.pllLockLoss .port) s = .next (wr s R.CLK_STAT_PORTS 0) ∧
    (Does (.pllLockLoss .tcxo) s fun t => t.time.pll = false ∧ t.modl.prismStop = true ∧ (∀ l, (lane t l).stopped = true) ∧
      rd t R.CLK_STAT_TCXO_OK = 0) ∧
    (∀ tj : Int,
      let due := keeperUp s = true ∧ s.modl.tjAt + 10000000 ≤ s.time.now
      let warn : Int := 10 * rd s R.TJ_CFG_WARN
      let high := rd s R.TJ_STAT_HIGH
      let u := wr { s with modl := { s.modl with tjAt := s.time.now } } R.TJ_STAT_TJ (ofSigned 16 tj)
      (due → warn < tj → high = 0 → Does (.tjSample tj) s fun t => rd t R.TJ_STAT_HIGH = 1 ∧ rd t R.TJ_STAT_TJ = ofSigned 16 tj ∧
        condActive t 0x0906 = true ∧ t.modl = u.modl) ∧
      (due → tj ≤ warn - 50 → high = 1 → exec (.tjSample tj) s = .next (endCond (wr u R.TJ_STAT_HIGH 0) 0x0906 0)) ∧
      (due → ¬ (warn < tj ∧ high = 0) → ¬ (tj ≤ warn - 50 ∧ high = 1) → exec (.tjSample tj) s = .next u) ∧
      (¬ due → exec (.tjSample tj) s = .next s))

/-- Boot and program loads (13 R466, R467, R478, 03 R133, R134, R140, R182): the Keeper comes up with the bank of the boot selector where
its images pass, else with the other, and its mailboxes answer; else it stays in recovery; a lane whose injection run has passed and whose
runtime image passes, checked once, starts the grid where none runs and the bases do, another is excluded with cause 0x0C; the automatic RUN
is requested once; LOAD_EN in STOP, and for the target of a RELOAD, opens the program window and clears PROG_VALID; a window write lands in
the page shown and nowhere else, without LOAD_EN it is a bus error; a load under way ends with LOAD_EN cleared and its result posted, that of
a RELOAD kept by the target, where a program that passed is in force.
Model choices that it rests on: log entries 3, 18, 64. -/
def Obligations.BootAndLoad : Prop :=
  ∀ s : State, live s = true →
    (let first := rb s .flash bootSelector == 1
      let down := s.keeper.up = false ∧ s.keeper.restart = none;
      (down → Does .keeperFirmwareCheckDone s fun t =>
        (∀ b, bankPasses s b = true → (b = first ∨ bankPasses s first = false) →
          t.keeper.up = true ∧ t.keeper.starting = true ∧ rd t R.BOOT_STAT_BANK = b2n b ∧
            (∀ p : Fin 4, rd t R.MB_STAT_KEEPER_DOWN 0 p.val = 0) ∧ t.mem = s.mem ∧ t.faults = s.faults) ∧
        (bankPasses s true = false → bankPasses s false = false → t.keeper = s.keeper ∧ rd t R.BOOT_STAT_RECOVERY = 1)) ∧
      (¬ down → exec .keeperFirmwareCheckDone s = .next s)) ∧
    (∀ l, let row := match l with | .x => R.BOOT_STAT_LANE_X_RES | .y => R.BOOT_STAT_LANE_Y_RES | .z => R.BOOT_STAT_LANE_Z_RES
      let due := rd s R.BOOT_STAT_RECOVERY ≠ 1 ∧ rd s row = 0 ∧ laneClocked s l = true ∧ (lane s l).started = some true
      (due → Does (.laneRuntimeCheckDone l) s fun t =>
        (verifySlot s 2 (bootBank s) = 1 → rd t row = 1 ∧ (lane t l).runtimeOk = true ∧
          t.scan.gridOn = (s.scan.gridOn || s.time.pll) ∧ t.faults = s.faults ∧ t.mem = s.mem ∧ ∀ k, k ≠ l → lane t k = lane s k) ∧
        (verifySlot s 2 (bootBank s) ≠ 1 → (lane t l).fenced = true ∧ (lane t l).admitted = false ∧ isPresent t 0x030C = true)) ∧
      (¬ due → exec (.laneRuntimeCheckDone l) s = .next s)) ∧
    (let due := keeperUp s = true ∧ s.jrnl.up = true ∧ s.keeper.starting = false ∧ s.keeper.autoDone = false ∧ readyBit s 6 = true ∧
        readyBit s 17 = true ∧ (s.keeper.autostart = 1 ∨ (s.keeper.autostart = 2 ∧ s.keeper.badReset = false));
      (due → exec .autostartRunRequest s = .next { s with
        keeper := { s.keeper with toPost := s.keeper.toPost ++ [(.auto, .modeRun)], autoDone := true } }) ∧
      (¬ due → exec .autostartRunRequest s = .next s)) ∧
    (∀ l, (coreUp s l.idx = true → (stopLike s = true ∨ reloading s l = true) → Does (.loadEn l) s fun t =>
        rdL t R.TUM_CTRL_LOAD_EN l = 1 ∧ rdL t R.TUM_STAT_PROG_VALID l = 0 ∧
        OnlyRegs [R.TUM_CTRL_LOAD_EN, R.TUM_STAT_PROG_VALID, R.TUM_STAT_STATE, R.TUM_BUNDLES_COUNT] s t) ∧
      (coreUp s l.idx = false ∨ (stopLike s = false ∧ reloading s l = false) → exec (.loadEn l) s = .next s)) ∧
    (∀ l off v, coreUp s l.idx = true →
      let a := 4096 * rdL s R.PS_PAGE_PAGE l + off % 4096 / 4 * 4
      (rdL s R.TUM_CTRL_LOAD_EN l = 1 → Does (.psWinWrite l off v) s fun t => r32 t (.progStore l) a = v.toNat ∧
        t = { s with mem := t.mem, marks := t.marks } ∧ KeepsMemBut (.progStore l) a 4 s t) ∧
      (rdL s R.TUM_CTRL_LOAD_EN l ≠ 1 → exec (.psWinWrite l off v) s = .next (setLane s l (fun x => { x with busErrs := x.busErrs + 1 })))) ∧
    (∀ l, coreUp s l.idx = true →
      ((lane s l).load = none → exec (.programLoadDone l) s = .next s) ∧
      (∀ q, (lane s l).load = some q →
        (q.posted = true → exec (.programLoadDone l) s = .next s) ∧
        (q.posted = false → reloading s l = false → Does (.programLoadDone l) s fun t =>
          (lane t l).verdicts = (lane s l).verdicts ++ [⟨q.slot, loadCheck s l q (stopLike s)⟩] ∧
          (lane t l).load = some { q with posted := true } ∧ rdL t R.TUM_CTRL_LOAD_EN l = 0) ∧
        (q.posted = false → reloading s l = true → Does (.programLoadDone l) s fun t =>
          (lane t l).load = none ∧ (lane t l).verdicts = (lane s l).verdicts ∧ rdL t R.TUM_CTRL_LOAD_EN l = 0 ∧
          (loadCheck s l q true = 0 → rdL t R.TUM_STAT_PROG_VALID l = 1 ∧ (lane t l).prog = parseInfo s .flash q.addr))))

/-! ## The Keeper, its mailboxes and the journal (chapters 13, 14 and 17) -/

/-- The way of a mailbox command (14 R488 to R497, R501, R505, R507, 01 R37, 11 R423): a ring of a pair the Keeper holds is counted as
lost; a ring of a free pair gives it to the Keeper (pair 3 receives none where HINGE_EN is 0), which takes the command of a served pair; a command with a wrong header or check
value is answered BAD_HEADER or BAD_CHK and leaves the pair free, one that repeats the last SEQ gets the stored response again, an opcode
that is not served is answered with status 5, a payload that names no row with 6, and any other command is in execution; a datagram for an
idle pair 1 and a cascade frame for this member are taken, for a busy pair discarded where it is the command in execution again and
otherwise answered BUSY; a cascade response ends the RELAY that waits for it, a frame for another position goes on; the first waiting
request enters the ring, at most 32 before a freeze; the first voted verdict leaves, ends the command that waits for it with its reason,
gives its outcome to a PENDING entry, and marks a refused start-up item; 2 s after the ring a command that waits is answered PENDING; once
the safe state is seen no request is left to post and every command that waits is refused with 0x36.
Model choices that it rests on: log entries 69, 78. -/
def Obligations.MailboxTransport : Prop :=
  ∀ s : State, live s = true →
    (s.keeper.hinge = false → exec (.mbDoorbellRing 3) s = .next s) ∧
    (∀ p : Fin 4, (p = 3 → s.keeper.hinge = true) → rd s R.MB_STAT_OWNER 0 p.val = 1 → exec (.mbDoorbellRing p) s = .next (rcAdd s R.MB_CNT_RINGS_LOST 1 p.val)) ∧
    (∀ p : Fin 4, (p = 3 → s.keeper.hinge = true) → rd s R.MB_STAT_OWNER 0 p.val = 0 → mbServing s p.val = true → exec (.mbDoorbellRing p) s =
      .next (let t := wr (wr s R.MB_STAT_OWNER 1 0 p.val) R.MB_STAT_RSP_VALID 0 0 p.val; mbTake t p 0 (bufCmd t p))) ∧
    (∀ p : Fin 4, (p = 3 → s.keeper.hinge = true) → rd s R.MB_STAT_OWNER 0 p.val = 0 → mbServing s p.val = false → Does (.mbDoorbellRing p) s fun t =>
      rd t R.MB_STAT_OWNER 0 p.val = 1 ∧ rd t R.MB_STAT_RSP_VALID 0 p.val = 0 ∧ OnlyRegs [R.MB_STAT_OWNER, R.MB_STAT_RSP_VALID] s t) ∧
    (∀ (p : Fin 4) src l, let t := mbTake s p src l
      let c : MbCmd := ⟨src, leAt l 4 2, leAt l 6 2, bitAt (leAt l 3 1) 0 = 1, l.drop 16⟩
      let again := ∃ q, (mbPair s p.val).last = some (q, c.seq) ∧ (p.val ≠ 1 ∨ q = src)
      let served := opcodes.contains c.opcode = true ∧ (keeperUp s = true ∨ recovery s = false ∨ bootOpcodes.contains c.opcode = true);
      (∀ st, headerFault p.val l = some st → rb t (.rspBuf p) 12 = BitVec.ofNat 8 st ∧ rd t R.MB_STAT_OWNER 0 p.val = 0 ∧
        rd t R.MB_STAT_RSP_VALID 0 p.val = 1 ∧ mbPair t p.val = { mbPair s p.val with krestart := false }) ∧
      (headerFault p.val l = none →
        (again → t = mbSend (krestarted s p.val) p src (replayBytes s p.val (mbPair s p.val).stored)) ∧
        (¬ again → ¬ served → t = mbAnswer s p c (rspStatus 5)) ∧
        (¬ again → served → badVariant c.opcode c.payload = true → t = mbAnswer s p c (rspStatus 6)) ∧
        (¬ again → served → badVariant c.opcode c.payload = false → t.regs = s.regs ∧ t.mem = s.mem ∧ t.out = s.out ∧
          mbPair t p.val = { mbPair s p.val with cmd := some c, queued := false, slot := none, ringAt := s.time.now }))) ∧
    (∀ src bytes, s.keeper.eth.isSome = true → mbServing s 1 = true →
      ((mbPair s 1).cmd = none → exec (.maintDatagramRx src bytes) s = .next (mbArrive s 1 src bytes)) ∧
      (∀ c, (mbPair s 1).cmd = some c →
        (c.src = src → c.seq = leAt bytes 4 2 → exec (.maintDatagramRx src bytes) s = .next s) ∧
        (c.src ≠ src ∨ c.seq ≠ leAt bytes 4 2 → exec (.maintDatagramRx src bytes) s = .next (emit (krestarted s 1)
          (.udp 51720 src (rspBytes s 1 (leAt bytes 4 2) (leAt bytes 6 2) (rspStatus 8))))))) ∧
    (∀ src bytes, s.keeper.eth = none ∨ mbServing s 1 = false → exec (.maintDatagramRx src bytes) s = .next s) ∧
    (∀ dn (src dst : Fin 4) (f : CxFrame), f.src = src.val → f.dst = dst.val → cxLink s dn = true → cxGood f 3 = true → f.src ≠ cxPos s →
      (f.dst ≠ cxPos s → exec (.cascadeMboxRx dn src dst f) s = .next (if cxLink s (!dn) then emit s (.cx (!dn) f) else s)) ∧
      (f.dst = cxPos s → keeperUp s = false → exec (.cascadeMboxRx dn src dst f) s = .next s) ∧
      (f.dst = cxPos s → keeperUp s = true →
        (leAt f.data 0 2 ≠ 0x4B52 → (mbPair s 2).cmd = none → exec (.cascadeMboxRx dn src dst f) s = .next (mbArrive s 2 f.src f.data)) ∧
        (∀ c, leAt f.data 0 2 ≠ 0x4B52 → (mbPair s 2).cmd = some c →
          (c.src = f.src → c.seq = leAt f.data 4 2 → exec (.cascadeMboxRx dn src dst f) s = .next s) ∧
          (c.src ≠ f.src ∨ c.seq ≠ leAt f.data 4 2 → exec (.cascadeMboxRx dn src dst f) s = .next (cxMbox (krestarted s 2) f.src
            (rspBytes s 2 (leAt f.data 4 2) (leAt f.data 6 2) (rspStatus 8))))) ∧
        (leAt f.data 0 2 = 0x4B52 → relayPair s f.src = none → exec (.cascadeMboxRx dn src dst f) s = .next s) ∧
        (∀ p c, leAt f.data 0 2 = 0x4B52 → relayPair s f.src = some (p, c) →
          exec (.cascadeMboxRx dn src dst f) s = .next (mbAnswer s p c (rspOk f.data))))) ∧
    (∀ dn (src dst : Fin 4) (f : CxFrame), f.src ≠ src.val ∨ f.dst ≠ dst.val ∨ cxLink s dn = false ∨ cxGood f 3 = false ∨ f.src = cxPos s → exec (.cascadeMboxRx dn src dst f) s = .next s) ∧
    (∀ o r, nextPost s = some (o, r) → keeperUp s = true → s.keeper.safeSeen = false → s.keeper.nPosted < 32 →
      Does .keeperRequestPost s fun t => t.scan.ring = s.scan.ring ++ [(s.scan.slot, r)] ∧ t.scan.slot = s.scan.slot + 1 ∧
        t.keeper.toPost = s.keeper.toPost.erase (o, r) ∧
        t.keeper.posted = s.keeper.posted ++ [(s.scan.slot, o, r)] ∧ t.keeper.nPosted = s.keeper.nPosted + 1) ∧
    (nextPost s = none ∨ keeperUp s = false ∨ s.keeper.safeSeen = true ∨ 32 ≤ s.keeper.nPosted → exec .keeperRequestPost s = .next s) ∧
    (∀ v vs, keeperUp s = true → s.scan.verdicts = v :: vs →
      (s.keeper.posted.find? (fun e => e.1 == v.slot) = none → exec .verdictRead s = .next { s with scan := { s.scan with verdicts := vs } }) ∧
      (∀ (p : Fin 4) seq r c, s.keeper.posted.find? (fun e => e.1 == v.slot) = some (v.slot, .pair p.val seq, r) →
        (mbPair s p.val).cmd = some c → c.seq = seq → (mbPair s p.val).slot = some v.slot → Does .verdictRead s fun t =>
          t.scan.verdicts = vs ∧ (mbPair t p.val).cmd = none ∧ t.keeper.posted = s.keeper.posted.filter (fun e => e.1 != v.slot) ∧
          rd t R.MB_STAT_OWNER 0 p.val = 0 ∧ rd t R.MB_STAT_RSP_VALID 0 p.val = 1 ∧
          rb t (.rspBuf p) 12 = BitVec.ofNat 8 (b2n (v.reason != 0)) ∧ rb t (.rspBuf p) 13 = BitVec.ofNat 8 v.reason) ∧
      (∀ (p : Fin 4) seq r, s.keeper.posted.find? (fun e => e.1 == v.slot) = some (v.slot, .pair p.val seq, r) → v.reason ≠ 0 →
        (mbPair s p.val).cmd = none → Does .verdictRead s fun t => t.scan.verdicts = vs ∧ t.regs = s.regs ∧ t.mem = s.mem ∧
          (mbPair t p.val).log = (mbPair s p.val).log.map (fun e => if e.seq = seq ∧ e.status = 2 then
            { e with status := 1, reason := v.reason, gen := v.gen } else e)) ∧
      (∀ n r, s.keeper.posted.find? (fun e => e.1 == v.slot) = some (v.slot, .startup n, r) → v.reason ≠ 0 → Does .verdictRead s fun t =>
        t.scan.verdicts = vs ∧ n ∈ t.keeper.badItems ∧ t.keeper.posted = s.keeper.posted.filter (fun e => e.1 != v.slot))) ∧
    (keeperUp s = false ∨ s.scan.verdicts = [] → exec .verdictRead s = .next s) ∧
    (∀ (p : Fin 4) c, (mbPair s p.val).cmd = some c → keeperUp s = true → (mbPair s p.val).queued = true → c.opcode ≠ 3 →
      (mbPair s p.val).ringAt + 2000000000 ≤ s.time.now → exec (.requestPendingTimeout p) s = .next (mbAnswer s p c (rspStatus 2))) ∧
    (∀ p : Fin 4, (∀ c, (mbPair s p.val).cmd = some c → c.opcode = 3) ∨ keeperUp s = false ∨ (mbPair s p.val).queued = false ∨
      s.time.now < (mbPair s p.val).ringAt + 2000000000 → exec (.requestPendingTimeout p) s = .next s) ∧
    (keeperUp s = true → s.keeper.safeSeen = false → (s.modl.mode = .safe ∨ s.modl.prismStop = true) → Does .keeperSafeSeen s fun t =>
      t.keeper.safeSeen = true ∧ t.keeper.toPost = [] ∧
      ∀ (p : Fin 4) c, (mbPair s p.val).cmd = some c → (mbPair s p.val).queued = true → c.opcode ≠ 3 →
        (mbPair t p.val).cmd = none ∧ rb t (.rspBuf p) 12 = 1 ∧ rb t (.rspBuf p) 13 = 0x36) ∧
    (keeperUp s = false ∨ s.keeper.safeSeen = true ∨ (s.modl.mode ≠ .safe ∧ s.modl.prismStop = false) → exec .keeperSafeSeen s = .next s)

/-- The Keeper's restart, network and expiries (13 R481, 14 R488, R503, R513 to R517, 11 R433 to R435): a watchdog expiry or an
exception shows KEEPER_DOWN on every pair, drops transfers and the token and notes its cause; when the restart is done and the firmware's
check has passed, 0x0903 is recorded and every pair taken up again; a link up holds its address, and while it does, ARP requests and echoes
are answered; a transfer, a nonce and a token expire after their times and not before; SERVICE that has run out asks for STOP; a view of a
commit already compared only takes the place of the one before, one that fits the voted value ends the differences, a difference is counted
where the commit before showed one too, the 4th in a row recorded as 0x0907, and the 64th as 0x0905 with the voted value taken over.
Model choices that it rests on: log entries 67, 69, 76, 130, 145. -/
def Obligations.KeeperLife : Prop :=
  ∀ s : State, live s = true →
    (keeperUp s = true → (Does .keeperWatchdogExpiry s fun t => t.keeper.restart = some 0 ∧ t.keeper.token = none ∧ t.keeper.xfers = [] ∧
        (∀ p : Fin 4, rd t R.MB_STAT_KEEPER_DOWN 0 p.val = 1) ∧ keeperUp t = false ∧ t.mem = s.mem) ∧
      (Does .keeperException s fun t => t.keeper.restart = some 1 ∧ t.keeper.token = none ∧ t.keeper.xfers = [] ∧
        (∀ p : Fin 4, rd t R.MB_STAT_KEEPER_DOWN 0 p.val = 1) ∧ keeperUp t = false ∧ t.mem = s.mem)) ∧
    (keeperUp s = false → exec .keeperWatchdogExpiry s = .next s ∧ exec .keeperException s = .next s) ∧
    (∀ cause, s.keeper.restart = some cause → Does .keeperRestartDone s fun t =>
      (verifySlot s 1 (bootBank s) = 1 → t = flushOwed (allPorts.foldl pairResume
          (keeperEvent { s with keeper := { s.keeper with restart := none } } 0x0903 (leBytes 1 cause))) ∧
        t.keeper.restart = none ∧ isPresent t 0x0903 = true ∧ ∀ p : Fin 4, rd t R.MB_STAT_KEEPER_DOWN 0 p.val = 0) ∧
      (verifySlot s 1 (bootBank s) ≠ 1 → t = s)) ∧
    (s.keeper.restart = none → exec .keeperRestartDone s = .next s) ∧
    (∀ (p : Fin 4) c, (mbPair s p.val).cmd = some c → let t := pairResume s p;
      rd t R.MB_STAT_OWNER 0 p.val = 0 ∧ rb t (.rspBuf p) 12 = 0xC ∧ (mbPair t p.val).cmd = none) ∧
    (∀ ip, exec (.maintEthLinkUp ip) s = .next { s with keeper := { s.keeper with eth := some ip } }) ∧
    (∀ ip data, s.keeper.eth.isSome = true → mbServing s 1 = true → exec (.arpRequestRx ip) s = .next (emit s (.arp ip)) ∧
      exec (.icmpEchoRx ip data) s = .next (emit s (.icmp ip data))) ∧
    (∀ ip data, s.keeper.eth = none ∨ mbServing s 1 = false → exec (.arpRequestRx ip) s = .next s ∧ exec (.icmpEchoRx ip data) s = .next s) ∧
    (∀ kind x, s.keeper.xfers.find? (fun e => e.1 == kind) = some (kind, x) →
      (x.last + 60000000000 ≤ s.time.now →
        exec (.xferTimeout kind) s = .next { s with keeper := { s.keeper with xfers := Tab.erase s.keeper.xfers kind } }) ∧
      (s.time.now < x.last + 60000000000 → exec (.xferTimeout kind) s = .next s)) ∧
    (∀ kind, s.keeper.xfers.find? (fun e => e.1 == kind) = none → exec (.xferTimeout kind) s = .next s) ∧
    (∀ n t0, s.keeper.nonce = some (n, t0) →
      (t0 + 600000000000 ≤ s.time.now → exec .tokenNonceExpiry s = .next { s with keeper := { s.keeper with nonce := none } }) ∧
      (s.time.now < t0 + 600000000000 → exec .tokenNonceExpiry s = .next s)) ∧
    (s.keeper.nonce = none → exec .tokenNonceExpiry s = .next s) ∧
    (∀ g d t0, s.keeper.token = some (g, d, t0) →
      (t0 + 600000000000 ≤ s.time.now → exec .serviceTokenExpiry s = .next { s with keeper := { s.keeper with token := none } }) ∧
      (s.time.now < t0 + 600000000000 → exec .serviceTokenExpiry s = .next s)) ∧
    (s.keeper.token = none → exec .serviceTokenExpiry s = .next s) ∧
    (s.modl.mode = .service → s.modl.serviceEnd ≤ s.scan.tx →
      exec .serviceExpiry s = .next { s with modl := { s.modl with nextMode := some .stop } }) ∧
    (s.modl.mode ≠ .service ∨ s.scan.tx < s.modl.serviceEnd → exec .serviceExpiry s = .next s) ∧
    (∀ cls idx (view : Word) voted, keeperUp s = true → votedView s cls idx = some voted →
      let key := 65536 * cls + idx
      let old := viewOf s cls idx
      let seen := ∃ y, old = some y ∧ y.com = s.scan.commits
      let row := match old with | some y => if y.com + 1 = s.scan.commits then y.n else 0 | none => 0
      let n := if view.toNat = voted then 0 else row + 1
      let put (y : ViewSt) : State := { s with keeper := { s.keeper with views := Tab.insert s.keeper.views key y } };
      (∀ y, old = some y → y.com = s.scan.commits →
        exec (.managementViewCompare cls idx view) s = .next (put { y with view := view.toNat })) ∧
      (¬ seen → n < 64 → n ≠ 4 → exec (.managementViewCompare cls idx view) s = .next (put ⟨n, s.scan.commits, view.toNat⟩)) ∧
      (¬ seen → n = 4 → Does (.managementViewCompare cls idx view) s fun t =>
        t.keeper = (put ⟨4, s.scan.commits, view.toNat⟩).keeper ∧ t.faults.lastCode = 0x0907 ∧ t.regs = s.regs ∧ t.modl = s.modl) ∧
      (¬ seen → 64 ≤ n → Does (.managementViewCompare cls idx view) s fun t =>
        t.keeper = (put ⟨0, s.scan.commits, voted⟩).keeper ∧ t.faults.lastCode = 0x0905 ∧ isPresent t 0x0905 = true ∧ t.regs = s.regs ∧
        t.modl = s.modl)) ∧
    (∀ cls idx view, keeperUp s = false ∨ votedView s cls idx = none → exec (.managementViewCompare cls idx view) s = .next s)

/-- The journal and the recorder (13 R472, 17 R571, R575, R577, R578, R585, R587, R589): the replay takes the state, half, epoch and end
that the current half holds, or begins an empty journal, counts OPTIME and PCYC on, adds a TIME record and puts the start-up requests before
everything else; the index finds the newest record of each ring, and a start-up record follows with the next RSEQ; a write puts the Keeper's
and the hardware's events in the recorder and takes the first frame of the queue as one COMMIT record without its events, which go to the
recorder; compaction begins at 12 MiB and writes a checkpoint to the other half, and when done, with the records since, that half is
current, one epoch later; the yearly refresh, after 8,760 h or a checkpoint of 365 days ago, does both at once and copies each kind into its
other slot; a TIME record is appended 60 s after the last; a new snapshot, at most one in 100 ms, shows the newest records and raises vector
5. None of them acts before its time or while the Keeper is down, and no compaction begins while an imported journal waits for its replay.
Model choices that it rests on: log entries 66, 80, 81. -/
def Obligations.JournalAndRecorder : Prop :=
  ∀ s : State, live s = true →
    let other := halfBase (1 - s.jrnl.half)
    let quiet (t : State) : Prop := t = { s with mem := t.mem, marks := t.marks, jrnl := t.jrnl }
    (keeperUp s = true → s.jrnl.up = false → Does .journalReplay s fun t =>
      t.jrnl.up = true ∧ t.keeper.starting = true ∧ t.keeper.autoDone = false ∧
      (∃ first : List (Origin × Request), (∀ e ∈ first, ∃ n, e.1 = .startup n) ∧ t.keeper.toPost = first ++ s.keeper.toPost) ∧
      (∀ h e r, currentHalf s = some (h, e, r) → t.jrnl.half = h ∧ t.jrnl.epoch = e ∧ t.jrnl.pos = r.pos + 40 ∧ t.jrnl.recs = r.recs + 1 ∧
        t.jrnl.state = { r.state with
          optime := (max r.state.optime (newestTime s) + (s.time.now - s.jrnl.optAt) / 1000000) % 2 ^ 64,
          pcyc := (r.state.pcyc + (if rd s R.BOOT_STAT_RST_CAUSE = 0 then 1 else 0)) % 2 ^ 32 } ∧
        KeepsMemBut .mram (halfBase h + r.pos) 40 s t) ∧
      (currentHalf s = none → t.jrnl.half = 0 ∧ t.jrnl.epoch = 1 ∧ t.jrnl.state.cfg = [] ∧ t.jrnl.state.prog = none ∧
        t.jrnl.state.safety = none ∧ t.jrnl.state.forces = [] ∧ KeepsMemBut .mram 0 t.jrnl.pos s t) ∧
      t.modl = s.modl ∧ t.lanes = s.lanes ∧ t.faults = s.faults ∧
      KeepsRegs [R.BOOT_STAT_PROG_RES, R.BOOT_STAT_SAFE_RES, R.SUPW_CFG_WIN_MS, R.TJ_CFG_WARN, R.WAKE_CFG_ALARM_EN, R.WAKE_CFG_LUOSH_EN,
        R.WAKE_CFG_WAKEN_EN] s t) ∧
    (s.jrnl.up = true → exec .journalReplay s = .next s) ∧
    (keeperUp s = true → s.jrnl.up = true → s.jrnl.recUp = false →
      let u := rebuildIndex s
      let top := match (recIndex s).getLast? with | some e => e.1 | none => 0
      let n := u.jrnl.slots.getD 0 0
      Does .recorderIndexRebuild s fun t => t.jrnl.recUp = true ∧ t.aon.owed = [] ∧ t.jrnl.rseq = top + 2 + s.aon.owed.length ∧
        t.jrnl.damaged = s.jrnl.damaged + ((recSlots s).filter (slotBad s)).length ∧
        (∀ e, (recIndex s).getLast? = some e → e.2 < ringSize 0 → n = (e.2 + 1) % ringSize 0) ∧
        (s.aon.owed = [] → KeepsMemBut .mram (recBase + 64 * n) 64 s t ∧ t.modl = s.modl ∧ t.regs = s.regs ∧ t.faults = s.faults ∧
          ∃ arg, slotBytes t n = recBytes u 0 0 (scanNo s) false arg ∧ arg.take 4 = leBytes 1 0 ++ leBytes 1 (rd s R.BOOT_STAT_RST_CAUSE) ++
            leBytes 1 (rd s R.AON_STAT_LAST_WAKE) ++ leBytes 1 (rd s R.BOOT_STAT_BANK))) ∧
    (keeperUp s = false ∨ s.jrnl.up = false ∨ s.jrnl.recUp = true → exec .recorderIndexRebuild s = .next s) ∧
    (keeperUp s = true → s.jrnl.up = true → s.jrnl.recUp = true →
      let own := s.faults.events.filter Event.own
      let left := s.faults.events.filter (fun e => !e.own);
      (∀ f q, s.jrnl.queue = f :: q →
        let rest := f.deltas.filter (fun d => d.type != 6)
        let evs := f.deltas.filter (fun d => d.type == 6)
        let payload := wordBytes (frameWords f.scan rest)
        let size := 24 + 8 * (1 + deltaWords rest)
        let a := halfBase s.jrnl.half + s.jrnl.pos
        Does .journalRecordWrite s fun t => t.jrnl.queue = q ∧ t.jrnl.recs = s.jrnl.recs + 1 ∧ t.jrnl.pos = s.jrnl.pos + size ∧
          t.jrnl.half = s.jrnl.half ∧ t.jrnl.epoch = s.jrnl.epoch ∧ t.jrnl.state = s.jrnl.state.record 0x10 payload ∧
          t.jrnl.rseq = s.jrnl.rseq + own.length + evs.length ∧ t.faults = { s.faults with events := left } ∧
          (∀ l, rdL t R.JQ_STAT_FILL l = rdL s R.JQ_STAT_FILL l - (1 + deltaWords f.deltas)) ∧ KeepsRegs [R.JQ_STAT_FILL] s t ∧
          (∀ r off, r.at off < Region.mram.at recBase → (∀ k, k < size → r.at off ≠ Region.mram.at (a + k)) → rb t r off = rb s r off) ∧
          (s.jrnl.half ≤ 1 → s.jrnl.pos + size ≤ halfSize →
            rbs t .mram a size = jrec 0x10 (b2n f.resync) s.jrnl.epoch s.jrnl.recs payload) ∧
          t.lanes = s.lanes ∧ t.scan = s.scan ∧ t.modl = s.modl) ∧
      (s.jrnl.queue = [] → Does .journalRecordWrite s fun t => t.jrnl.queue = [] ∧ t.jrnl.recs = s.jrnl.recs ∧ t.jrnl.pos = s.jrnl.pos ∧
        t.jrnl.rseq = s.jrnl.rseq + own.length ∧ t.faults = { s.faults with events := left } ∧ t.regs = s.regs ∧ (own = [] → t = s) ∧
        (∀ r off, r.at off < Region.mram.at recBase → rb t r off = rb s r off) ∧
        (∀ e, own = [e] → let n := ringBase (classOf e.code) + s.jrnl.slots.getD (classOf e.code) 0
          slotBytes t n = recBytes s e.code (classOf e.code) e.scan e.mgmt (leBytes 8 e.arg ++ if e.mgmt then leBytes 8 e.tb1 else []) ∧
          KeepsMemBut .mram (recBase + 64 * n) 64 s t))) ∧
    (keeperUp s = false ∨ s.jrnl.up = false ∨ s.jrnl.recUp = false → exec .journalRecordWrite s = .next s) ∧
    (keeperUp s = true → s.jrnl.up = true → s.jrnl.compact = none → imported s = false → 12 * 1048576 ≤ s.jrnl.pos →
      let recs := (ckptRecs { s.jrnl.state with optime := optime s } s.scan.gen).dropLast
      let log := encRecs 2 (s.jrnl.epoch + 1) 0 recs
      Does .compactionStart s fun t => quiet t ∧
        t.jrnl = { s.jrnl with compact := some (log.length, recs.length), after := [], ckptTai := some s.time.tb2 } ∧
        rbs t .mram other log.length = log ∧ KeepsMemBut .mram other log.length s t) ∧
    (s.jrnl.up = false ∨ s.jrnl.compact.isSome = true ∨ imported s = true ∨ s.jrnl.pos < 12 * 1048576 → exec .compactionStart s = .next s) ∧
    (∀ p n, keeperUp s = true → s.jrnl.compact = some (p, n) →
      let e := s.jrnl.epoch + 1
      let log := jrec 0x02 2 e n (leBytes 8 (n - 1)) ++ encRecs 0 e (n + 1) s.jrnl.after
      Does .compactionDone s fun t => quiet t ∧
        t.jrnl = { s.jrnl with half := 1 - s.jrnl.half, epoch := e, pos := p + log.length, recs := n + 1 + s.jrnl.after.length,
                               compact := none, after := [] } ∧
        rbs t .mram (other + p) log.length = log ∧ KeepsMemBut .mram (other + p) log.length s t) ∧
    (s.jrnl.compact = none → exec .compactionDone s = .next s) ∧
    (let old := ∃ t0, s.jrnl.ckptTai = some t0 ∧ bitAt (rd s R.TB_STAT_VALID) 2 = 1 ∧ t0 + 31536000000000000 < s.time.tb2
      let due := s.jrnl.refresh + 31536000000 ≤ optime s ∨ old
      let u := compactDone (compactStart s);
      (keeperUp s = true → s.jrnl.up = true → s.jrnl.compact = none → imported s = false → due → Does .yearlyRefresh s fun t => quiet t ∧
        t.jrnl.compact = none ∧ t.jrnl.half = 1 - s.jrnl.half ∧ t.jrnl.epoch = s.jrnl.epoch + 1 ∧ t.jrnl.refresh = optime s ∧
        t.jrnl.ckptTai = some s.time.tb2 ∧ t.jrnl.rseq = s.jrnl.rseq ∧
        (t.jrnl.pos ≤ halfSize → ∀ off, recBase ≤ off → off < 0x3000000 → rb t .mram off = rb s .mram off) ∧
        (∀ e c, t.jrnl.pos ≤ halfSize → s.jrnl.state.cfg = [e] → cfgContent u e.1 = some c →
          rbs t .mram (cfgBase e.1 (1 - e.2.1)) c.length = c)) ∧
      (s.jrnl.up = false ∨ s.jrnl.compact.isSome = true ∨ imported s = true ∨ ¬ due → exec .yearlyRefresh s = .next s)) ∧
    (keeperUp s = true → s.jrnl.up = true → s.jrnl.optAt + 60000000000 ≤ s.time.now → Does .timeRecord s fun t =>
      let a := halfBase s.jrnl.half + s.jrnl.pos
      quiet t ∧ t.jrnl.recs = s.jrnl.recs + 1 ∧ t.jrnl.pos = s.jrnl.pos + 40 ∧ t.jrnl.optAt = s.time.now ∧
      t.jrnl.state = { s.jrnl.state with optime := optime s % 2 ^ 64, pcyc := s.jrnl.state.pcyc % 2 ^ 32 } ∧
      rbs t .mram a 40 = jrec 0x30 0 s.jrnl.epoch s.jrnl.recs (payTime (optime s) s.jrnl.state.pcyc) ∧ KeepsMemBut .mram a 40 s t) ∧
    (s.jrnl.up = false ∨ s.time.now < s.jrnl.optAt + 60000000000 → exec .timeRecord s = .next s) ∧
    (keeperUp s = true → s.jrnl.recUp = true → s.jrnl.fresh = true → (∀ t0, s.jrnl.snapAt = some t0 → t0 + 100000000 ≤ s.time.now) →
      let new := (recIndex s).drop ((recIndex s).length - 8190)
      let gen := s.jrnl.snapGen + 1
      Does .recorderSnapshotRenew s fun t => t.jrnl = { s.jrnl with snapGen := gen, fresh := false, snapAt := some s.time.now } ∧
        r64 t .bar2 0x80000 = gen % 2 ^ 64 ∧ r64 t .bar2 0xFFFC0 = gen % 2 ^ 64 ∧ r64 t .bar2 0x80008 = s.jrnl.rseq % 2 ^ 64 ∧
        r32 t .bar2 0x80010 = new.length ∧ (∀ i e, new[i]? = some e → rbs t .bar2 (0x80040 + 64 * i) 64 = slotBytes s e.2) ∧
        KeepsMemBut .bar2 0x80000 0x80000 s t ∧ t.regs = s.regs ∧
        (bitAt s.bridge.masked 5 = 1 → bitAt t.bridge.pba 5 = 1 ∧ t.out = s.out) ∧
        (bitAt s.bridge.masked 5 = 0 → rd s R.BR_STAT_BME = 1 → rd s R.BR_STAT_L0 = 1 → t.out = s.out ++ [.msix 5])) ∧
    (s.jrnl.recUp = false ∨ s.jrnl.fresh = false ∨ (∃ t0, s.jrnl.snapAt = some t0 ∧ s.time.now < t0 + 100000000) →
      exec .recorderSnapshotRenew s = .next s) ∧
    (keeperUp s = false → exec .journalReplay s = .next s ∧ exec .compactionStart s = .next s ∧ exec .compactionDone s = .next s ∧
      exec .yearlyRefresh s = .next s ∧ exec .timeRecord s = .next s ∧ exec .recorderSnapshotRenew s = .next s)

/-! ## The host bridge and registers (chapters 0, 1 and 15) -/

/-- The host bridge (15 R519 to R524, R527, R530 to R534, R537, 14 R487, R492): the link up shows speed, width and BME; a PCIe
reset clears them and masks every vector, and with no Keeper channel running changes nothing else; a read of BAR2 returns its
bytes in completions, READY is read as computed, PEL_POP pops; a register read that breaks R521 is a Completer Abort, counted, and
reads nothing; a write to BAR2 changes no memory and is logged, and so is one to a command window that the Keeper holds;
one to a free command window lands in the pair's command buffer; an unsupported request is completed so; a pop of the error
log returns the entries left with the count of pops; an unmasked vector that is pending is sent once; a host read of a running Keeper
channel with no answer 50 ms after its descriptor's fetch ends the channel with error 0x0A, and not before; with the link down or out of
its BAR no request has an effect.
Model choices that it rests on: log entries 6, 77, 78, 131. -/
def Obligations.HostBridge : Prop :=
  ∀ s : State, live s = true →
    (∀ speed width bme, Does (.pcieLinkUp speed width bme) s fun t => rd t R.BR_STAT_L0 = 1 ∧ rd t R.BR_STAT_BME = b2n bme ∧
      rd t R.BR_STAT_SPEED = speed.val ∧ rd t R.BR_STAT_WIDTH = width.val ∧
      OnlyRegs [R.BR_STAT_L0, R.BR_STAT_BME, R.BR_STAT_SPEED, R.BR_STAT_WIDTH] s t) ∧
    (Does .pcieReset s fun t => rd t R.BR_STAT_L0 = 0 ∧ rd t R.BR_STAT_BME = 0 ∧ t.bridge.masked = 0xFFFFFFFF ∧ t.bridge.log = s.bridge.log ∧
      (runCh s 3 = none → t.bridge.pba = 0 ∧ KeepsRegs [R.BR_STAT_L0, R.BR_STAT_BME, R.BR_STAT_SPEED, R.BR_STAT_WIDTH] s t ∧
        KeepsMemBut .msixTab 0 512 s t ∧ ∀ o < 512, rb t .msixTab o = memDefault) ∧
      (∀ n d, runCh s 3 = some n → (dmaCh s 3 n).desc = some d → hostSrc d = true →
        chState t 3 n = chError ∧ rd t R.CH_STAT_DMA_ERR 3 n = 6 ∧ runCh t 3 = none)) ∧
    (∀ off len full, inBar s true off len = true →
      exec (.pcieInboundRead true off len full) s = .next (completeAll s off (rbs s .bar2 off len))) ∧
    (∀ full, rd s R.BR_STAT_L0 = 1 →
      exec (.pcieInboundRead false 0x10 4 full) s = .next (if full then emit s (.completion 0 (leBytes 4 (ready s)))
        else emit (wr s R.BR_STAT_CA_CNT (rd s R.BR_STAT_CA_CNT + 1)) (.completion 4 []))) ∧
    (∀ p off len full, inBar s false off len = true → p < 4 → 0x1000 + 0x1000 * p ≤ off → off + len ≤ 0x1800 + 0x1000 * p →
      exec (.pcieInboundRead false off len full) s = .next (completeAll s off ((List.range len).map (fun i => winByte s (off + i))))) ∧
    (∀ off len full, inBar s false off len = true → inMbWin off = false → regRequestOk off len full = false →
      exec (.pcieInboundRead false off len full) s = .next (emit (wr s R.BR_STAT_CA_CNT (rd s R.BR_STAT_CA_CNT + 1)) (.completion 4 []))) ∧
    (∀ bar2 off len full, rd s R.BR_STAT_L0 = 0 ∨ len = 0 ∨ (if bar2 then 0x100000 else 0x10000) < off + len →
      exec (.pcieInboundRead bar2 off len full) s = .next s) ∧
    (∀ off data tag, inBar s true off data.length = true → data.length ≤ 256 - off % 256 →
      Does (.pcieInboundWrite true off data tag) s fun t => t.mem = s.mem ∧
        rd t R.PEL_STAT_TOTAL = (rd s R.PEL_STAT_TOTAL + 1) % 2 ^ R.PEL_STAT_TOTAL.width ∧
        (s.bridge.log.length < 16 → t.bridge.log = s.bridge.log ++
          [⟨(Config.barBase true).val + off, false, 1, tag.val, data.length, tb1 s⟩]) ∧
        (16 ≤ s.bridge.log.length → t.bridge.log = s.bridge.log ∧ rd t R.PEL_STAT_OVF = 1)) ∧
    (∀ off data tag, rd s R.BR_STAT_L0 = 1 → 0x1000 ≤ off → off + data.length ≤ 0x1400 → 1 ≤ data.length → data.length ≤ 256 - off % 256 →
      (rd s R.MB_STAT_OWNER 0 0 = 0 → exec (.pcieInboundWrite false off data tag) s =
        .next (putEnabled s (.cmdBuf 0) (1024 * rd s R.MB_WIN_CMD_PAGE 0 0 + (off - 0x1000)) data)) ∧
      (rd s R.MB_STAT_OWNER 0 0 = 1 → exec (.pcieInboundWrite false off data tag) s =
        .next (pelAppend (rcAdd s R.MB_CNT_WR_LOST 1 0) ⟨(Config.barBase false).val + off, false, 5, tag.val, data.length, tb1 s⟩))) ∧
    (∀ (v : Word) tag, rd s R.BR_STAT_L0 = 1 → v.toNat % 2 = 1 → rd s R.MB_STAT_OWNER 0 0 = 0 →
      exec (.pcieInboundWrite false 0x1804 ((leBytes 4 v.toNat).map some) tag) s = exec (.mbDoorbellRing 0) s) ∧
    (∀ bar2 off data tag, rd s R.BR_STAT_L0 = 0 ∨ data = [] ∨ (if bar2 then 0x100000 else 0x10000) < off + data.length →
      exec (.pcieInboundWrite bar2 off data tag) s = .next s) ∧
    (rd s R.BR_STAT_L0 = 1 → exec .pcieUnsupportedRequest s = .next (emit s (.completion 1 []))) ∧
    (rd s R.BR_STAT_L0 = 0 → exec .pcieUnsupportedRequest s = .next s) ∧
    (s.bridge.log = [] → exec .pelPop s = .next (emit s (.completion 0 (leBytes 4 (2 ^ 16 * s.bridge.pops))))) ∧
    (∀ x xs, s.bridge.log = x :: xs → Does .pelPop s fun t => t.bridge.log = xs ∧ t.bridge.pops = (s.bridge.pops + 1) % 2 ^ 16 ∧
      t.out = s.out ++ [.completion 0 (leBytes 4 (2 ^ 16 * ((s.bridge.pops + 1) % 2 ^ 16) + 2 ^ 15 + xs.length))] ∧
      rd t R.PEL_ENT0_ADDR_LO = x.addr % 2 ^ R.PEL_ENT0_ADDR_LO.width ∧ rd t R.PEL_ENT2_CAUSE = x.cause % 2 ^ R.PEL_ENT2_CAUSE.width ∧
      rd t R.PEL_ENT2_BYTES = x.bytes % 2 ^ R.PEL_ENT2_BYTES.width ∧ rd t R.PEL_ENT2_TAG = x.tag % 2 ^ R.PEL_ENT2_TAG.width ∧
      rd t R.PEL_STAT_COUNT = xs.length % 2 ^ R.PEL_STAT_COUNT.width ∧ t.mem = s.mem) ∧
    (∀ v : Fin 32, Does (.msixUnmask v) s fun t => bitAt t.bridge.masked v.val = 0 ∧ bitAt t.bridge.pba v.val = 0 ∧ t.regs = s.regs ∧
      t.out = (if bitAt s.bridge.pba v.val = 1 ∧ rd s R.BR_STAT_BME = 1 ∧ rd s R.BR_STAT_L0 = 1 then s.out ++ [.msix v.val] else s.out) ∧
      KeepsMemBut .msixTab (16 * v.val + 12) 1 s t) ∧
    (∀ ch : Fin 16, (dmaCh s 3 ch.val).desc = none ∨ runCh s 3 ≠ some ch.val ∨ s.time.now < (dmaCh s 3 ch.val).since + 50000000 →
      exec (.outboundReadTimeout ch) s = .next s) ∧
    (∀ (ch : Fin 16) d, (dmaCh s 3 ch.val).desc = some d → runCh s 3 = some ch.val → (dmaCh s 3 ch.val).since + 50000000 ≤ s.time.now →
      (hostSrc d = true → exec (.outboundReadTimeout ch) s = .next (dmaFail s 3 ch.val 0xA true)) ∧
      (hostSrc d = false → hostDst d = false → exec (.outboundReadTimeout ch) s = .next s) ∧
      (hostSrc d = false → hostDst d = true → Does (.outboundReadTimeout ch) s fun t => chState t 3 ch.val = chError ∧ runCh t 3 = none ∧
        (dmaCh t 3 ch.val).desc = none))

/-- Register and memory accesses (00 R15 to R18, R20, 01 R22 to R24, R44 to R46, 03 R110, R126, 14 R485): an access that no row of its
map takes, or that is not a whole aligned register of a block, is a bus error, and a read then returns 0; a sound memory is read and
written at any width and nowhere else; a register is read by its fields, reserved bits 0, and a window shows the memory behind it; an RO or
RC field ignores a write, an RW field takes a value in its range, an RWS field only in STOP and INIT, a W1C field clears the bits written 1
that hardware has not set in the same clock; an access to image or instance memory during the Tumbler pass is held; an agent whose core is
not clocked reads and writes nothing (04 R147).
Model choices that it rests on: log entries 84, 86, 96. -/
def Obligations.RegisterAccess : Prop :=
  ∀ s : State, live s = true →
    (∀ (who : Fin 4) addr w, coreUp s who.val = true → memPlace who.val addr w.bytes false = none → passHolds s who.val addr = none →
      (wholeRegister who.val addr w.bytes = false →
        exec (.rcFieldRead who (addr, w)) s = .next (emit (busError s who.val) (.read who.val 0))) ∧
      (∀ l b, wholeRegister who.val addr w.bytes = true → blockOf who.val addr = some (l, b) →
        (listed b = false → exec (.rcFieldRead who (addr, w)) s = .next (emit (busError s who.val) (.read who.val 0))) ∧
        (listed b = true → inWindow b = true → exec (.rcFieldRead who (addr, w)) s = .next (emit s (.read who.val (windowWord s l b)))) ∧
        (listed b = true → inWindow b = false → (b < 0x20010000 ∨ 0x20010100 ≤ b) → (b < 0x20064000 ∨ 0x20064800 ≤ b) →
          Does (.rcFieldRead who (addr, w)) s fun t =>
            let p := regPlace who.val addr
            t.out = s.out ++ [.read who.val (readWord s p.rows p.bank p.rc)] ∧ t.mem = s.mem ∧ t.modl = s.modl ∧ t.scan = s.scan))) ∧
    (∀ (who : Fin 4) addr w r o, coreUp s who.val = true → memPlace who.val addr w.bytes false = some (r, o) →
      passHolds s who.val addr = none → s.marks.flips = [] →
      exec (.rcFieldRead who (addr, w)) s = .next (emit s (.read who.val (ofLe (rbs s r o w.bytes))))) ∧
    (∀ (who : Fin 4) addr w v l, coreUp s who.val = true → passHolds s who.val addr = some l →
      exec (.rcFieldRead who (addr, w)) s = .next (setLane s l (fun x => { x with heldAcc := x.heldAcc ++ [⟨who.val, false, addr, w.bytes, 0⟩] })) ∧
      exec (.registerWrite who addr v w) s =
        .next (setLane s l (fun x => { x with heldAcc := x.heldAcc ++ [⟨who.val, true, addr, w.bytes, v.toNat⟩] }))) ∧
    (∀ (who : Fin 4) addr w v, coreUp s who.val = true → memPlace who.val addr w.bytes true = none → passHolds s who.val addr = none →
      wholeRegister who.val addr w.bytes = false → exec (.registerWrite who addr v w) s = .next (busError s who.val)) ∧
    (∀ (who : Fin 4) addr w v r o, coreUp s who.val = true → memPlace who.val addr w.bytes true = some (r, o) → passHolds s who.val addr = none →
      Does (.registerWrite who addr v w) s fun t => rbs t r o w.bytes = keptBytes r o (leBytes w.bytes v.toNat) ∧
        ((∀ k < w.bytes, keptBits r (o + k) = 255) → ofLe (rbs t r o w.bytes) = v.toNat % 2 ^ (8 * w.bytes)) ∧
        t = { s with mem := t.mem, marks := t.marks } ∧ KeepsMemBut r o w.bytes s t) ∧
    (∀ l addr v, coreUp s l.idx = true → addr % 4 = 0 → inBlocks addr = true →
      passHolds s l.idx addr = none →
      exec (.registerWrite (match l with | .x => 0 | .y => 1 | .z => 2) addr v .b4) s = .next (laneReg s l addr (v.toNat % 2 ^ 32))) ∧
    (∀ l addr v, listed addr = false → laneReg s l addr v = busError s l.idx) ∧
    (∀ l addr v, listed addr = true → 0x20040000 ≤ addr → addr < 0x20060000 → addr ≠ 0x2005003C →
      laneReg s l addr v = writeRows s (regPlace l.idx addr) v) ∧
    (∀ (r : Row) b i v,
      (r.acc = .ro ∨ r.acc = .rc → writeField s r b i v = s) ∧
      (r.acc = .rws → stopLike s = false → writeField s r b i v = s) ∧
      (r.acc = .rw ∨ r.acc = .rws → bits v r.hi r.lo < r.min ∨ r.max < bits v r.hi r.lo → writeField s r b i v = s) ∧
      (r.acc = .rw ∨ (r.acc = .rws ∧ stopLike s = true) → r.id ≠ R.LU_WIN_WACC_NS.id → r.id ≠ R.CX_OUT_W_WLEN.id →
        r.id ≠ R.COMMIT_OFS_OFS_US.id → r.min ≤ bits v r.hi r.lo → bits v r.hi r.lo ≤ r.max →
        writeField s r b i v = wr s r (bits v r.hi r.lo) b i) ∧
      (r.acc = .w1c → Tab.get 0 s.clk.sets (regKey r b i) = 0 →
        writeField s r b i v = wr s r (rd s r b i - Nat.land (rd s r b i) (bits v r.hi r.lo)) b i) ∧
      (r.acc = .w1c → bits v r.hi r.lo = 1 → Tab.get 0 s.clk.sets (regKey r b i) = 1 → rd s r b i = 1 → rd (writeField s r b i v) r b i = 1)) ∧
    (∀ (who : Fin 4) addr v w, coreUp s who.val = false → exec (.rcFieldRead who (addr, w)) s = .next s ∧
      exec (.registerWrite who addr v w) s = .next s)

/-! ## DMA engines and check-value units (chapter 16) -/

/-- The check-value units (16 R557 to R559): INIT is loaded and BYTES cleared; a byte, or four from bits [7:0] up, are taken into
VALUE and counted; a core write to a claimed unit changes nothing but WR_LOST; a read of a low word captures the upper word, and the next
read of the upper register returns that capture; a lane whose core is not clocked does nothing (04 R147).
Model choices that it rests on: log entry 86. -/
def Obligations.CheckValueUnits : Prop :=
  ∀ (s : State) (e u : Fin 4), live s = true →
    (coreUp s e.val = false → ∀ (b : Byte) (w : Word) (r : Bool), ∀ c ∈ [Instr.cvuInit e u, .dataB e u b, .dataW e u w, .cvuLowWordRead e u r],
      exec c s = .next s) ∧
    (coreUp s e.val = true →
    let regs := [R.VALUE_LO_VALUE, R.VALUE_HI_VALUE, R.RESULT_LO_RESULT, R.RESULT_HI_RESULT, R.BYTES_COUNT]
    let w := cvuWidth s e.val u.val
    (rd s R.CVU_STAT_CLAIMED e.val u.val = 0 →
      (Does (.cvuInit e u) s fun t => OnlyRegs regs s t ∧ rd t R.BYTES_COUNT e.val u.val = 0 ∧ cvuValue t e.val u.val =
        (rd s R.INIT_LO_INIT e.val u.val + 2 ^ 32 * rd s R.INIT_HI_INIT e.val u.val) % 2 ^ w) ∧
      (∀ v, Does (.dataB e u v) s fun t => OnlyRegs regs s t ∧
        cvuValue t e.val u.val = cvuAfter s e.val u.val [v] % 2 ^ min 64 w ∧
        rd t R.BYTES_COUNT e.val u.val = (rd s R.BYTES_COUNT e.val u.val + 1) % 2 ^ 32) ∧
      (∀ v : Word, Does (.dataW e u v) s fun t => OnlyRegs regs s t ∧
        cvuValue t e.val u.val = cvuAfter s e.val u.val (leBytes 4 v.toNat) % 2 ^ min 64 w ∧
        rd t R.BYTES_COUNT e.val u.val = (rd s R.BYTES_COUNT e.val u.val + 4) % 2 ^ 32)) ∧
    (rd s R.CVU_STAT_CLAIMED e.val u.val = 1 → ∀ (b : Byte) (w : Word), ∀ c ∈ [Instr.cvuInit e u, .dataB e u b, .dataW e u w],
      Does c s fun t => OnlyRegs [R.CVU_STAT_WR_LOST] s t ∧
        rd t R.CVU_STAT_WR_LOST e.val u.val = min (rd s R.CVU_STAT_WR_LOST e.val u.val + 1) 0xFFFF) ∧
    (∀ result : Bool, Does (.cvuLowWordRead e u result) s fun t =>
      let v := if result then cvuResult s e.val u.val else cvuValue s e.val u.val
      t.out = s.out ++ [.read e.val (v % 2 ^ 32)] ∧ Tab.get none t.dma.caps (4 * e.val + u.val) = some (v / 2 ^ 32) ∧
        t.regs = s.regs ∧ t.mem = s.mem ∧ t.dma.chs = s.dma.chs) ∧
    (∀ c (result : Bool), e.val < 3 → Tab.get none s.dma.caps (4 * e.val + u.val) = some c →
      Does (.rcFieldRead e (0x20010000 + 0x40 * u.val + (if result then 0x24 else 0x1C), .b4)) s fun t =>
        t.out = s.out ++ [.read e.val c] ∧ Tab.get none t.dma.caps (4 * e.val + u.val) = none ∧ t.regs = s.regs ∧ t.mem = s.mem))

/-- The DMA channels (16 R543 to R556, 15 R527, 03 R110): a start makes an idle channel pending at DESC_HEAD and a waiting one at its next
descriptor, is counted where the engine or the channel cannot start it at once, and lost with EN = 0; a timer fires, once or leaving T_NEXT
in the future with the steps passed over counted; LVL_ADD saturates and starts a channel that reaches HI; the grant takes the pending
channel of highest priority and one trigger counted, and a descriptor it cannot fetch, or with an uncorrectable word in lane SRAM, stops the
channel with its code; a copy of a sound source puts the source's bytes, without what an image reserves, at the destination and the status word 0x80000000 at the descriptor, counts its block and frees the engine;
a failed check of the copy, a host path that is down, an error (of a read of lane SRAM: the word is uncorrectable) and an abort stop the channel with their codes; a pause after so many bursts
drains and frees the engine; a resume makes the channel pending again. While a Tumbler pass holds the image no descriptor on it completes.
The engine of a lane without its clocks does nothing (04 R147).
Model choices that it rests on: log entries 79, 110, 131, 132, 146. -/
def Obligations.DmaChannels : Prop :=
  ∀ (s : State) (e : Fin 4), live s = true →
    (agentUp s e.val = false → exec (.dmaGrant e) s = .next s ∧ (∀ ok, exec (.descriptorComplete e ok) s = .next s) ∧
      (∀ code bursts, exec (.dmaError e code bursts) s = .next s) ∧
      ∀ (n : Fin 16) k, ∀ c ∈ [Instr.chGoStart e n, .dmaTimerTrigger e n, .lvlAdd e n k, .chPause e n k, .chPauseDrained e n,
        .chResume e n, .chAbort e n k], exec c s = .next s) ∧
    (agentUp s e.val = true →
    (∀ n : Fin 16,
      let free := runCh s e.val = none ∧ rd s R.DMA_STAT_PEND e.val = 0
      let waits := chState s e.val n.val = chIdle ∨ chState s e.val n.val = chWait;
      (rd s R.CH_CTRL_EN e.val n.val = 0 → exec (.chGoStart e n) s = .next s) ∧
      (rd s R.CH_CTRL_EN e.val n.val ≠ 0 → waits → Does (.chGoStart e n) s fun t =>
        chState t e.val n.val = chPend ∧ bitAt (rd t R.DMA_STAT_PEND e.val) n.val = 1 ∧
        rd t R.CUR_DESC_ADDR e.val n.val = (if chState s e.val n.val = chIdle then 32 * rd s R.DESC_HEAD_ADDR e.val n.val
          else rd s R.CUR_DESC_ADDR e.val n.val) % 2 ^ R.CUR_DESC_ADDR.width ∧
        (free → (dmaCh t e.val n.val).due = true ∧ rd t R.CH_STAT_DMA_TRIG_PEND e.val n.val = rd s R.CH_STAT_DMA_TRIG_PEND e.val n.val) ∧
        (¬ free → t.dma = s.dma ∧
          rd t R.CH_STAT_DMA_TRIG_PEND e.val n.val = min 255 (rd s R.CH_STAT_DMA_TRIG_PEND e.val n.val + 1)) ∧ t.mem = s.mem ∧
        KeepsRegs [R.CUR_DESC_ADDR, R.CH_STAT_DMA_STATE, R.DMA_STAT_PEND, R.CH_STAT_DMA_TRIG_PEND, R.CH_STAT_DMA_TRIG_OVF] s t) ∧
      (rd s R.CH_CTRL_EN e.val n.val ≠ 0 → ¬ waits → Does (.chGoStart e n) s fun t =>
        OnlyRegs [R.CH_STAT_DMA_TRIG_PEND, R.CH_STAT_DMA_TRIG_OVF] s t ∧
        rd t R.CH_STAT_DMA_TRIG_PEND e.val n.val = min 255 (rd s R.CH_STAT_DMA_TRIG_PEND e.val n.val + 1) ∧
        (rd s R.CH_STAT_DMA_TRIG_PEND e.val n.val = 255 → rd t R.CH_STAT_DMA_TRIG_OVF e.val n.val = 1))) ∧
    (∀ n : Fin 16, rd s R.CH_CTRL_TRIG e.val n.val = 1 → bitAt (rd s R.TB_STAT_VALID) (rd s R.CH_CTRL_TB_SEL e.val n.val) = 1 →
      timerPast s e.val n.val < 2 ^ 31 → (dmaCh s e.val n.val).fired = false → Does (.dmaTimerTrigger e n) s fun t =>
        t.mem = s.mem ∧ (rd s R.CH_CTRL_EN e.val n.val ≠ 0 → chWaits s e.val n.val = true → chState t e.val n.val = chPend) ∧
        (rd s R.T_PERIOD_NS e.val n.val = 0 → (dmaCh t e.val n.val).fired = true ∧ rd t R.T_NEXT_NS e.val n.val = rd s R.T_NEXT_NS e.val n.val) ∧
        (0 < rd s R.T_PERIOD_NS e.val n.val → (dmaCh t e.val n.val).fired = false ∧ 2 ^ 31 ≤ timerPast t e.val n.val ∧
          rd t R.DONE_CNT_MISSED e.val n.val =
            min (rd s R.DONE_CNT_MISSED e.val n.val + (timerSteps (timerPast s e.val n.val) (rd s R.T_PERIOD_NS e.val n.val) - 1)) 0xFFFF)) ∧
    (∀ n : Fin 16, 2 ^ 31 ≤ timerPast s e.val n.val ∨ rd s R.CH_CTRL_TRIG e.val n.val ≠ 1 ∨ (dmaCh s e.val n.val).fired = true ∨
      bitAt (rd s R.TB_STAT_VALID) (rd s R.CH_CTRL_TB_SEL e.val n.val) = 0 → exec (.dmaTimerTrigger e n) s = .next s) ∧
    (∀ (n : Fin 16) v, Does (.lvlAdd e n v) s fun t => t.mem = s.mem ∧
      rd t R.LVL_LEVEL e.val n.val = min 0xFFFF (rd s R.LVL_LEVEL e.val n.val + v % 2 ^ 16) ∧
      (rd s R.CH_CTRL_TRIG e.val n.val = 3 → rd s R.CH_CTRL_EN e.val n.val = 1 → (dmaCh s e.val n.val).lvlOn = false →
        rd s R.LVL_CFG_HI e.val n.val ≤ rd t R.LVL_LEVEL e.val n.val → (dmaCh t e.val n.val).lvlOn = true ∧
        chState t e.val n.val = if chWaits s e.val n.val then chPend else chState s e.val n.val) ∧
      (rd s R.CH_CTRL_TRIG e.val n.val ≠ 3 ∨ rd s R.CH_CTRL_EN e.val n.val ≠ 1 ∨ (dmaCh s e.val n.val).lvlOn = true ∨
        rd t R.LVL_LEVEL e.val n.val < rd s R.LVL_CFG_HI e.val n.val → OnlyRegs [R.LVL_LEVEL] s t)) ∧
    (∀ n : Fin 16, runCh s e.val = none → dmaWinner s e.val = some n.val →
      let d := readDesc s e.val (rd s R.CUR_DESC_ADDR e.val n.val)
      let fits := rd s R.CUR_DESC_ADDR e.val n.val % 32 = 0 ∧ rd s R.CUR_DESC_ADDR e.val n.val + 32 ≤ descSpan e.val
      let unc := ∃ l x, laneOf e.val = some l ∧ ∃ i < 4, eccRead s .sram l (rd s R.CUR_DESC_ADDR e.val n.val / 8 + i) 0 = .uncorrectable x
      let take := rd s R.CH_STAT_DMA_TRIG_PEND e.val n.val - (if (dmaCh s e.val n.val).due then 0 else 1);
      Does (.dmaGrant e) s fun t => rd t R.CH_STAT_DMA_TRIG_PEND e.val n.val = take ∧ (dmaCh t e.val n.val).due = false ∧
        ((dmaCh s e.val n.val).desc.isSome = true → chState t e.val n.val = chRun ∧ runCh t e.val = some n.val ∧ t.mem = s.mem ∧
          (dmaCh t e.val n.val).desc = (dmaCh s e.val n.val).desc ∧ (dmaCh t e.val n.val).moved = (dmaCh s e.val n.val).moved ∧
          KeepsRegs [R.DMA_STAT_BUSY, R.DMA_STAT_RUN_CH, R.DMA_STAT_PEND, R.CH_STAT_DMA_STATE, R.CH_STAT_DMA_TRIG_PEND] s t) ∧
        ((dmaCh s e.val n.val).desc = none → fits → ¬ unc → fetchError s e.val n.val d = 0 → chState t e.val n.val = chRun ∧
          runCh t e.val = some n.val ∧ (dmaCh t e.val n.val).desc = some d ∧ (dmaCh t e.val n.val).moved = 0 ∧
          (s.marks.flips = [] → t.mem = s.mem)) ∧
        ((dmaCh s e.val n.val).desc = none → ¬ fits ∨ unc ∨ fetchError s e.val n.val d ≠ 0 → chState t e.val n.val = chError ∧
          runCh t e.val = none ∧ bitAt (rd t R.DMA_INT_CH e.val) n.val = 1 ∧
          (¬ fits → rd t R.CH_STAT_DMA_ERR e.val n.val = 1) ∧ (fits → unc → rd t R.CH_STAT_DMA_ERR e.val n.val = 6) ∧
          (fits → ¬ unc → rd t R.CH_STAT_DMA_ERR e.val n.val = fetchError s e.val n.val d))) ∧
    (runCh s e.val ≠ none ∨ dmaWinner s e.val = none → exec (.dmaGrant e) s = .next s) ∧
    (∀ n m : Fin 16, n ≠ m → rd s R.CH_CTRL_TRIG e.val m.val = 2 → rd s R.CH_CTRL_CHAIN_SRC e.val m.val = n.val → rd s R.CH_CTRL_EN e.val m.val ≠ 0 →
      chWaits s e.val m.val = true → chState (dmaChain s e.val n.val) e.val m.val = chPend) ∧
    (∀ (n : Fin 16) d, runCh s e.val = some n.val → (dmaCh s e.val n.val).desc = some d →
      let ended (code : Nat) (t : State) : Prop := chState t e.val n.val = chError ∧ rd t R.CH_STAT_DMA_ERR e.val n.val = code ∧
        runCh t e.val = none ∧ bitAt (rd t R.DMA_INT_CH e.val) n.val = 1 ∧ (dmaCh t e.val n.val).desc = none
      let go := chState s e.val n.val ≠ chDrain ∧ dmaHeld s e.val d = false
      let path := outboundUp s = true ∨ (hostSrc d = false ∧ hostDst d = false)
      let run := dmaRun s e.val d (dmaCh s e.val n.val).moved d.len;
      (∀ ok, chState s e.val n.val = chDrain ∨ dmaHeld s e.val d = true → exec (.descriptorComplete e ok) s = .next s) ∧
      (∀ ok, go → outboundUp s = false → (hostDst d = true → Does (.descriptorComplete e ok) s (ended 7)) ∧
        (hostSrc d = true → hostDst d = false → Does (.descriptorComplete e ok) s (ended 6))) ∧
      (∀ ok, go → path → Does (.descriptorComplete e ok) s fun t => (run.2.2 = true → ended 6 t) ∧
        (run.2.2 = false → (ok = false → d.mode ≠ 3 → ended 8 t) ∧ (ok = true ∨ d.mode = 3 →
          (stripBad (dmaAppend run.1 e.val d) e.val d = true → ended 9 t) ∧
          (stripBad (dmaAppend run.1 e.val d) e.val d = false → t = dmaComplete (dmaAppend run.1 e.val d) e.val n.val d)))) ∧
      (∀ rs so r w, go → path → s.marks.flips = [] → dmaPlace e.val d.src d.len false = some (rs, so) →
        dmaPlace e.val d.dst d.len true = some (r, w) → (dmaCh s e.val n.val).moved ≤ d.len → d.cvuEn = false → d.blockEnd = true →
        d.chainOut = false → rd s R.CH_STAT_DMA_TRIG_PEND e.val n.val = 0 → rd s R.CH_CTRL_TRIG e.val n.val ≠ 3 →
        Does (.descriptorComplete e true) s fun t =>
          let a := rd s R.CUR_DESC_ADDR e.val n.val + 28
          let status (m : Region) (o : Nat) : Prop := ∃ k < 4, m.at o = (descRegion e.val).at (a + k)
          let now (k : Nat) : Prop := if descDown s e.val d then k < d.len - (dmaCh s e.val n.val).moved else (dmaCh s e.val n.val).moved ≤ k
          chState t e.val n.val = (if d.next = 0 then chIdle else chWait) ∧ runCh t e.val = none ∧ r32 t (descRegion e.val) a = 2 ^ 31 ∧
          rd t R.CUR_DESC_ADDR e.val n.val = d.next % 2 ^ R.CUR_DESC_ADDR.width ∧
          (d.irq = true → bitAt (rd t R.DMA_INT_CH e.val) n.val = 1) ∧
          rd t R.DONE_CNT_BLOCKS e.val n.val = min (rd s R.DONE_CNT_BLOCKS e.val n.val + 1) 0xFFFF ∧
          (∀ k < d.len, now k → ¬ status r (w + k) → rb t r (w + k) = rb s rs (so + k) &&& BitVec.ofNat 8 (keptBits r (w + k))) ∧
          (∀ m o, ¬ status m o → (∀ k < d.len, m.at o ≠ r.at (w + k)) → rb t m o = rb s m o)) ∧
      (∀ (code : Fin 12) bursts, s.marks.flips = [] → accessError d code.val = true → Does (.dmaError e code bursts) s fun t =>
        ended code.val t ∧
        ∀ l o, code.val = 6 → dmaPlace e.val d.src d.len false = some (.laneSram l, o) → rdL t R.ECC_STAT_UNC l = 1) ∧
      (∀ (code : Fin 12) bursts, accessError d code.val = false → exec (.dmaError e code bursts) s = .next s) ∧
      (∀ bursts, s.marks.flips = [] → chState s e.val n.val = chRun → Does (.chPause e n bursts) s fun t =>
        rd t R.CH_CTRL_PAUSE e.val n.val = 1 ∧ (dmaCh t e.val n.val).desc = some d ∧
        (dmaCh t e.val n.val).moved = (if dmaHeld s e.val d then (dmaCh s e.val n.val).moved
          else burstsFrom s e.val d bursts (dmaCh s e.val n.val).moved) ∧
        (chState t e.val n.val = if d.len ≤ (dmaCh t e.val n.val).moved then chReadback else chDrain))) ∧
    (∀ ok, runCh s e.val = none → exec (.descriptorComplete e ok) s = .next s) ∧
    (∀ (code : Fin 12) bursts, runCh s e.val = none → exec (.dmaError e code bursts) s = .next s) ∧
    (∀ (n : Fin 16) bursts, runCh s e.val ≠ some n.val ∨ chState s e.val n.val ≠ chRun → Does (.chPause e n bursts) s fun t =>
      rd t R.CH_CTRL_PAUSE e.val n.val = 1 ∧ OnlyRegs [R.CH_CTRL_PAUSE] s t) ∧
    (∀ n : Fin 16, runCh s e.val = some n.val → chState s e.val n.val = chDrain → Does (.chPauseDrained e n) s fun t =>
      chState t e.val n.val = chPaused ∧ runCh t e.val = none ∧
        OnlyRegs [R.DMA_STAT_BUSY, R.DMA_STAT_RUN_CH, R.DMA_STAT_PEND, R.CH_STAT_DMA_STATE] s t) ∧
    (∀ n : Fin 16, runCh s e.val ≠ some n.val ∨ chState s e.val n.val ≠ chDrain → exec (.chPauseDrained e n) s = .next s) ∧
    (∀ n : Fin 16, Does (.chResume e n) s fun t => rd t R.CH_CTRL_PAUSE e.val n.val = 0 ∧ t.mem = s.mem ∧
      (chState s e.val n.val = chPaused → chState t e.val n.val = chPend ∧ (dmaCh t e.val n.val).due = true) ∧
      (chState s e.val n.val ≠ chPaused → OnlyRegs [R.CH_CTRL_PAUSE] s t) ∧
      KeepsRegs [R.CH_CTRL_PAUSE, R.CH_STAT_DMA_STATE, R.DMA_STAT_PEND] s t) ∧
    (∀ (n : Fin 16) d bursts, (dmaCh s e.val n.val).desc = some d → Does (.chAbort e n bursts) s fun t =>
      chState t e.val n.val = chError ∧ rd t R.CH_CTRL_EN e.val n.val = 0 ∧ (dmaCh t e.val n.val).desc = none ∧ runCh t e.val ≠ some n.val ∧
        (s.marks.flips = [] ∨ runCh s e.val ≠ some n.val → rd t R.CH_STAT_DMA_ERR e.val n.val = 0xB)) ∧
    (∀ (n : Fin 16) bursts, (dmaCh s e.val n.val).desc = none → Does (.chAbort e n bursts) s fun t =>
      chState t e.val n.val = (if chState s e.val n.val = chPaused then chError else chIdle) ∧
        (chState s e.val n.val = chPaused → rd t R.CH_STAT_DMA_ERR e.val n.val = 0xB) ∧ rd t R.CH_CTRL_EN e.val n.val = 0 ∧ rd t R.CH_STAT_DMA_TRIG_PEND e.val n.val = 0 ∧
        rd t R.CH_STAT_DMA_TRIG_OVF e.val n.val = 0 ∧ t.mem = s.mem))

/-! ## The Hinge window (chapter 18) -/

/-- The window (18 R592 to R604, 00 R18): after a commit the copy filled at the one before is shown; an access less than 1 µs after the
previous one is counted; the first write of the strike sequence arms it, 100 µs later it is disarmed; a strike issues the mailbox command of
its code, is discarded where it is not armed or too late, and counted while BUSY = 1 or the Keeper is down; an unknown code is answered
UNKNOWN; a response writes STATUS, REASON and the scan, sets DONE and clears BUSY; an access reads or writes a register; the highest
register of a split value latches the lower ones; FCS clears as it is read; TUN_DATA moves its pointer by two bytes; a window that is off,
and an access with both strobes or none, has no effect.
Model choices that it rests on: log entries 82, 83. -/
def Obligations.HingeWindow : Prop :=
  ∀ s : State, live s = true →
    (s.keeper.hinge = true → keeperUp s = true → s.scan.committed = true →
      (s.hinge.filled = none ∨ (∃ c, s.hinge.filled = some c ∧ lagged (some c) 0x11 * 2 ^ 16 + lagged (some c) 0x12 ≠ s.scan.gen) →
        exec .hingeRefresh s = .next { s with hinge := { s.hinge with shown := s.hinge.filled, filled := some (hbCopy s) } }) ∧
      (∀ c, s.hinge.filled = some c → lagged (some c) 0x11 * 2 ^ 16 + lagged (some c) 0x12 = s.scan.gen → exec .hingeRefresh s = .next s)) ∧
    (s.keeper.hinge = false ∨ keeperUp s = false ∨ s.scan.committed = false → exec .hingeRefresh s = .next s) ∧
    (s.keeper.hinge = false → ∀ oe we a (d : BitVec 16), ∀ c ∈ [Instr.hingeStrikeArm, .fcsHiRead, .hingeAccess oe we a d, .tunDataWrite d,
      .tunDataRead, .hingeSplitHighRead a, .hingeStop, .hingeRun, .hingeFaultAck, .hingeForcePoint, .hingeForceWord, .hingeForceClear,
      .hingeForceClearAll, .hingeForceAck, .hingeTimeSet, .hingeTunnelSend, .hingeUnknownCode], exec c s = .next s) ∧
    ((∀ t0, s.hinge.lastAt = some t0 → t0 + 1000 ≤ s.time.now) → hbAccess s = { s with hinge := { s.hinge with lastAt := some s.time.now } }) ∧
    (∀ t0, s.hinge.lastAt = some t0 → s.time.now < t0 + 1000 → (hbAccess s).hinge.lastAt = some s.time.now ∧
      Tab.get 0 (hbAccess s).hinge.cnt 0x24 = satInc 0xFFFF (Tab.get 0 s.hinge.cnt 0x24) ∧ (hbAccess s).regs = s.regs) ∧
    (∀ a, s.hinge.armedAt = some a →
      (a + 100000 < s.time.now → exec .hingeStrikeTimeout s = .next (setArmed s none)) ∧
      (s.time.now ≤ a + 100000 → exec .hingeStrikeTimeout s = .next s)) ∧
    (s.hinge.armedAt = none → exec .hingeStrikeTimeout s = .next s) ∧
    (∀ r, (setArmed s r).hinge.armedAt = r ∧ rd (setArmed s r) R.HB_LIVE_ARMED = b2n r.isSome ∧ KeepsRegs [R.HB_LIVE_ARMED] s (setArmed s r)) ∧
    (∀ st reason gen, s.hinge.answer = some (st, reason, gen) → Does .hingeResponse s fun t =>
      rd t R.CMD_STAT_BUSY = 0 ∧ rd t R.CMD_STAT_DONE = 1 ∧ rd t R.CMD_STAT_STATUS = st % 2 ^ R.CMD_STAT_STATUS.width ∧
        rd t R.CMD_STAT_REASON = reason % 2 ^ R.CMD_STAT_REASON.width ∧ t.hinge.rsp = gen ∧ t.hinge.answer = none ∧ t.mem = s.mem ∧
        KeepsRegs [R.CMD_STAT_BUSY, R.CMD_STAT_DONE, R.CMD_STAT_STATUS, R.CMD_STAT_REASON] s t) ∧
    (s.hinge.answer = none → exec .hingeResponse s = .next s) ∧
    (hbOn s = true → let b := hbAccess s
      let u := wr (wr (setArmed b none) R.CMD_STAT_BUSY 1) R.CMD_STAT_DONE 0
      let known : List Nat := [0x1, 0x2, 0x3, 0x10, 0x11, 0x12, 0x13, 0x14, 0x20, 0x7F]
      let pid := hbPid s;
      exec .hingeStrikeArm s = .next (setArmed b (some s.time.now)) ∧
      (∀ c code op pay, ((c, code, op, pay) : Instr × Nat × Nat × List Byte) ∈
          [(.hingeStop, 0x01, 0x200, leBytes 1 1), (.hingeRun, 0x02, 0x200, leBytes 1 2), (.hingeFaultAck, 0x03, 0x201, []),
           (.hingeForcePoint, 0x10, 0x310, pid ++ (ForceEnt.mk true false false (hbType s false (2 ^ 16 * (hbArg s 0 % 4) + hbArg s 1))
             (2 ^ 16 * (hbArg s 0 % 4) + hbArg s 1) (hbArg s 2 % 2) 0).bytes),
           (.hingeForceWord, 0x11, 0x310, pid ++ (ForceEnt.mk true false true (hbType s true (hbArg s 0)) (hbArg s 0)
             (2 ^ 16 * hbArg s 1 + hbArg s 2) 0).bytes),
           (.hingeForceClear, 0x12, 0x311, pid ++ leBytes 4 (2 ^ 31 * bitAt (hbArg s 0) 15 + 2 ^ 16 * (hbArg s 0 % 4) + hbArg s 1)),
           (.hingeForceClearAll, 0x13, 0x311, pid ++ leBytes 4 0xFFFFFFFF), (.hingeForceAck, 0x14, 0x313, pid ++ hbGen s),
           (.hingeTimeSet, 0x20, 0x801, leBytes 2 (hbArg s 3) ++ leBytes 2 (hbArg s 2) ++ leBytes 2 (hbArg s 1) ++
             leBytes 2 (hbArg s 0) ++ leBytes 1 (rd s R.TB2_CTRL_UTC_OFS))] →
        (s.hinge.code ≠ code → exec c s = .next s) ∧ (s.hinge.code = code → ∀ a, s.hinge.armedAt = some a → s.time.now ≤ a + 100000 →
          rd s R.CMD_STAT_BUSY = 0 → keeperUp s = true → exec c s = .next (hbCommand u op pay))) ∧
      (∀ a, s.hinge.code = 0x7F → s.hinge.armedAt = some a → s.time.now ≤ a + 100000 → rd s R.CMD_STAT_BUSY = 0 → keeperUp s = true →
        exec .hingeTunnelSend s = .next (ring u 3)) ∧
      (∀ a, s.hinge.code ∉ known → s.hinge.armedAt = some a → s.time.now ≤ a + 100000 → rd s R.CMD_STAT_BUSY = 0 → keeperUp s = true →
        Does .hingeUnknownCode s fun t =>
          rd t R.CMD_STAT_BUSY = 0 ∧ rd t R.CMD_STAT_DONE = 1 ∧ rd t R.CMD_STAT_STATUS = 5 ∧ rd t R.CMD_STAT_REASON = 0 ∧
          t.hinge.armedAt = none ∧ t.mem = s.mem ∧ t.keeper = s.keeper) ∧
      (s.hinge.code ∈ known → exec .hingeUnknownCode s = .next s) ∧
      (∀ c code, ((c, code) : Instr × Nat) ∈ [(.hingeStop, 0x01), (.hingeRun, 0x02), (.hingeFaultAck, 0x03), (.hingeForcePoint, 0x10),
          (.hingeForceWord, 0x11), (.hingeForceClear, 0x12), (.hingeForceClearAll, 0x13), (.hingeForceAck, 0x14), (.hingeTimeSet, 0x20),
          (.hingeTunnelSend, 0x7F)] ∨ (c = .hingeUnknownCode ∧ code ∉ known) → s.hinge.code = code →
        (s.hinge.armedAt = none → exec c s = .next (setArmed b none)) ∧
        (∀ a, s.hinge.armedAt = some a →
          (a + 100000 < s.time.now → exec c s = .next (setArmed b none)) ∧
          (s.time.now ≤ a + 100000 → rd s R.CMD_STAT_BUSY = 1 ∨ keeperUp s = false → exec c s = .next (hingeCount (setArmed b none) 0x22)))) ∧
      (∀ oe (a : Byte) (d : BitVec 16), exec (.hingeAccess oe oe a d) s = .next s) ∧
      (∀ (a : Byte) (d : BitVec 16), a ≠ 7 → Does (.hingeAccess true false a d) s fun t => t.regs = s.regs ∧ t.mem = s.mem ∧
        t.out = s.out ++ [.hinge ((if isLower a.toNat then lowerShown s a.toNat else hbValue b a.toNat) % 2 ^ 16)] ∧
        ∀ i, i < splitTail a.toNat → Tab.get 0 t.hinge.shadow (a.toNat + 1 + i) = lowerPart b (a.toNat + 1 + i)) ∧
      (∀ d : BitVec 16, exec (.hingeAccess false true 0x02 d) s = .next (wr (setArmed b none) R.HB_CTRL_IMG_SEL (d.toNat % 2)) ∧
        exec (.hingeAccess false true 0x06 d) s = .next (wr (setArmed b none) R.TUN_PTR_PTR (d.toNat % 2 ^ 12 / 2 * 2)) ∧
        (rd s R.CMD_STAT_BUSY = 0 → Does (.hingeAccess false true 0x40 d) s fun t => t.hinge.code = d.toNat ∧ t.hinge.armedAt = none ∧
          KeepsRegs [R.HB_LIVE_ARMED] s t ∧ t.mem = s.mem) ∧
        (∀ i : Fin 7, rd s R.CMD_STAT_BUSY = 0 → Does (.hingeAccess false true (0x41 + BitVec.ofNat 8 i.val) d) s fun t =>
          hbArg t i.val = d.toNat ∧ t.hinge.armedAt = none ∧ KeepsRegs [R.HB_LIVE_ARMED] s t ∧ t.mem = s.mem ∧
          ∀ k < 7, k ≠ i.val → hbArg t k = hbArg s k) ∧
        exec (.hingeAccess false true 0x05 0x55) s = exec .hingeStrikeArm s ∧
        (d ≠ 0x55 → d ≠ 0xAA → exec (.hingeAccess false true 0x05 d) s = .next (setArmed b none)) ∧
        (∀ a : Byte, a ∉ ([2, 5, 6, 7] : List Byte) → a.toNat < 0x40 ∨ 0x47 < a.toNat ∨ rd s R.CMD_STAT_BUSY = 1 →
          exec (.hingeAccess false true a d) s = .next (hingeCount (setArmed b none) 0x23)) ∧
        (exec (.hingeAccess true false 7 d) s = exec .tunDataRead s ∧ exec (.hingeAccess false true 7 d) s = exec (.tunDataWrite d) s)) ∧
      (∀ (a : Byte) (d : BitVec 16), 1 ≤ splitTail a.toNat → exec (.hingeSplitHighRead a) s = exec (.hingeAccess true false a d) s) ∧
      (∀ a : Byte, splitTail a.toNat = 0 → exec (.hingeSplitHighRead a) s = .next s) ∧
      (Does .fcsHiRead s fun t => t.regs = s.regs ∧ t.mem = s.mem ∧
        (Tab.get none s.clk.rc (hingeKey 0x26) = none → t.out = s.out ++ [.hinge (Tab.get 0 s.hinge.cnt 0x26 / 2 ^ 16 % 2 ^ 16)] ∧
          Tab.get 0 t.hinge.shadow 0x27 = Tab.get 0 s.hinge.cnt 0x26 % 2 ^ 16 ∧ Tab.get 0 t.hinge.cnt 0x26 = 0) ∧
        (∀ o n, Tab.get none s.clk.rc (hingeKey 0x26) = some (o, n) → t.out = s.out ++ [.hinge (o / 2 ^ 16 % 2 ^ 16)] ∧
          Tab.get 0 t.hinge.shadow 0x27 = o % 2 ^ 16 ∧ Tab.get 0 t.hinge.cnt 0x26 = n)) ∧
      (∀ d : BitVec 16, rd s R.CMD_STAT_BUSY = 0 → Does (.tunDataWrite d) s fun t =>
        rb t (.cmdBuf 3) (rd s R.TUN_PTR_PTR) = BitVec.ofNat 8 (d.toNat / 256) ∧
        rb t (.cmdBuf 3) (rd s R.TUN_PTR_PTR + 1) = BitVec.ofNat 8 d.toNat ∧ KeepsMemBut (.cmdBuf 3) (rd s R.TUN_PTR_PTR) 2 s t ∧
        rd t R.TUN_PTR_PTR = (rd s R.TUN_PTR_PTR + 2) % 2 ^ R.TUN_PTR_PTR.width ∧ t.hinge.armedAt = none ∧
        KeepsRegs [R.TUN_PTR_PTR, R.HB_LIVE_ARMED] s t) ∧
      (∀ d : BitVec 16, rd s R.CMD_STAT_BUSY = 1 → exec (.tunDataWrite d) s = .next (hingeCount (setArmed b none) 0x23)) ∧
      (Does .tunDataRead s fun t => rd t R.TUN_PTR_PTR = (rd s R.TUN_PTR_PTR + 2) % 2 ^ R.TUN_PTR_PTR.width ∧ t.mem = s.mem ∧
        t.out = s.out ++ [.hinge (256 * (rb s (.rspBuf 3) (rd s R.TUN_PTR_PTR)).toNat +
          (rb s (.rspBuf 3) (rd s R.TUN_PTR_PTR + 1)).toNat)] ∧ KeepsRegs [R.TUN_PTR_PTR] s t))

/-! ## The mailbox commands (chapter 14, Table 14.8) -/

/-- An answer (14 R493, R500 to R502): the response stands in the response buffer with its status, its reason and its payload from
offset 32, RSP_VALID = 1 and OWNER = 0, LAST_SEQ is the command's SEQ; no other memory, no other pair and no register beside
MB_STAT of that pair changes.
Model choices that it rests on: log entry 69. -/
def Obligations.MailboxAnswer : Prop :=
  ∀ (s : State) (p : Fin 4) (c : MbCmd) (r : Rsp), r.payload.length ≤ 4064 →
    let t := mbAnswer s p c r
    rd t R.MB_STAT_OWNER 0 p.val = 0 ∧ rd t R.MB_STAT_RSP_VALID 0 p.val = 1 ∧
    rd t R.MB_STAT_LAST_SEQ 0 p.val = c.seq % 2 ^ 16 ∧ (mbPair t p.val).cmd = none ∧
    r16 t (.rspBuf p) 0 = 0x4B52 ∧ r16 t (.rspBuf p) 4 = c.seq % 2 ^ 16 ∧ r16 t (.rspBuf p) 6 = c.opcode % 2 ^ 16 ∧
    rb t (.rspBuf p) 12 = BitVec.ofNat 8 r.status ∧ rb t (.rspBuf p) 13 = BitVec.ofNat 8 r.reason ∧
    (∀ i, i < r.payload.length → rb t (.rspBuf p) (32 + i) = r.payload.getD i 0) ∧
    (∀ m : Region, m ≠ .rspBuf p → ∀ off, rb t m off = rb s m off) ∧
    (∀ q : Fin 4, q ≠ p → mbPair t q.val = mbPair s q.val) ∧
    KeepsRegs [R.MB_STAT_OWNER, R.MB_STAT_RSP_VALID, R.MB_STAT_LAST_SEQ, R.MB_STAT_PERR] s t

/-- The commands that read (14 R482, R502, R505, R506, R508, R509, R515, 11 R433 to R435, 17 R580, R588): each is answered OK with the
response payload of its row, cut to what its pair carries, NOT_READY where a READY bit it needs is missing and BAD_PAYLOAD where its payload
does not fit, and has no effect where it is not the command in execution; UNIT_GET compares the Keeper's view with the voted value of the unit,
waits while they differ and have not differed in 3 further commits, and marks an answer without a new commit. Signatures and nonces are free values.
Model choices that it rests on: log entries 3, 68, 71, 145. -/
def Obligations.MailboxReads : Prop :=
  ∀ (s : State) (p : Fin 4) (c : MbCmd) (view : Word), live s = true →
    let ok (l : List Byte) : Host.Outcome State Fault Refusal := .next (mbAnswer s p c (rspOk (l.take (rspMax p.val))))
    let bad : Host.Outcome State Fault Refusal := .next (mbAnswer s p c (rspStatus 6))
    let l := c.payload
    let rl := reportLane s
    (∀ i op need, ((i, op, need) : Instr × Nat × List Nat) ∈
        [(.nop p, 0x1, nKeeper), (.reqStatus p, 0x2, nKeeper), (.ident p, 0x100, nKeeper), (.statusGet p, 0x101, nKeeper),
         (.unitGet (p, view), 0x102, nKeeper), (.progInfo p, 0x301, nKeeper), (.forceList p, 0x312, nTumbler), (.cfgGet p, 0x401, nKeeper),
         (.luStat p, 0x502, nKeeper), (.safeInfo p, 0x602, nKeeper), (.jrnlInfo p, 0x700, nJournal), (.jrnlRead p, 0x701, nJournal),
         (.recInfo p, 0x702, nRecorder), (.recRead p, 0x703, nRecorder), (.jrnlExport p, 0x704, nJournal), (.timeGet p, 0x800, nKeeper),
         (.fwInfo p, 0xA02, nKeeper), (.attest p, 0xB00, nKeeper), (.certGet p, 0xB01, nKeeper), (.tokenNonce p, 0xB10, nKeeper)] →
      (inExec s p op = none → exec i s = .next s) ∧
      (inExec s p op = some c → needsMet s need = false → exec i s = .next (mbAnswer s p c (rspStatus 7 (need.headD 0))))) ∧
    (∀ i op need r, ((i, op, need, r) : Instr × Nat × List Nat × List Byte) ∈
        [(.nop p, 0x1, nKeeper, l),
         (.ident p, 0x100, nKeeper, leBytes 2 0x60 ++ leBytes 1 orderByte ++ leBytes 1 Config.hwRev.val ++ leBytes 8 Config.serial.val
           ++ leBytes 4 (leAt (slotBlock s 1 (bootBank s)) 0x10 4) ++ leBytes 4 (leAt (slotBlock s 2 (bootBank s)) 0x10 4)
           ++ leBytes 1 (b2n (bootBank s)) ++ leBytes 3 0 ++ leBytes 6 Config.mac.val ++ leBytes 2 0 ++ leBytes 4 (s.keeper.eth.getD 0)
           ++ leBytes 2 (ownNode s) ++ leBytes 1 (cxPos s) ++ leBytes 1 (b2n s.keeper.hinge)),
         (.statusGet p, 0x101, nKeeper, ((List.range 14).flatMap fun i => leBytes 4 (Tab.get 0 s.scan.snap (16 + i))) ++ leBytes 4 (bootStat s)),
         (.progInfo p, 0x301, nKeeper, leBytes 4 (rdL s R.TUM_BUNDLES_COUNT rl) ++ leBytes 4 (rdL s R.TUM_CLOCKS_CLOCKS rl)
           ++ leBytes 4 (rdL s R.PROG_ID_LO_ID rl) ++ leBytes 4 (rdL s R.PROG_ID_HI_ID rl) ++ leBytes 4 (rdL s R.PROG_VER_VERSION rl)
           ++ leBytes 1 (rdL s R.TUM_STAT_FACK_PEND rl) ++ (lane s rl).prog.name),
         (.safeInfo p, 0x602, nKeeper, let i := s.keeper.safeId.getD ([], 0, 0);
           leBytes 4 (rd s R.DB_PARAM_ID_ID) ++ ((List.range 64).map fun k => i.1.getD k 0) ++ leBytes 4 i.2.1 ++ leBytes 1 i.2.2),
         (.jrnlInfo p, 0x700, nJournal, leBytes 4 s.jrnl.epoch ++ leBytes 1 s.jrnl.half
           ++ leBytes 1 (b2n s.jrnl.compact.isSome + 2 * b2n (Lane.all.any fun m => (s.jrnl.resync.get m).isSome)) ++ leBytes 2 0
           ++ leBytes 4 s.jrnl.pos ++ leBytes 4 s.jrnl.recs ++ leBytes 8 (optime s) ++ leBytes 4 s.jrnl.state.pcyc ++ leBytes 4 s.jrnl.dropped
           ++ leBytes 4 (rdL s R.JQ_STAT_FILL .x) ++ leBytes 4 ((optime s - s.jrnl.refresh) / 3600000) ++ leBytes 4 (jLimit s)),
         (.recInfo p, 0x702, nRecorder, leBytes 8 s.jrnl.rseq ++ ((List.range 5).flatMap fun v => leBytes 4 (s.jrnl.heldN.getD v 0)
           ++ leBytes 4 (s.jrnl.overN.getD v 0) ++ leBytes 4 (s.jrnl.lostN.getD v 0) ++ leBytes 4 (newestSlot s v))
           ++ leBytes 4 s.jrnl.damaged),
         (.fwInfo p, 0xA02, nKeeper, [(1, false), (2, false), (1, true), (2, true)].flatMap fun (e : Nat × Bool) =>
           leBytes 8 (leAt (slotBlock s e.1 e.2) 0x10 8) ++ leBytes 4 (leAt (slotBlock s e.1 e.2) 8 4) ++ leBytes 1 (verifySlot s e.1 e.2))] →
      inExec s p op = some c → needsMet s need = true → exec i s = ok r) ∧
    (∀ i op need wrong, ((i, op, need, wrong) : Instr × Nat × List Nat × Prop) ∈
        [(.reqStatus p, 0x2, nKeeper, l.length ≠ 2), (.unitGet (p, view), 0x102, nKeeper, l.length ≠ 3 ∨ votedView s (leAt l 0 1) (leAt l 1 2) = none),
         (.forceList p, 0x312, nTumbler, l.length ≠ 2), (.cfgGet p, 0x401, nKeeper, l.length ≠ 1 ∨ leAt l 0 1 = 0 ∨ 7 < leAt l 0 1),
         (.jrnlRead p, 0x701, nJournal, l.length ≠ 7 ∨ s.scan.retained.length ≤ leAt l 0 1),
         (.recRead p, 0x703, nRecorder, l.length ≠ 6 ∨ 262144 ≤ leAt l 0 4), (.jrnlExport p, 0x704, nJournal, l.length ≠ 6),
         (.attest p, 0xB00, nKeeper, l.length ≠ 32), (.certGet p, 0xB01, nKeeper, l.length ≠ 1 ∨ 1 < leAt l 0 1)] →
      inExec s p op = some c → needsMet s need = true → wrong → exec i s = bad) ∧
    (inExec s p 0x2 = some c → needsMet s nKeeper = true → l.length = 2 →
      (outcome s p (leAt l 0 2) = none → exec (.reqStatus p) s = .next (mbAnswer s p c (rspStatus 0xF))) ∧
      (∀ e, outcome s p (leAt l 0 2) = some e → exec (.reqStatus p) s = .next (mbAnswer s p c (rspOk (leBytes 2 e.seq ++ leBytes 2 e.opcode
        ++ leBytes 1 e.status ++ leBytes 1 e.reason ++ leBytes 2 0 ++ leBytes 4 e.gen))))) ∧
    (∀ voted, inExec s p 0x102 = some c → needsMet s nKeeper = true → l.length = 3 → votedView s (leAt l 0 1) (leAt l 1 2) = some voted →
      let old := viewOf s (leAt l 0 1) (leAt l 1 2)
      let n := (viewTake s old view.toNat voted).n
      let t := viewCompare s (leAt l 0 1) (leAt l 1 2) view.toNat voted
      let again := s.modl.prismStop || old.any (fun y => y.com == s.scan.commits)
      let put (fl : Nat) : Host.Outcome State Fault Refusal :=
        .next (mbAnswer t p c ⟨0, 0, fl, some s.scan.gen, leBytes 4 view.toNat ++ leBytes 4 voted⟩);
      (view.toNat = voted → exec (.unitGet (p, view)) s = put (2 * b2n again)) ∧
      (view.toNat ≠ voted → 4 ≤ n → exec (.unitGet (p, view)) s = put (2 * b2n again + 4)) ∧
      (view.toNat ≠ voted → n < 4 → s.modl.prismStop = true → exec (.unitGet (p, view)) s = put 2) ∧
      (view.toNat ≠ voted → n < 4 → s.modl.prismStop = false → exec (.unitGet (p, view)) s = .next t)) ∧
    (inExec s p 0x312 = some c → needsMet s nTumbler = true → l.length = 2 →
      let es := ((forceList s rl).drop (leAt l 0 2)).take (min 200 ((rspMax p.val - 16) / 16));
      exec (.forceList p) s = ok (leBytes 8 (progIdOf s rl) ++ leBytes 4 (rdL s R.FORCE_GEN_GEN rl) ++ leBytes 2 es.length ++ leBytes 2 0
        ++ es.flatMap ForceEnt.bytes)) ∧
    (inExec s p 0x401 = some c → needsMet s nKeeper = true → l.length = 1 → 1 ≤ leAt l 0 1 → leAt l 0 1 ≤ 7 →
      exec (.cfgGet p) s = ok ((cfgContent s (leAt l 0 1)).getD [])) ∧
    (inExec s p 0x502 = some c → needsMet s nKeeper = true → Does (.luStat p) s fun t => (mbPair t p.val).cmd = none ∧
      r32 t (.rspBuf p) 32 = readWord s (rowsAt .common 0x20060004) 0 3 % 2 ^ 32 ∧
      (∀ i < 16, r32 t (.rspBuf p) (36 + 4 * i) = readWord s (rowsAt .common (0x20060080 + 4 * i)) 0 3 % 2 ^ 32) ∧
      ∀ m : Region, m ≠ .rspBuf p → ∀ off, rb t m off = rb s m off) ∧
    (∀ kind start len, inExec s p 0x701 = some c → needsMet s nJournal = true → l.length = 7 →
      s.scan.retained[leAt l 0 1]? = some (kind, start, len) →
      let u := if kind = 1 then 4 else 1
      let n := min (min (leAt l 5 2) (rspMax p.val - 8)) (u * len - leAt l 1 4);
      exec (.jrnlRead p) s = ok (leBytes 4 (leAt l 1 4) ++ leBytes 4 n
        ++ (List.range n).map fun i => retainedByte s.jrnl.state kind (u * start + leAt l 1 4 + i))) ∧
    (inExec s p 0x703 = some c → needsMet s nRecorder = true → l.length = 6 → leAt l 0 4 < 262144 →
      let n := min (min (leAt l 4 2) 63) (min ((rspMax p.val - 16) / 64) (262144 - leAt l 0 4));
      exec (.recRead p) s = ok (leBytes 8 s.jrnl.rseq ++ leBytes 2 n ++ leBytes 6 0
        ++ (List.range n).flatMap fun i => slotShown s (leAt l 0 4 + i))) ∧
    (inExec s p 0x704 = some c → needsMet s nJournal = true → l.length = 6 → Does (.jrnlExport p) s fun t =>
      t.scan = s.scan ∧ (mbPair t p.val).cmd = none ∧
      (leAt l 0 4 = 0 → t.jrnl.expLen = (exportImage s).length ∧
        ∀ i, i < (exportImage s).length → rb t .mram (exportBase + i) = (exportImage s).getD i 0) ∧
      (leAt l 0 4 ≠ 0 → t.jrnl = s.jrnl ∧ ∀ off, rb t .mram off = rb s .mram off) ∧
      (let n := min (min (leAt l 4 2) (rspMax p.val - 8)) (t.jrnl.expLen - leAt l 0 4);
        r32 t (.rspBuf p) 32 = t.jrnl.expLen % 2 ^ 32 ∧ r32 t (.rspBuf p) 36 = n ∧
        ∀ i < n, rb t (.rspBuf p) (40 + i) = rb t .mram (exportBase + leAt l 0 4 + i))) ∧
    (inExec s p 0x800 = some c → needsMet s nKeeper = true → exec (.timeGet p) s = .next (mbAnswer (snapshot s) p c (rspOk
      ([0x20020020, 0x20020024, 0x20020028, 0x2002002C, 0x20020030, 0x20020000, 0x2002004C].flatMap fun a =>
        leBytes 4 (readWord (snapshot s) (rowsAt .common a) 0 3))))) ∧
    (inExec s p 0xB00 = some c → needsMet s nKeeper = true → l.length = 32 → ∃ sig : List Byte, sig.length = 132 ∧ exec (.attest p) s =
      .next (mbAnswer { s with free := s.free + 1 } p c (rspOk ((attestReport s l ++ sig).take (rspMax p.val))))) ∧
    (inExec s p 0xB01 = some c → needsMet s nKeeper = true → l.length = 1 → leAt l 0 1 ≤ 1 →
      exec (.certGet p) s = ok (Config.certificate (leAt l 0 1))) ∧
    (inExec s p 0xB10 = some c → needsMet s nKeeper = true → ∃ n : List Byte, n.length = 16 ∧ exec (.tokenNonce p) s =
      .next (mbAnswer { s with free := s.free + 1, keeper := { s.keeper with nonce := some (n, s.time.now) } } p c (rspOk n)))

/-- The commands that post a request (14 R482, R491, R494, R495, R505, R510, R514, 03 R128, R129, R134, R138, 04 R180, R195, 05 R216,
R242, 06 R275, 11 R423, R429, 12 R451): each puts its request at the end of what the Keeper has to post and waits; it is refused where
MB_POLICY does not permit it, in the safe state, without a READY bit it needs, and BAD_PAYLOAD where its payload does not fit; it has no
effect where it is not the command in execution. SERVICE takes the held token, and is refused without one that grants it.
Model choices that it rests on: log entries 68, 71, 72. -/
def Obligations.MailboxRequests : Prop :=
  ∀ (s : State) (p : Fin 4) (c : MbCmd), live s = true →
    let posts (i : Instr) (r : Request) : Prop := Does i s fun t =>
      t.keeper.toPost = s.keeper.toPost ++ [(.pair p.val c.seq, r)] ∧ (mbPair t p.val).queued = true ∧
        (mbPair t p.val).cmd = some c ∧ t.regs = s.regs ∧ t.mem = s.mem ∧ t.scan = s.scan
    let may (op : Nat) (need : List Nat) : Prop :=
      inExec s p op = some c ∧ permitted s p = true ∧ s.keeper.safeSeen = false ∧ needsMet s need = true
    let l := c.payload
    let safe (o : Obj) (k : Nat) := safeSection (rbs s .flash (slotAddr 4 o.bankB) (o.len - 512)) k
    let noToken := ∀ g d t0, s.keeper.token = some (g, d, t0) → bitAt g 0 = 0
    (∀ i op need first, ((i, op, need, first) : Instr × Nat × List Nat × Option Nat) ∈
        [(.modeSetStop p, 0x200, nPrism, some 1), (.modeSetRun p, 0x200, nPrism, some 2), (.modeSetService p, 0x200, nPrism, some 3),
         (.modeSetLeaveService p, 0x200, nPrism, some 4), (.faultAck p, 0x201, nPrism, none), (.park p, 0x202, nPrism, none),
         (.progLoad p, 0x300, nPrism, none), (.forceSet p, 0x310, nTumbler, none), (.forceClear p, 0x311, nTumbler, none),
         (.forceAck p, 0x313, nTumbler, none), (.cfgSetScan p, 0x400, nPrism, some 1), (.cfgSetFieldIo p, 0x400, nPrism, some 2),
         (.cfgSetPair p, 0x400, nPrism, some 3), (.cfgSetCascade p, 0x400, nPrism, some 4), (.cfgSetTime p, 0x400, nPrism, some 5),
         (.luSched p, 0x500, nPrism, none), (.luHandover p, 0x501, [7, 8], none), (.safeCfg p, 0x600, nPrism, none),
         (.pslAck p, 0x601, nPrism, none), (.quiesce p, 0x900, nPrism, none), (.reload p, 0x901, nPrism, none),
         (.selftest p, 0x902, nPrism, none), (.copy p, 0x903, nPrism, none)] →
      (inExec s p op = none → exec i s = .next s) ∧
      (inExec s p op = some c →
        (∀ k, first = some k → leAt l 0 1 ≠ k → exec i s = .next s) ∧
        ((∀ k, first = some k → leAt l 0 1 = k) →
          (permitted s p = false → exec i s = .next (mbAnswer s p c (rspStatus 9))) ∧
          (permitted s p = true → s.keeper.safeSeen = true → exec i s = .next (mbAnswer s p c rspSafe)) ∧
          (permitted s p = true → s.keeper.safeSeen = false → needsMet s need = false →
            exec i s = .next (mbAnswer s p c (rspStatus 7 (need.headD 0))))))) ∧
    (∀ i op need wrong, ((i, op, need, wrong) : Instr × Nat × List Nat × Prop) ∈
        [(.progLoad p, 0x300, nPrism, l.length ≠ 12 ∨ object s (leAt l 0 4) 3 = none),
         (.forceSet p, 0x310, nTumbler, l.length < 24 ∨ (l.length - 8) % 16 ≠ 0 ∨ 8 + 16 * 32 < l.length),
         (.forceClear p, 0x311, nTumbler, l.length < 12 ∨ (l.length - 8) % 4 ≠ 0 ∨ 8 + 4 * 32 < l.length),
         (.forceAck p, 0x313, nTumbler, l.length ≠ 12),
         (.cfgSetScan p, 0x400, nPrism, leAt l 0 1 = 1 ∧ ((l.drop 1).length % 8 ≠ 0 ∨ 16384 < (l.drop 1).length)),
         (.cfgSetFieldIo p, 0x400, nPrism, leAt l 0 1 = 2 ∧ ((l.drop 1).length % 8 ≠ 0 ∨ 16384 < (l.drop 1).length)),
         (.cfgSetPair p, 0x400, nPrism, leAt l 0 1 = 3 ∧ ((l.drop 1).length % 8 ≠ 0 ∨ 16384 < (l.drop 1).length)),
         (.cfgSetCascade p, 0x400, nPrism, leAt l 0 1 = 4 ∧ ((l.drop 1).length % 8 ≠ 0 ∨ 16384 < (l.drop 1).length)),
         (.cfgSetTime p, 0x400, nPrism, leAt l 0 1 = 5 ∧ ((l.drop 1).length % 8 ≠ 0 ∨ 16384 < (l.drop 1).length)),
         (.luSched p, 0x500, nPrism, l.length ≠ 8 ∨ object s (leAt l 0 4) 6 = none), (.luHandover p, 0x501, [7, 8], l.length ≠ 6),
         (.safeCfg p, 0x600, nPrism, l.length ≠ 4 ∨ object s (leAt l 0 4) 4 = none),
         (.pslAck p, 0x601, nPrism, l.length ≠ 2),
         (.quiesce p, 0x900, nPrism, l.length ≠ 1 ∨ laneOf (leAt l 0 1) = none), (.reload p, 0x901, nPrism, l.length ≠ 9 ∨ laneOf (leAt l 0 1) = none),
         (.selftest p, 0x902, nPrism, l.length ≠ 1 ∨ laneOf (leAt l 0 1) = none), (.copy p, 0x903, nPrism, l.length ≠ 1 ∨ laneOf (leAt l 0 1) = none)] →
      may op need → wrong → exec i s = .next (mbAnswer s p c (rspStatus 6))) ∧
    (may 0x200 nPrism → leAt l 0 1 = 1 → posts (.modeSetStop p) .modeStop) ∧
    (may 0x200 nPrism → leAt l 0 1 = 2 → posts (.modeSetRun p) .modeRun) ∧
    (∀ g d t0, may 0x200 nPrism → leAt l 0 1 = 3 → s.keeper.token = some (g, d, t0) → bitAt g 0 = 1 →
      posts (.modeSetService p) (.modeService g d) ∧ Does (.modeSetService p) s fun t => t.keeper.token = none) ∧
    (may 0x200 nPrism → leAt l 0 1 = 3 → noToken → exec (.modeSetService p) s = .next (mbAnswer s p c (rspStatus 0xD))) ∧
    (may 0x200 nPrism → leAt l 0 1 = 4 → posts (.modeSetLeaveService p) .leaveService) ∧
    (may 0x201 nPrism → posts (.faultAck p) .faultAck) ∧
    (may 0x202 nPrism → posts (.park p) .park) ∧
    (∀ o, may 0x300 nPrism → l.length = 12 → object s (leAt l 0 4) 3 = some o →
      posts (.progLoad p) (.progLoad (slotAddr 3 o.bankB) (o.len - 512) (leAt l 4 8))) ∧
    (∀ k, may 0x310 nTumbler → 1 ≤ k → k ≤ 32 → l.length = 8 + 16 * k →
      posts (.forceSet p) (.forceSet (leAt l 0 8) ((pieces 16 k (l.drop 8)).map forceOfBytes))) ∧
    (∀ k, may 0x311 nTumbler → 1 ≤ k → k ≤ 32 → l.length = 8 + 4 * k →
      posts (.forceClear p) (.forceClear (leAt l 0 8) ((pieces 4 k (l.drop 8)).map ofLe))) ∧
    (may 0x313 nTumbler → l.length = 12 → posts (.forceAck p) (.forceAck (leAt l 0 8) (leAt l 8 4))) ∧
    (∀ k, may 0x400 nPrism → leAt l 0 1 = k → (l.drop 1).length % 8 = 0 → (l.drop 1).length ≤ 16384 →
      (k = 1 → posts (.cfgSetScan p) (.cfg 1 (l.drop 1))) ∧ (k = 2 → posts (.cfgSetFieldIo p) (.cfg 2 (l.drop 1))) ∧
      (k = 3 → posts (.cfgSetPair p) (.cfg 3 (l.drop 1))) ∧ (k = 4 → posts (.cfgSetCascade p) (.cfg 4 (l.drop 1))) ∧
      (k = 5 → posts (.cfgSetTime p) (.cfg 5 (l.drop 1)))) ∧
    (∀ o, may 0x500 nPrism → l.length = 8 → object s (leAt l 0 4) 6 = some o →
      posts (.luSched p) (.luSched (rbs s .flash (slotAddr 6 o.bankB) o.len) (leAt l 4 4))) ∧
    (may 0x501 [7, 8] → l.length = 6 → posts (.luHandover p) (.luHandover (leAt l 0 4) (leAt l 4 2))) ∧
    (∀ o, may 0x600 nPrism → l.length = 4 → object s (leAt l 0 4) 4 = some o →
      (∀ d q m, safe o 1 = some d → safe o 2 = some q → safe o 3 = some m →
        posts (.safeCfg p) (.safeCfg d q m) ∧ Does (.safeCfg p) s fun t => t.keeper.safeNext = some (safeIdent s o.bankB)) ∧
      (safe o 1 = none ∨ safe o 2 = none ∨ safe o 3 = none → exec (.safeCfg p) s = .next (mbAnswer s p c (rspStatus 6)))) ∧
    (may 0x601 nPrism → l.length = 2 → leAt l 0 2 ≠ 0xFFFF → posts (.pslAck p) (.pslAck (some (leAt l 0 2)))) ∧
    (may 0x601 nPrism → l.length = 2 → leAt l 0 2 = 0xFFFF → posts (.pslAck p) (.pslAck none)) ∧
    (∀ m, laneOf (leAt l 0 1) = some m →
      (may 0x900 nPrism → l.length = 1 → posts (.quiesce p) (.quiesce m)) ∧
      (may 0x901 nPrism → l.length = 9 → posts (.reload p) (.reload m (leAt l 1 8))) ∧
      (may 0x902 nPrism → l.length = 1 → posts (.selftest p) (.selftest m)) ∧
      (may 0x903 nPrism → l.length = 1 → posts (.copy p) (.copy m)))

/-- The commands that the Keeper carries out (14 R489, R491, R503, R504, R505, R508, R511 to R513, R516, 09 R371, 12 R454, 17 R581):
a transfer is begun, written, ended with its length and CRC-32C right and, for a signed kind, its signature, and dropped; a command is
relayed; the Keeper restarts after its answer; sections 0x06 and 0x07 are applied or kept; the clock is set and stepped, unless PTP drives
it; the alarm is set; an image goes to the bank that is not booted, a bank that verifies is selected; OTP only rises; a token that names
this module over the current nonce is held; an import is taken only in STOP with a token that grants it. A changing one, all but RELAY,
TOKEN_LOAD and the transfer of a token, is refused where MB_POLICY does not permit it; each is refused where a READY bit it needs is missing,
BAD_PAYLOAD where its payload does not fit, and has no effect where it is not the command in execution.
Model choices that it rests on: log entries 3, 68, 70, 71, 81, 133. -/
def Obligations.MailboxActions : Prop :=
  ∀ (s : State) (p : Fin 4) (c : MbCmd), live s = true →
    let l := c.payload
    let changing (op : Nat) : Prop := op ≠ 0x3 ∧ op ≠ 0xB11 ∧ (op = 0x10 → leAt l 0 1 ≠ 5) ∧
      (op ∈ [0x11, 0x12, 0x13] → ∀ v, xferOf s (leAt l 0 4) ≠ some (5, v))
    let may (op : Nat) (need : List Nat) : Prop := inExec s p op = some c ∧ (permitted s p = true ∨ ¬ changing op) ∧ needsMet s need = true
    let m := l.drop 1
    let done (i : Instr) (t : State) : Prop := exec i s = .next (mbAnswer t p c rspOk)
    let refused (i : Instr) (st : Nat) (reason : Nat := 0) : Prop := exec i s = .next (mbAnswer s p c (rspStatus st reason))
    (∀ i op need, ((i, op, need) : Instr × Nat × List Nat) ∈
        [(.relay p, 0x3, [28]), (.xferBegin p, 0x10, nKeeper), (.xferData p, 0x11, nKeeper), (.xferEnd p, 0x12, nKeeper),
         (.xferAbort p, 0x13, nKeeper), (.keeperRestart p, 0x203, nKeeper), (.jrnlImport p, 0x705, nJournal), (.timeSet p, 0x801, nKeeper),
         (.timeAdj p, 0x802, [22]), (.timeSrc p, 0x803, nKeeper), (.alarmSet p, 0x804, [0]), (.fwWrite p, 0xA00, nKeeper),
         (.fwActivate p, 0xA01, nKeeper), (.otpSvn p, 0xA10, nKeeper), (.otpRevoke p, 0xA11, nKeeper), (.tokenLoad p, 0xB11, nKeeper)] →
      (inExec s p op = none → exec i s = .next s) ∧
      (inExec s p op = some c → permitted s p = true ∨ ¬ changing op → needsMet s need = false → refused i 7 (need.headD 0)) ∧
      (inExec s p op = some c → permitted s p = false → changing op → refused i 9)) ∧
    (∀ i k, ((i, k) : Instr × Nat) ∈ [(.cfgSetModule p, 6), (.cfgSetMaintIpv4 p, 7)] →
      (inExec s p 0x400 = none → exec i s = .next s) ∧ (inExec s p 0x400 = some c → leAt l 0 1 ≠ k → exec i s = .next s) ∧
      (inExec s p 0x400 = some c → leAt l 0 1 = k → (permitted s p = false → refused i 9) ∧
        (permitted s p = true → needsMet s nPrism = false → refused i 7 5))) ∧
    (∀ i op need wrong, ((i, op, need, wrong) : Instr × Nat × List Nat × Prop) ∈
        [(.relay p, 0x3, [28], l.length < 17 ∨ 257 < l.length ∨ cxN s ≤ leAt l 0 1 ∨ leAt l 0 1 = cxPos s),
         (.xferBegin p, 0x10, nKeeper, l.length ≠ 5 ∨ leAt l 0 1 = 0 ∨ 7 < leAt l 0 1 ∨ leAt l 1 4 = 0 ∨ slotSize (leAt l 0 1) < leAt l 1 4 ∨
           (keeperUp s = false ∧ 2 < leAt l 0 1)),
         (.xferData p, 0x11, nKeeper, xferOf s (leAt l 0 4) = none), (.xferEnd p, 0x12, nKeeper, xferOf s (leAt l 0 4) = none),
         (.xferAbort p, 0x13, nKeeper, xferOf s (leAt l 0 4) = none),
         (.cfgSetModule p, 0x400, nPrism, leAt l 0 1 = 6 ∧ moduleOk m = false),
         (.cfgSetMaintIpv4 p, 0x400, nPrism, leAt l 0 1 = 7 ∧ (m.length ≠ 13 ∨ 1 < leAt m 0 1)),
         (.jrnlImport p, 0x705, nJournal, l.length ≠ 4 ∨ object s (leAt l 0 4) 7 = none), (.timeSet p, 0x801, nKeeper, l.length ≠ 9),
         (.timeAdj p, 0x802, [22], l.length ≠ 8), (.timeSrc p, 0x803, nKeeper, l.length ≠ 2 ∨ 1 < leAt l 0 1 ∨ 127 < leAt l 1 1),
         (.alarmSet p, 0x804, [0], l.length ≠ 7 ∨ 1 < leAt l 6 1),
         (.fwWrite p, 0xA00, nKeeper, l.length ≠ 4 ∨ (object s (leAt l 0 4) 1 = none ∧ object s (leAt l 0 4) 2 = none)),
         (.fwActivate p, 0xA01, nKeeper, l.length ≠ 1 ∨ 1 < leAt l 0 1),
         (.otpSvn p, 0xA10, nKeeper, l.length ≠ 5 ∨ leAt l 0 1 = 0 ∨ 5 < leAt l 0 1), (.otpRevoke p, 0xA11, nKeeper, l.length ≠ 1 ∨ 3 < leAt l 0 1),
         (.tokenLoad p, 0xB11, nKeeper, l.length ≠ 4 ∨ object s (leAt l 0 4) 5 = none)] →
      may op need → wrong → refused i 6) ∧
    (may 0x3 [28] → 17 ≤ l.length → l.length ≤ 257 → leAt l 0 1 < cxN s → leAt l 0 1 ≠ cxPos s →
      exec (.relay p) s = .next (setMb (cxMbox s (leAt l 0 1) m) p.val fun x => { x with queued := true })) ∧
    (may 0x10 nKeeper → l.length = 5 → 1 ≤ leAt l 0 1 → leAt l 0 1 ≤ 7 → 0 < leAt l 1 4 → leAt l 1 4 ≤ slotSize (leAt l 0 1) →
      (keeperUp s = true ∨ leAt l 0 1 ≤ 2) →
      ((s.keeper.xfers.any fun e => e.1 == leAt l 0 1) = false → Does (.xferBegin p) s fun t =>
        t.keeper.handle = s.keeper.handle + 1 ∧ r32 t (.rspBuf p) 32 = (s.keeper.handle + 1) % 2 ^ 32 ∧ (mbPair t p.val).cmd = none ∧
        (t.keeper.xfers.find? fun e => e.1 == leAt l 0 1) = some (leAt l 0 1, ⟨s.keeper.handle + 1, leAt l 1 4, [], s.time.now⟩)) ∧
      ((s.keeper.xfers.any fun e => e.1 == leAt l 0 1) = true → refused (.xferBegin p) 8)) ∧
    (∀ kind v, may 0x11 nKeeper → xferOf s (leAt l 0 4) = some (kind, v) →
      (9 ≤ l.length → leAt l 4 4 + (l.drop 8).length ≤ v.len → Does (.xferData p) s fun t => (mbPair t p.val).cmd = none ∧
        rb t (.rspBuf p) 12 = 0 ∧ (∀ i, i < (l.drop 8).length → rb t .keeperSram (stageAt kind + leAt l 4 4 + i) = (l.drop 8).getD i 0) ∧
        t.keeper.xfers = Tab.insert s.keeper.xfers kind
          { v with parts := v.parts ++ [(leAt l 4 4, (l.drop 8).length)], last := s.time.now }) ∧
      (l.length < 9 ∨ v.len < leAt l 4 4 + (l.drop 8).length → refused (.xferData p) 6)) ∧
    (∀ kind v, may 0x12 nKeeper → xferOf s (leAt l 0 4) = some (kind, v) →
      let b := rbs s .keeperSram (stageAt kind) v.len
      let fits := l.length = 8 ∧ covered v = true ∧ crc32c b = leAt l 4 4 ∧ (kind = 7 → imageOk b = true)
      let block := b.drop (v.len - 512)
      let res := if 5 < kind then 1 else if v.len ≤ 512 ∨ leAt block 0xC 4 ≠ v.len - 512 then 2
        else verifyImage s kind (b.take (v.len - 512)) block;
      (¬ fits → exec (.xferEnd p) s = .next (mbAnswer (setXfer s kind (some { v with last := s.time.now })) p c (rspStatus 6))) ∧
      (fits → Does (.xferEnd p) s fun t => (t.keeper.xfers.any fun e => e.1 == kind) = false ∧ (mbPair t p.val).cmd = none ∧
        (res = 1 → rb t (.rspBuf p) 12 = 0 ∧ (t.keeper.objs.find? fun e => e.1 == v.handle) = some (v.handle, ⟨kind, v.len, objBank s kind⟩)) ∧
        (res ≠ 1 → rb t (.rspBuf p) 12 = 0xA ∧ rb t (.rspBuf p) 13 = BitVec.ofNat 8 res ∧ t.keeper.objs = s.keeper.objs))) ∧
    (∀ kind v, may 0x13 nKeeper → xferOf s (leAt l 0 4) = some (kind, v) → done (.xferAbort p) (setXfer s kind none)) ∧
    (may 0x203 nKeeper → exec (.keeperRestart p) s = .next (keeperRestart (mbAnswer s p c rspOk) 2)) ∧
    (may 0x400 nPrism → leAt l 0 1 = 6 → moduleOk m = true →
      (leAt m 4 4 = s.keeper.policy ∨ p = 0 ∨ s.modl.mode = .service → done (.cfgSetModule p) (keepSection (applyModule s m) 6 m)) ∧
      (leAt m 4 4 ≠ s.keeper.policy → p ≠ 0 → s.modl.mode ≠ .service → refused (.cfgSetModule p) 9)) ∧
    (may 0x400 nPrism → leAt l 0 1 = 7 → m.length = 13 → leAt m 0 1 ≤ 1 → done (.cfgSetMaintIpv4 p) (keepSection s 7 m)) ∧
    (∀ o, may 0x705 nJournal → l.length = 4 → object s (leAt l 0 4) 7 = some o →
      (s.modl.mode ≠ .stop ∨ (∀ g d t0, s.keeper.token = some (g, d, t0) → bitAt g 0 = 0) → refused (.jrnlImport p) 9) ∧
      (∀ g d t0, s.modl.mode = .stop → s.keeper.token = some (g, d, t0) → bitAt g 0 = 1 →
        ((parseRecs 100000 ((rbs s .mram exportBase o.len).drop 64)).1.all fun e => e.1 != 0x21 && e.1 != 0x22) = true →
        Does (.jrnlImport p) s fun t => t.keeper.token = none ∧ rb t (.rspBuf p) 12 = 0 ∧ t.jrnl = { s.jrnl with compact := none, after := [] } ∧ t.regs = (mbAnswer s p c rspOk).regs)) ∧
    (may 0x801 nKeeper → l.length = 9 → (rd s R.TB2_CTRL_SRC = 1 → refused (.timeSet p) 0xE) ∧
      (rd s R.TB2_CTRL_SRC ≠ 1 → Does (.timeSet p) s fun t => t.time.tb2 = 4 * (leAt l 0 8 / 4) ∧
        rd t R.TB2_CTRL_UTC_OFS = leAt l 8 1 % 2 ^ R.TB2_CTRL_UTC_OFS.width ∧ t.time.v2 = true ∧ (mbPair t p.val).cmd = none)) ∧
    (may 0x802 [22] → l.length = 8 → (rd s R.TB2_CTRL_SRC = 1 → refused (.timeAdj p) 0xE) ∧
      (rd s R.TB2_CTRL_SRC ≠ 1 → Does (.timeAdj p) s fun t => (mbPair t p.val).cmd = none ∧
        t.time.tb2 = 4 * (((s.time.tb2 : Int) + toSigned 64 (leAt l 0 8)).toNat % 2 ^ 64 / 4))) ∧
    (may 0x803 nKeeper → l.length = 2 → leAt l 0 1 ≤ 1 → leAt l 1 1 ≤ 127 → done (.timeSrc p)
      { wr s R.TB2_CTRL_SRC (leAt l 0 1) with time := { s.time with domain := leAt l 1 1 } }) ∧
    (may 0x804 [0] → l.length = 7 → leAt l 6 1 ≤ 1 → Does (.alarmSet p) s fun t => rd t R.AON_ALARM_LO_TICK = leAt l 0 4 ∧
      rd t R.AON_ALARM_HI_TICK = leAt l 4 2 ∧ rd t R.WAKE_CFG_ALARM_EN = leAt l 6 1 ∧ (mbPair t p.val).cmd = none ∧ t.aon = s.aon) ∧
    (∀ kind o, may 0xA00 nKeeper → l.length = 4 → kind = 1 ∨ (kind = 2 ∧ object s (leAt l 0 4) 1 = none) → object s (leAt l 0 4) kind = some o →
      (s.keeper.activated = true → refused (.fwWrite p) 8) ∧
      (s.keeper.activated = false → Does (.fwWrite p) s fun t => (mbPair t p.val).cmd = none ∧ rb t (.rspBuf p) 12 = 0 ∧
        ∀ i, i < o.len → rb t .flash (slotAddr o.kind (!bootBank s) + i) = rb s .keeperSram (stageAt o.kind + i))) ∧
    (may 0xA01 nKeeper → l.length = 1 → leAt l 0 1 ≤ 1 →
      let r1 := verifySlot s 1 (leAt l 0 1 == 1)
      let r2 := verifySlot s 2 (leAt l 0 1 == 1);
      Does (.fwActivate p) s fun t => (r1 ≠ 1 → t = mbAnswer s p c (rspStatus 0xA r1)) ∧
        (r1 = 1 → r2 ≠ 1 → t = mbAnswer s p c (rspStatus 0xA r2)) ∧
        (r1 = 1 → r2 = 1 → t.keeper.activated = true ∧ rb t .flash bootSelector = BitVec.ofNat 8 (leAt l 0 1) ∧ (mbPair t p.val).cmd = none ∧
          rb t (.rspBuf p) 12 = 0)) ∧
    (may 0xA10 nKeeper → l.length = 5 → 1 ≤ leAt l 0 1 → leAt l 0 1 ≤ 5 →
      (otpMay s = true → (leAt l 1 4 ≤ svnInUse s (leAt l 0 1) ∨ leAt l 1 4 ≤ svnMin s (leAt l 0 1)) → Does (.otpSvn p) s fun t => (mbPair t p.val).cmd = none ∧
        Tab.get 0 t.keeper.otp.svnMin (leAt l 0 1) = max (leAt l 1 4) (Tab.get 0 s.keeper.otp.svnMin (leAt l 0 1)) ∧
        t.keeper.otp.revoked = s.keeper.otp.revoked) ∧
      (otpMay s = false ∨ (svnInUse s (leAt l 0 1) < leAt l 1 4 ∧ svnMin s (leAt l 0 1) < leAt l 1 4) → refused (.otpSvn p) 9)) ∧
    (may 0xA11 nKeeper → l.length = 1 → leAt l 0 1 ≤ 3 →
      let keeps := ([1, 2].any fun k => leAt (slotBlock s k (bootBank s)) 7 1 == leAt l 0 1) = true ∨
        setB (otpRevoked s) (leAt l 0 1) true % 16 = 15;
      (otpMay s = false → refused (.otpRevoke p) 9) ∧
      (otpMay s = true → Does (.otpRevoke p) s fun t => (keeps → t = mbAnswer s p c (rspStatus 9)) ∧
        (¬ keeps → (mbPair t p.val).cmd = none ∧ bitAt t.keeper.otp.revoked (leAt l 0 1) = 1 ∧
          t.keeper.otp.svnMin = s.keeper.otp.svnMin))) ∧
    (∀ o, may 0xB11 nKeeper → l.length = 4 → object s (leAt l 0 4) 5 = some o →
      let b := rbs s .keeperSram (stageAt 5) o.len
      let img := b.take (o.len - 512)
      let res := verifyImage s 5 img (b.drop (o.len - 512))
      let dur := leAt img 0x20 4
      let wellFormed := leAt img 0 4 = 0x544B4E31 ∧ 40 ≤ img.length ∧ 60 ≤ dur ∧ dur ≤ 28800
      let mine := leAt img 4 8 = Config.serial.val ∧ s.keeper.nonce.map (·.1) = some ((img.drop 0xC).take 16);
      Does (.tokenLoad p) s fun t => (res ≠ 1 → t = mbAnswer s p c (rspStatus 0xA res)) ∧
        (res = 1 → ¬ wellFormed → t = mbAnswer s p c (rspStatus 6)) ∧
        (res = 1 → wellFormed → ¬ mine → t = mbAnswer s p c (rspStatus 0xD)) ∧
        (res = 1 → wellFormed → mine → t.keeper.nonce = none ∧ (mbPair t p.val).cmd = none ∧
          t.keeper.token = some (leAt img 0x1C 4 % 32, dur, s.time.now)))

/-! ## The scan (chapters 2, 4, 7 and 10) -/

/-- The input freeze (02 R52 to R54, R58, R71, R76, 01 R35, R114, 07 R303, 10 R409, R411): at a grid point with no scan open, PARK not armed
and no freeze waiting, the freeze samples every waiting request as the requests of the scan, counts the scan and stamps it in every lane's
block; where a member's block that the cascade exchange needs is not there it waits, else it opens the scan; a freeze that waits opens the
scan when CX_WAIT has passed or the last block has come; between two points, and in each of those other cases, INPUT_FREEZE changes nothing;
with a scan open a point of the Luosh grid goes by with TX extended and the deadline ahead, and a standalone one counts its cycles; a
cascade DATA frame goes on on the other link as it came, and one of a member that is right is taken into that member's block; a challenge
wakes every lane with its clocks that dozes and holds it where an injection run is under way.
Model choices that it rests on: log entries 14, 15, 103, 116, 119. -/
def Obligations.ScanFreeze : Prop :=
  ∀ s : State, live s = true →
    let begun (t : State) : Prop := t.scan.sampled = s.scan.ring ∧ t.scan.ring = [] ∧ t.keeper.nPosted = 0 ∧ t.psl.sampled = s.psl.waiting ∧
      (∀ l : Lane, rdL t R.SCAN_COUNT_SCAN l = (scanNo s + 1) % 2 ^ R.SCAN_COUNT_SCAN.width ∧ rdL t R.T_FREEZE_TB1 l = tb1 s ∧
        rdL t R.TX_LO_TX l = (gridPoint s).scan.tx % 2 ^ 32)
    (∀ corr unc, s.scan.gridOn = true → s.scan.isOpen = false → rd s R.PWR_STAT_PARK_ARM ≠ 1 → s.cx.waiting = none → pointDue s = true →
      Does (.inputFreeze corr unc) s fun t =>
        let u := freezeBegin (broadcastErrors (gridPoint s) corr unc)
        begun t ∧
        (cxIncomplete u (cxNumber u) = false ∨ rdL u R.CX_CTRL_CX_WAIT .x = 0 →
          t = freezeEnd u ∧ t.scan.isOpen = true ∧ t.scan.voted = none ∧ t.cx.waiting = none) ∧
        (cxIncomplete u (cxNumber u) = true → rdL u R.CX_CTRL_CX_WAIT .x ≠ 0 →
          t = { u with cx := { u.cx with waiting := some (tb1 s) } } ∧ t.scan.isOpen = false)) ∧
    (∀ corr unc, s.scan.gridOn = false ∨ s.scan.isOpen = true ∨ rd s R.PWR_STAT_PARK_ARM = 1 ∨ s.cx.waiting.isSome = true ∨ pointDue s = false →
      exec (.inputFreeze corr unc) s = .next s) ∧
    (s.scan.gridOn = true → s.scan.isOpen = true → pointDue s = true → Does .freezePointPassedOver s fun t =>
      t = gridPoint s ∧ t.scan.due = true ∧ t.scan.ring = s.scan.ring ∧ t.scan.isOpen = true ∧ t.mem = s.mem ∧
      (standalone s = false → t.scan.tx = s.scan.tx + gridSpan s ∧ t.scan.tFreeze = tb1 s ∧ rdL t R.CYCLE_COUNT_CYCLE .x = rdL s R.CYCLE_COUNT_CYCLE .x) ∧
      (standalone s = true → t.scan.tx = s.scan.tx + gridAdv s ∧ t.scan.tFreeze = (s.scan.tFreeze + gridAdv s) % 2 ^ 32 ∧
        rdL t R.CYCLE_COUNT_CYCLE .x =
          (rdL s R.CYCLE_COUNT_CYCLE .x + 1 + (gridAdv s - gridNext s) / gridNs s) % 2 ^ R.CYCLE_COUNT_CYCLE.width)) ∧
    (s.scan.gridOn = false ∨ s.scan.isOpen = false ∨ pointDue s = false → exec .freezePointPassedOver s = .next s) ∧
    (∀ t0, s.cx.waiting = some t0 →
      (1000 * rdL s R.CX_CTRL_CX_WAIT .x ≤ (tb1 s + 2 ^ 32 - t0) % 2 ^ 32 → Does .cxWaitExpiry s fun t =>
        t = freezeEnd s ∧ t.scan.isOpen = true ∧ t.scan.voted = none ∧ t.cx.waiting = none ∧ t.scan.sampled = s.scan.sampled) ∧
      ((tb1 s + 2 ^ 32 - t0) % 2 ^ 32 < 1000 * rdL s R.CX_CTRL_CX_WAIT .x → exec .cxWaitExpiry s = .next s)) ∧
    (s.cx.waiting = none → exec .cxWaitExpiry s = .next s) ∧
    (∀ dn (f : CxFrame), cxOn s = false ∨ cxLink s dn = false ∨ f.kind ≠ 2 ∨ f.src = cxPos s → exec (.cascadeDataRx dn f) s = .next s) ∧
    (∀ dn (f : CxFrame), cxOn s = true → cxLink s dn = true → f.kind = 2 → f.src ≠ cxPos s → Does (.cascadeDataRx dn f) s fun t =>
      let u := cxStore (if cxLink s (!dn) then emit s (.cx (!dn) f) else s) f
      u.out = (if cxLink s (!dn) then s.out ++ [.cx (!dn) f] else s.out) ∧ u.regs = s.regs ∧ u.cx = { s.cx with blocks := u.cx.blocks } ∧
      (cxGood f 2 = false → u.cx = s.cx ∧ u.mem = s.mem) ∧
      (cxGood f 2 = true → (cxMembers s).contains f.src = true → f.frag < f.frags → f.frags ≤ 64 →
        (cxBlk u f.src).num = f.num ∧ (cxBlk u f.src).got.contains f.frag = true ∧
        rbs u .shared (cxHome s f.src + 256 * f.frag) f.data.length = f.data) ∧
      (s.cx.waiting = none ∨ cxIncomplete u (cxNumber u) = true → t = u) ∧
      (s.cx.waiting.isSome = true → cxIncomplete u (cxNumber u) = false → t = freezeEnd u ∧ t.scan.isOpen = true ∧ t.cx.waiting = none)) ∧
    (challengeCome s = false → exec .dbChallengeIrq s = .next s) ∧
    (challengeCome s = true → Does .dbChallengeIrq s fun t => t.mem = s.mem ∧ t.scan = s.scan ∧ ∀ l : Lane,
      ((lane s l).injRun = false → (lane s l).dozing = true → laneClocked s l = true →
        (lane t l).dozing = false ∧ rdL t R.SCAN_STAT_PHASE l = 1) ∧
      ((lane s l).injRun = true → lane t l = { lane s l with irqHeld := (lane s l).dozing }) ∧
      ((lane s l).injRun = false → (lane s l).dozing = false ∨ laneClocked s l = false →
        lane t l = lane s l ∧ rdL t R.SCAN_STAT_PHASE l = rdL s R.SCAN_STAT_PHASE l))

/-- The logic (02 R61, R62, R68, 03 R88, R91, R111): the Tumbler pass of a lane in the scan runs the bundles of its program on its own
memories and touches no other lane's; words corrected in it are counted and reported, and an uncorrectable one makes the lane invalid for
the scan with cause 0x08; its end shows the clocks and the times and begins the core pass; CORE_DONE writes what the software has written,
but to the image while the stop of a deadline fault runs, and, where its pass has ended, the core pass serves the requests of the scan, builds
the Penesh frames and the lane is DONE; else both follow at the end of the Tumbler pass; a lane that is DONE shows its times in
its block and its flag in every block; the first overrun of CT_BUDGET in a scan is shown, counted and reported as 0x0101. The vote (02
R63 to R65, R74, 04 R164, R165): at the vote point an open scan is voted among the lanes that are DONE and valid; the other admitted lanes
are excluded; two lanes of which one is missing or invalid disagree; of three lanes with fewer than two finished the scan stays open; with
fewer than two lanes nothing is released; a candidate whose words were not compared by the vote point fails. A lane that nothing keeps busy dozes once its scan is voted or no scan is open, in phase 0.
Model choices that it rests on: log entries 9, 16, 26, 97, 107, 108. -/
def Obligations.ScanVote : Prop :=
  ∀ (s : State) (l : Lane), live s = true →
    (∀ image others, inScan s l = true → programRuns s = true → rdL s R.SCAN_STAT_PHASE l = 3 → (lane s l).tumEnded = false →
      let us := image ++ others
      let s1 := setLane (wrL (wrL (upset s l us) R.SCAN_STAT_PHASE l 4) R.TUM_STAT_STATE l 1) l (fun x => { x with tWake := tb1 s })
      let p := passOf s1 l (rdL s R.TUM_BUNDLES_COUNT l)
      let e := passErrors s1 l us p.seen
      Does (.tumblerPass l image others) s fun t =>
        (e = (0, false) → t = passEnd p l) ∧
        (0 < e.1 → (lane t l).candOk = false ∧ rdL t R.TUM_STAT_ECC_CORR l = 1 ∧ t.faults.lastCode = 0x0201) ∧
        (e.2 = true → (lane t l).invalid = some 0x08 ∧ (lane t l).candOk = false ∧ rdL t R.TUM_STAT_ECC_UNC l = 1) ∧
        ∀ m : Lane, m ≠ l → ∀ r ∈ [Region.laneSram m, .image m, .progStore m, .inst m, .forceTab m, .hndQ m],
          ∀ off, rb t r off = rb s r off) ∧
    (∀ image others, inScan s l = false ∨ programRuns s = false ∨ rdL s R.SCAN_STAT_PHASE l ≠ 3 ∨ (lane s l).tumEnded = true →
      exec (.tumblerPass l image others) s = .next s) ∧
    (inScan s l = true → rdL s R.SCAN_STAT_PHASE l = 4 → Does (.tumblerPassEnd l) s fun t => ∃ u : State,
      rdL u R.TUM_CLOCKS_CLOCKS l = rdL s R.TUM_BUNDLES_COUNT l ∧ rdL u R.TUM_STAT_STATE l = 0 ∧ rdL u R.SCAN_STAT_PHASE l = 5 ∧
      rdL u R.TUMBLER_NS_NS l = (5 * rdL s R.TUM_BUNDLES_COUNT l + 23) / 24 * 4 ∧
      lane u l = { lane s l with tumEnded := true, tTumEnd := tb1 s } ∧ u.mem = s.mem ∧ u.scan = s.scan ∧
      KeepsRegs [R.TUM_STAT_STATE, R.TUM_CLOCKS_CLOCKS, R.TUMBLER_NS_NS, R.SCAN_STAT_PHASE] s u ∧
      let v := pslCorePass (releaseHeld u l) l
      t = if (lane v l).doneHeld then laneDone (corePass v l) l else v) ∧
    (inScan s l = false ∨ rdL s R.SCAN_STAT_PHASE l ≠ 4 → exec (.tumblerPassEnd l) s = .next s) ∧
    (∀ ws us, inScan s l = true → coreUp s l.idx = true → (lane s l).doneHeld = false →
      ∀ ws', (unserved s = false → ws' = ws) → (unserved s = true → ws' = ws.filter fun e => !decide (0x10000000 ≤ e.1 ∧ e.1 < 0x10050000)) →
      let w := us.foldl (fun t u => if u.mem = .sram then sramRead l t u.word u.addr else t)
        (ws'.foldl (fun t (e : Nat × Word) => laneWrite t l e.1 e.2.toNat) (upset s l us))
      (wakes w l = false → exec (.coreDone l ws us) s = .next (voteIfDone w)) ∧
      (wakes w l = true → (lane w l).tumEnded = false →
        exec (.coreDone l ws us) s = .next (setLane w l (fun x => { x with doneHeld := true }))) ∧
      (wakes w l = true → (lane w l).tumEnded = true → exec (.coreDone l ws us) s = .next (laneDone (corePass w l) l))) ∧
    (∀ ws us, inScan s l = false ∨ coreUp s l.idx = false ∨ (lane s l).doneHeld = true → exec (.coreDone l ws us) s = .next s) ∧
    (∃ u : State, laneDone s l = voteIfDone u ∧ (lane u l).done = true ∧ (lane u l).tDone = tb1 s ∧ rdL u R.SCAN_STAT_PHASE l = 6 ∧
      rdL u R.CORE_NS_NS l = spanFrom s (lane s l).tTumEnd ∧ rdL u R.LOGIC_NS_NS l = spanFrom s (lane s l).tWake ∧
      ∀ m : Lane, rdL u (match l with | .x => R.SCAN_STAT_DONE_X | .y => R.SCAN_STAT_DONE_Y | .z => R.SCAN_STAT_DONE_Z) m = 1) ∧
    (inScan s l = true → overBudget s l = true → (lane s l).exceeded = false → Does (.coreBudgetExceeded l) s fun t =>
      (lane t l).exceeded = true ∧ rdL t R.SCAN_STAT_BUDGET_EXC l = 1 ∧ t.mem = s.mem ∧
      rd t R.BUDGET_EXC_CNT_COUNT l.idx = min (rd s R.BUDGET_EXC_CNT_COUNT l.idx + 1) (2 ^ R.BUDGET_EXC_CNT_COUNT.width - 1) ∧
      ((∀ m : Lane, (lane s m).exceeded = false) → Recorded s t 0x0101 l.idx) ∧
      ((∃ m : Lane, (lane s m).exceeded = true) → t.faults = s.faults)) ∧
    (inScan s l = false ∨ overBudget s l = false ∨ (lane s l).exceeded = true → exec (.coreBudgetExceeded l) s = .next s) ∧
    (let presp (t : State) : State := if checkCome s 1000 && checkAhead s then votePresp t else t
      let judged (t : State) : State := if t.scan.voted.isSome then
          Lane.all.foldl (fun u m => setLane u m (fun x => { x with candOk := x.candOk && x.compared })) t else t;
      (votePointCome s = true → s.scan.isOpen = true → s.scan.voted = none → s.scan.missed = false →
        exec .votePoint s = .next (presp (judged (voteStart s)))) ∧
      (votePointCome s = true → s.scan.isOpen = true → s.scan.voted.isSome = true ∨ s.scan.missed = true →
        exec .votePoint s = .next (presp (judged s))) ∧
      (votePointCome s = false ∨ s.scan.isOpen = false → exec .votePoint s = .next (presp s))) ∧
    (startLanes s = [] → s.modl.prismStop = false →
      (2 ≤ ((admittedLanes s).filter (finished s)).length → (voteStart s).scan.voted.isSome = true ∧
        ((lane s l).admitted = true → finished s l = false → (lane (voteStart s) l).admitted = false ∧ (lane (voteStart s) l).fenced = true)) ∧
      ((admittedLanes s).length = 2 → ((admittedLanes s).filter (finished s)).length = 1 →
        (voteStart s).scan.voted = some Voted.none ∧ (voteStart s).faults.lastCode = 0x0319 ∧
        ((lane s l).admitted = true → finished s l = false → (lane (voteStart s) l).fenced = true)) ∧
      (let open_ : State := { noteLogic s with scan := { (noteLogic s).scan with missed := true } };
        ((admittedLanes s).length = 3 → ((admittedLanes s).filter (finished s)).length ≤ 1 → voteStart s = open_) ∧
        ((admittedLanes s).length = 2 → ((admittedLanes s).filter (finished s)).length = 0 →
          ((∀ m, (lane s m).admitted = true → (lane s m).invalid = none) → voteStart s = open_) ∧
          ((lane s l).admitted = true → (lane s l).invalid.isSome = true → (voteStart s).scan.voted = some Voted.none ∧
            (voteStart s).faults.lastCode = 0x0319 ∧ (lane (voteStart s) l).fenced = true)))) ∧
    (startLanes s = [] → (admittedLanes s).length < 2 ∨ s.modl.prismStop = true →
      voteStart s = { noteLogic s with scan := { (noteLogic s).scan with voted := some Voted.none } }) ∧
    (∃ n, noteLogic s = { s with scan := { s.scan with logic := n } }) ∧
    ((s.scan.isOpen = false ∨ s.scan.voted.isSome = true) → (lane s l).injRun = false →
      ((lane s l).injDue = false ∨ injWindow s l = false) → (∀ q, (lane s l).load = some q → q.posted = true) →
      (lane s l).dbgAct = false → laneClocked s l = true → (lane s l).dozing = false → Does (.laneDoze l) s fun t =>
        (lane t l).dozing = true ∧ rdL t R.SCAN_STAT_PHASE l = 0 ∧ t.mem = s.mem ∧ t.scan = s.scan ∧
        KeepsRegs [R.SCAN_STAT_PHASE, R.PWR_STAT_LANE_DOZE, R.PWR_STAT_STATE] s t) ∧
    ((s.scan.isOpen = true ∧ s.scan.voted = none) ∨ (lane s l).injRun = true ∨ ((lane s l).injDue = true ∧ injWindow s l = true) ∨
      (∃ q, (lane s l).load = some q ∧ q.posted = false) ∨ (lane s l).dbgAct = true ∨ laneClocked s l = false ∨ (lane s l).dozing = true →
      exec (.laneDoze l) s = .next s)

/-- The commit (02 R66, R74 to R78, 01 R48, 04 R168, R172, R173, 11 R422, R426): at the deadline a scan that is voted is committed and closed,
its skips end, its number is the generation of the status words and both counters of the mirror; one that is not is held, counted as
skipped, and stays open; at SKIP_MAX skips in mode RUN it is discarded; with fewer than two lanes admitted, or before the voter's
start-up test has passed, it closes with nothing released; with no scan open or with PARK armed the deadline only goes by; once Prism has
stopped a voted scan only closes; before the deadline nothing happens.
Model choices that it rests on: log entries 8, 10, 11, 12, 13, 30, 60, 109. -/
def Obligations.ScanCommit : Prop :=
  ∀ s : State, live s = true →
    (deadlineCome s = false → exec .commit s = .next s) ∧
    (deadlineCome s = true →
    let u : State := { s with scan := { s.scan with due := false } }
    (rd s R.PWR_STAT_PARK_ARM = 1 ∨ s.scan.isOpen = false → exec .commit s = .next u) ∧
    (rd s R.PWR_STAT_PARK_ARM ≠ 1 → s.scan.isOpen = true → s.modl.prismStop = true →
      (s.scan.voted = none → exec .commit s = .next u) ∧ (s.scan.voted.isSome = true → exec .commit s = .next (closeScan u))) ∧
    (rd s R.PWR_STAT_PARK_ARM ≠ 1 → s.scan.isOpen = true → s.modl.prismStop = false →
      ((admittedLanes s).length < 2 ∨ (s.scan.committed = false ∧ rdL s R.PRISM_STAT_TEST_PASS .x = 0) → Does .commit s fun t =>
        t = closeScan u ∧ t.scan.isOpen = false ∧ t.scan.committed = s.scan.committed ∧
        t.scan.held = s.scan.held ∧ t.scan.sampled = [] ∧ t.mem = s.mem ∧ t.db = s.db ∧ t.fio = s.fio ∧
        KeepsRegs [R.SCAN_STAT_PHASE] s t) ∧
      (2 ≤ (admittedLanes s).length → s.scan.committed = true ∨ rdL s R.PRISM_STAT_TEST_PASS .x ≠ 0 →
      (∀ v, s.scan.voted = some v → s.scan.missed = false → Does .commit s fun t =>
        t.scan.isOpen = false ∧ t.scan.voted = none ∧ t.scan.sampled = [] ∧ t.scan.committed = true ∧ t.scan.gen = scanNo s ∧
        rdL t R.SCAN_STAT_SKIP_CONSEC .x = 0 ∧ r32 t .bar2 mirrorEnd = scanNo s ∧
        ((∀ e ∈ v.image, e.1 < 0x50000) → r32 t .bar2 0 = scanNo s)) ∧
      (s.scan.voted = none ∨ s.scan.missed = true → Does .commit s fun t =>
        let n := min 15 (rdL s R.SCAN_STAT_SKIP_CONSEC .x + 1)
        t.scan.skips = satInc 0xFFFF s.scan.skips ∧ t.scan.committed = s.scan.committed ∧ t.scan.held = s.scan.held ∧
        (∀ m : Lane, rd t R.SKIP_TOTAL_SKIPS m.idx = min (rd s R.SKIP_TOTAL_SKIPS m.idx + 1) (2 ^ R.SKIP_TOTAL_SKIPS.width - 1)) ∧
        rdL t R.SCAN_STAT_SKIP_CONSEC .x = n ∧
        (n ≠ rdL s R.SCAN_CTRL_SKIP_MAX .x → isPresent t 0x0102 = true ∧ (t.modl.prismStop = false →
          ∃ e ∈ t.faults.events, e.code = 0x0102 ∧ e.arg = scanNo s)) ∧
        (n = rdL s R.SCAN_CTRL_SKIP_MAX .x → isPresent t 0x0103 = true ∧ (t.modl.mode = .run → t.faults.cstop.isSome = true) ∧
          (t.modl.prismStop = false → ∃ e ∈ t.faults.events, e.code = 0x0103 ∧ e.arg = n)) ∧
        (n ≠ rdL s R.SCAN_CTRL_SKIP_MAX .x ∨ s.modl.mode ≠ .run → t.scan.isOpen = true ∧ t.scan.sampled = s.scan.sampled ∧
          t.scan.stretched = true) ∧
        (n = rdL s R.SCAN_CTRL_SKIP_MAX .x → s.modl.mode = .run → t.scan.isOpen = false ∧ t.scan.sampled = [] ∧ t.scan.lastSkips = n ∧
          t.faults.deadline = true ∧ ∀ m : Lane, (lane t m).staged = [] ∧ (lane t m).posted = [])))))

/-! ## Tumbler and the whole module -/

/-- Ops of Tumbler (03 R94, R97): the word 0x80000000 has PN = 1 and PS = 0 and never executes, and a bundle of it in every slot does
nothing but complete the store of the bundle before. DIV by 0 returns 0x7FFFFFFF for a dividend of 0 or greater and 0x80000000
otherwise, REM by 0 returns 0; 0x80000000 by 0xFFFFFFFF gives 0x7FFFFFFF and 0; each sets TUM_STAT.DIV0 and counts DIV0_CNT, and
leaves the clock count. Which words a pass has read is kept for the check bits (R111). -/
def Obligations.TumblerOps : Prop :=
  ∀ (l : Lane) (tx i : Nat) (p : Pass),
    (bitAt 0x80000000 31 = 1 ∧ bits 0x80000000 30 27 = 0 ∧ ∀ r : TumRegs, opRuns r 0x80000000 = false) ∧
    ((∀ e ∈ p.due, i < e.1) → (∀ k, k < 4 → r32 p.s (.progStore l) (16 * i + 4 * k) = 0x80000000) →
      bundleStep l tx i p = { p with s := storeExec l p.s p.store, store := none,
                                     seen := p.seen ++ [(.prog, 2 * i), (.prog, 2 * i + 1)] }) ∧
    (∀ w s2, bits w 26 21 = 0x06 ∨ bits w 26 21 = 0x07 →
      let a := p.rf.word (bits w 15 11);
      let b := p.rf.word (bits w 10 6);
      let q := ariExec l tx i w s2 p;
      b = 0 ∨ (a = 0x80000000 ∧ b = 0xFFFFFFFF) →
      (bits w 26 21 = 0x06 → q.due = p.due ++ [(i + 12, .word (bits w 20 16)
        (if b = 0 ∧ a.toInt < 0 then 0x80000000 else 0x7FFFFFFF))]) ∧
      (bits w 26 21 = 0x07 → q.due = p.due ++ [(i + 12, .word (bits w 20 16) 0)]) ∧
      rdL q.s R.TUM_STAT_DIV0 l = 1 ∧
      rdL q.s R.DIV0_CNT_COUNT l = min (rdL p.s R.DIV0_CNT_COUNT l + 1) 0xFFFFFFFF ∧
      rdL q.s R.TUM_CLOCKS_CLOCKS l = rdL p.s R.TUM_CLOCKS_CLOCKS l ∧ q.rf = p.rf ∧ q.s.mem = p.s.mem)

/-- One step is the command at the front of the queue on the rest of the state; with an empty queue the clocks run for 4 ns (the
model's choice, log entry 1): the queue stays empty, nothing of the lanes changes but the time that a scrubber has had, nothing of the scan, one waiting latch of the capture unit is
written while the time PLL runs and no memory but the capture data changes; with none, what is noted of changes within a clock is over. -/
def Obligations.StepRunsFront : Prop :=
  (∀ (c : Instr) (cs : List Instr) (s : State), step { s with pending := c :: cs } = exec c { s with pending := cs }) ∧
  (∀ s : State, s.pending = [] → ∃ t, step s = .next t ∧ t.pending = [] ∧ (∀ l, lane t l = { lane s l with scrubNs := (lane t l).scrubNs }) ∧ t.scan = s.scan ∧
    (s.time.latches = [] ∨ live s = false ∨ s.time.pll = false → t.mem = s.mem ∧ t.time.latches = s.time.latches ∧ t.clk = ⟨[], []⟩) ∧
    (live s = true → s.time.pll = true → t.time.latches = s.time.latches.tail) ∧
    (∀ r : Region, r ≠ .capData → ∀ off, rb t r off = rb s r off) ∧
    t.time.now = (if s.modl.power = .park then s.time.now else s.time.now + 4))

/-- The module right after power-up, RST_N still low, holds memory, registers and present flags in their one form, and no command
waits.
Model choices that it rests on: log entries 2, 4. -/
def Obligations.ResetInForm : Prop := State.reset.wf = true ∧ State.reset.pending = [] ∧ State.reset.modl.rst = true

/-- Every step keeps memory, registers and present flags in their one form, and takes exactly the front of the queue.
Model choices that it rests on: log entries 4, 87. -/
def Obligations.StepKeepsForm : Prop :=
  ∀ s t : State, s.wf = true → step s = .next t → t.wf = true ∧ t.pending = s.pending.tail

/-- Mode SAFE is left only through RST_N or power-off (11 R422): from a module in SAFE with Prism stopped and no mode asked for, no
command but RST_N_ASSERT and LOGIC_SUPPLY_COLLAPSE leaves SAFE, lets Prism release a word or asks for a mode; and in SAFE a commit
releases nothing.
Model choices that it rests on: log entry 57. -/
def Obligations.SafeStays : Prop :=
  (∀ (c : Instr) (s t : State), s.modl.mode = .safe → s.modl.prismStop = true → s.modl.nextMode = none → s.modl.rst = false →
    c ≠ .rstNAssert → c ≠ .logicSupplyCollapse → exec c s = .next t →
    t.modl.mode = .safe ∧ t.modl.prismStop = true ∧ t.modl.nextMode = none ∧ t.modl.rst = false) ∧
  (∀ s t : State, s.modl.prismStop = true → exec .commit s = .next t →
    t.db = s.db ∧ t.fio = s.fio ∧ t.mem = s.mem ∧ t.scan.verdicts = s.scan.verdicts ∧ t.scan.snap = s.scan.snap ∧ t.jrnl = s.jrnl)
end

