-- ==== Sys2Proof/Laws/State.lean ====
section
/-!
SUPPORT. What each elementary operation leaves of the state: one lemma per field, true by unfolding.
-/

namespace Sys2Proof.Machine

variable (s : State)

/-! ## A register written -/

@[simp] theorem wr_pending (r : Row) (v b i : Nat) : (wr s r v b i).pending = s.pending := rfl
@[simp] theorem wr_mem (r : Row) (v b i : Nat) : (wr s r v b i).mem = s.mem := rfl
@[simp] theorem wr_clk (r : Row) (v b i : Nat) : (wr s r v b i).clk = s.clk := rfl
@[simp] theorem wr_modl (r : Row) (v b i : Nat) : (wr s r v b i).modl = s.modl := rfl
@[simp] theorem wr_faults (r : Row) (v b i : Nat) : (wr s r v b i).faults = s.faults := rfl
@[simp] theorem wr_scan (r : Row) (v b i : Nat) : (wr s r v b i).scan = s.scan := rfl
@[simp] theorem wr_lanes (r : Row) (v b i : Nat) : (wr s r v b i).lanes = s.lanes := rfl
@[simp] theorem wr_luosh (r : Row) (v b i : Nat) : (wr s r v b i).luosh = s.luosh := rfl
@[simp] theorem wr_psl (r : Row) (v b i : Nat) : (wr s r v b i).psl = s.psl := rfl
@[simp] theorem wr_pair (r : Row) (v b i : Nat) : (wr s r v b i).pair = s.pair := rfl
@[simp] theorem wr_cx (r : Row) (v b i : Nat) : (wr s r v b i).cx = s.cx := rfl
@[simp] theorem wr_db (r : Row) (v b i : Nat) : (wr s r v b i).db = s.db := rfl
@[simp] theorem wr_fio (r : Row) (v b i : Nat) : (wr s r v b i).fio = s.fio := rfl
@[simp] theorem wr_time (r : Row) (v b i : Nat) : (wr s r v b i).time = s.time := rfl
@[simp] theorem wr_degr (r : Row) (v b i : Nat) : (wr s r v b i).degr = s.degr := rfl
@[simp] theorem wr_repair (r : Row) (v b i : Nat) : (wr s r v b i).repair = s.repair := rfl
@[simp] theorem wr_aon (r : Row) (v b i : Nat) : (wr s r v b i).aon = s.aon := rfl
@[simp] theorem wr_keeper (r : Row) (v b i : Nat) : (wr s r v b i).keeper = s.keeper := rfl
@[simp] theorem wr_bridge (r : Row) (v b i : Nat) : (wr s r v b i).bridge = s.bridge := rfl
@[simp] theorem wr_dma (r : Row) (v b i : Nat) : (wr s r v b i).dma = s.dma := rfl
@[simp] theorem wr_jrnl (r : Row) (v b i : Nat) : (wr s r v b i).jrnl = s.jrnl := rfl
@[simp] theorem wr_hinge (r : Row) (v b i : Nat) : (wr s r v b i).hinge = s.hinge := rfl
@[simp] theorem wr_out (r : Row) (v b i : Nat) : (wr s r v b i).out = s.out := rfl
@[simp] theorem wr_free (r : Row) (v b i : Nat) : (wr s r v b i).free = s.free := rfl

/-! ## A register of a lane written -/

@[simp] theorem wrL_pending (r : Row) (l : Lane) (v i : Nat) : (wrL s r l v i).pending = s.pending := rfl
@[simp] theorem wrL_mem (r : Row) (l : Lane) (v i : Nat) : (wrL s r l v i).mem = s.mem := rfl
@[simp] theorem wrL_clk (r : Row) (l : Lane) (v i : Nat) : (wrL s r l v i).clk = s.clk := rfl
@[simp] theorem wrL_modl (r : Row) (l : Lane) (v i : Nat) : (wrL s r l v i).modl = s.modl := rfl
@[simp] theorem wrL_faults (r : Row) (l : Lane) (v i : Nat) : (wrL s r l v i).faults = s.faults := rfl
@[simp] theorem wrL_scan (r : Row) (l : Lane) (v i : Nat) : (wrL s r l v i).scan = s.scan := rfl
@[simp] theorem wrL_lanes (r : Row) (l : Lane) (v i : Nat) : (wrL s r l v i).lanes = s.lanes := rfl
@[simp] theorem wrL_luosh (r : Row) (l : Lane) (v i : Nat) : (wrL s r l v i).luosh = s.luosh := rfl
@[simp] theorem wrL_psl (r : Row) (l : Lane) (v i : Nat) : (wrL s r l v i).psl = s.psl := rfl
@[simp] theorem wrL_pair (r : Row) (l : Lane) (v i : Nat) : (wrL s r l v i).pair = s.pair := rfl
@[simp] theorem wrL_cx (r : Row) (l : Lane) (v i : Nat) : (wrL s r l v i).cx = s.cx := rfl
@[simp] theorem wrL_db (r : Row) (l : Lane) (v i : Nat) : (wrL s r l v i).db = s.db := rfl
@[simp] theorem wrL_fio (r : Row) (l : Lane) (v i : Nat) : (wrL s r l v i).fio = s.fio := rfl
@[simp] theorem wrL_time (r : Row) (l : Lane) (v i : Nat) : (wrL s r l v i).time = s.time := rfl
@[simp] theorem wrL_degr (r : Row) (l : Lane) (v i : Nat) : (wrL s r l v i).degr = s.degr := rfl
@[simp] theorem wrL_repair (r : Row) (l : Lane) (v i : Nat) : (wrL s r l v i).repair = s.repair := rfl
@[simp] theorem wrL_aon (r : Row) (l : Lane) (v i : Nat) : (wrL s r l v i).aon = s.aon := rfl
@[simp] theorem wrL_keeper (r : Row) (l : Lane) (v i : Nat) : (wrL s r l v i).keeper = s.keeper := rfl
@[simp] theorem wrL_bridge (r : Row) (l : Lane) (v i : Nat) : (wrL s r l v i).bridge = s.bridge := rfl
@[simp] theorem wrL_dma (r : Row) (l : Lane) (v i : Nat) : (wrL s r l v i).dma = s.dma := rfl
@[simp] theorem wrL_jrnl (r : Row) (l : Lane) (v i : Nat) : (wrL s r l v i).jrnl = s.jrnl := rfl
@[simp] theorem wrL_hinge (r : Row) (l : Lane) (v i : Nat) : (wrL s r l v i).hinge = s.hinge := rfl
@[simp] theorem wrL_out (r : Row) (l : Lane) (v i : Nat) : (wrL s r l v i).out = s.out := rfl
@[simp] theorem wrL_free (r : Row) (l : Lane) (v i : Nat) : (wrL s r l v i).free = s.free := rfl

/-! ## A register written in all lanes -/

@[simp] theorem wrAll_pending (r : Row) (v i : Nat) : (wrAll s r v i).pending = s.pending := rfl
@[simp] theorem wrAll_mem (r : Row) (v i : Nat) : (wrAll s r v i).mem = s.mem := rfl
@[simp] theorem wrAll_clk (r : Row) (v i : Nat) : (wrAll s r v i).clk = s.clk := rfl
@[simp] theorem wrAll_modl (r : Row) (v i : Nat) : (wrAll s r v i).modl = s.modl := rfl
@[simp] theorem wrAll_faults (r : Row) (v i : Nat) : (wrAll s r v i).faults = s.faults := rfl
@[simp] theorem wrAll_scan (r : Row) (v i : Nat) : (wrAll s r v i).scan = s.scan := rfl
@[simp] theorem wrAll_lanes (r : Row) (v i : Nat) : (wrAll s r v i).lanes = s.lanes := rfl
@[simp] theorem wrAll_luosh (r : Row) (v i : Nat) : (wrAll s r v i).luosh = s.luosh := rfl
@[simp] theorem wrAll_psl (r : Row) (v i : Nat) : (wrAll s r v i).psl = s.psl := rfl
@[simp] theorem wrAll_pair (r : Row) (v i : Nat) : (wrAll s r v i).pair = s.pair := rfl
@[simp] theorem wrAll_cx (r : Row) (v i : Nat) : (wrAll s r v i).cx = s.cx := rfl
@[simp] theorem wrAll_db (r : Row) (v i : Nat) : (wrAll s r v i).db = s.db := rfl
@[simp] theorem wrAll_fio (r : Row) (v i : Nat) : (wrAll s r v i).fio = s.fio := rfl
@[simp] theorem wrAll_time (r : Row) (v i : Nat) : (wrAll s r v i).time = s.time := rfl
@[simp] theorem wrAll_degr (r : Row) (v i : Nat) : (wrAll s r v i).degr = s.degr := rfl
@[simp] theorem wrAll_repair (r : Row) (v i : Nat) : (wrAll s r v i).repair = s.repair := rfl
@[simp] theorem wrAll_aon (r : Row) (v i : Nat) : (wrAll s r v i).aon = s.aon := rfl
@[simp] theorem wrAll_keeper (r : Row) (v i : Nat) : (wrAll s r v i).keeper = s.keeper := rfl
@[simp] theorem wrAll_bridge (r : Row) (v i : Nat) : (wrAll s r v i).bridge = s.bridge := rfl
@[simp] theorem wrAll_dma (r : Row) (v i : Nat) : (wrAll s r v i).dma = s.dma := rfl
@[simp] theorem wrAll_jrnl (r : Row) (v i : Nat) : (wrAll s r v i).jrnl = s.jrnl := rfl
@[simp] theorem wrAll_hinge (r : Row) (v i : Nat) : (wrAll s r v i).hinge = s.hinge := rfl
@[simp] theorem wrAll_out (r : Row) (v i : Nat) : (wrAll s r v i).out = s.out := rfl
@[simp] theorem wrAll_free (r : Row) (v i : Nat) : (wrAll s r v i).free = s.free := rfl

/-! ## A byte of memory written -/

@[simp] theorem wb_pending (m : Region) (o : Nat) (v : Byte) : (wb s m o v).pending = s.pending := rfl
@[simp] theorem wb_regs (m : Region) (o : Nat) (v : Byte) : (wb s m o v).regs = s.regs := rfl
@[simp] theorem wb_clk (m : Region) (o : Nat) (v : Byte) : (wb s m o v).clk = s.clk := rfl
@[simp] theorem wb_modl (m : Region) (o : Nat) (v : Byte) : (wb s m o v).modl = s.modl := rfl
@[simp] theorem wb_faults (m : Region) (o : Nat) (v : Byte) : (wb s m o v).faults = s.faults := rfl
@[simp] theorem wb_scan (m : Region) (o : Nat) (v : Byte) : (wb s m o v).scan = s.scan := rfl
@[simp] theorem wb_lanes (m : Region) (o : Nat) (v : Byte) : (wb s m o v).lanes = s.lanes := rfl
@[simp] theorem wb_luosh (m : Region) (o : Nat) (v : Byte) : (wb s m o v).luosh = s.luosh := rfl
@[simp] theorem wb_psl (m : Region) (o : Nat) (v : Byte) : (wb s m o v).psl = s.psl := rfl
@[simp] theorem wb_pair (m : Region) (o : Nat) (v : Byte) : (wb s m o v).pair = s.pair := rfl
@[simp] theorem wb_cx (m : Region) (o : Nat) (v : Byte) : (wb s m o v).cx = s.cx := rfl
@[simp] theorem wb_db (m : Region) (o : Nat) (v : Byte) : (wb s m o v).db = s.db := rfl
@[simp] theorem wb_fio (m : Region) (o : Nat) (v : Byte) : (wb s m o v).fio = s.fio := rfl
@[simp] theorem wb_time (m : Region) (o : Nat) (v : Byte) : (wb s m o v).time = s.time := rfl
@[simp] theorem wb_degr (m : Region) (o : Nat) (v : Byte) : (wb s m o v).degr = s.degr := rfl
@[simp] theorem wb_repair (m : Region) (o : Nat) (v : Byte) : (wb s m o v).repair = s.repair := rfl
@[simp] theorem wb_aon (m : Region) (o : Nat) (v : Byte) : (wb s m o v).aon = s.aon := rfl
@[simp] theorem wb_keeper (m : Region) (o : Nat) (v : Byte) : (wb s m o v).keeper = s.keeper := rfl
@[simp] theorem wb_bridge (m : Region) (o : Nat) (v : Byte) : (wb s m o v).bridge = s.bridge := rfl
@[simp] theorem wb_dma (m : Region) (o : Nat) (v : Byte) : (wb s m o v).dma = s.dma := rfl
@[simp] theorem wb_jrnl (m : Region) (o : Nat) (v : Byte) : (wb s m o v).jrnl = s.jrnl := rfl
@[simp] theorem wb_hinge (m : Region) (o : Nat) (v : Byte) : (wb s m o v).hinge = s.hinge := rfl
@[simp] theorem wb_out (m : Region) (o : Nat) (v : Byte) : (wb s m o v).out = s.out := rfl
@[simp] theorem wb_free (m : Region) (o : Nat) (v : Byte) : (wb s m o v).free = s.free := rfl

/-! ## A memory area cleared -/

@[simp] theorem clearMem_pending (m : Region) (o n : Nat) : (clearMem s m o n).pending = s.pending := rfl
@[simp] theorem clearMem_regs (m : Region) (o n : Nat) : (clearMem s m o n).regs = s.regs := rfl
@[simp] theorem clearMem_clk (m : Region) (o n : Nat) : (clearMem s m o n).clk = s.clk := rfl
@[simp] theorem clearMem_modl (m : Region) (o n : Nat) : (clearMem s m o n).modl = s.modl := rfl
@[simp] theorem clearMem_faults (m : Region) (o n : Nat) : (clearMem s m o n).faults = s.faults := rfl
@[simp] theorem clearMem_scan (m : Region) (o n : Nat) : (clearMem s m o n).scan = s.scan := rfl
@[simp] theorem clearMem_lanes (m : Region) (o n : Nat) : (clearMem s m o n).lanes = s.lanes := rfl
@[simp] theorem clearMem_luosh (m : Region) (o n : Nat) : (clearMem s m o n).luosh = s.luosh := rfl
@[simp] theorem clearMem_psl (m : Region) (o n : Nat) : (clearMem s m o n).psl = s.psl := rfl
@[simp] theorem clearMem_pair (m : Region) (o n : Nat) : (clearMem s m o n).pair = s.pair := rfl
@[simp] theorem clearMem_cx (m : Region) (o n : Nat) : (clearMem s m o n).cx = s.cx := rfl
@[simp] theorem clearMem_db (m : Region) (o n : Nat) : (clearMem s m o n).db = s.db := rfl
@[simp] theorem clearMem_fio (m : Region) (o n : Nat) : (clearMem s m o n).fio = s.fio := rfl
@[simp] theorem clearMem_time (m : Region) (o n : Nat) : (clearMem s m o n).time = s.time := rfl
@[simp] theorem clearMem_degr (m : Region) (o n : Nat) : (clearMem s m o n).degr = s.degr := rfl
@[simp] theorem clearMem_repair (m : Region) (o n : Nat) : (clearMem s m o n).repair = s.repair := rfl
@[simp] theorem clearMem_aon (m : Region) (o n : Nat) : (clearMem s m o n).aon = s.aon := rfl
@[simp] theorem clearMem_keeper (m : Region) (o n : Nat) : (clearMem s m o n).keeper = s.keeper := rfl
@[simp] theorem clearMem_bridge (m : Region) (o n : Nat) : (clearMem s m o n).bridge = s.bridge := rfl
@[simp] theorem clearMem_dma (m : Region) (o n : Nat) : (clearMem s m o n).dma = s.dma := rfl
@[simp] theorem clearMem_jrnl (m : Region) (o n : Nat) : (clearMem s m o n).jrnl = s.jrnl := rfl
@[simp] theorem clearMem_hinge (m : Region) (o n : Nat) : (clearMem s m o n).hinge = s.hinge := rfl
@[simp] theorem clearMem_out (m : Region) (o n : Nat) : (clearMem s m o n).out = s.out := rfl
@[simp] theorem clearMem_free (m : Region) (o n : Nat) : (clearMem s m o n).free = s.free := rfl

/-! ## A memory area copied -/

@[simp] theorem copyMem_pending (m1 : Region) (o1 : Nat) (m2 : Region) (o2 n : Nat) : (copyMem s m1 o1 m2 o2 n).pending = s.pending := rfl
@[simp] theorem copyMem_regs (m1 : Region) (o1 : Nat) (m2 : Region) (o2 n : Nat) : (copyMem s m1 o1 m2 o2 n).regs = s.regs := rfl
@[simp] theorem copyMem_clk (m1 : Region) (o1 : Nat) (m2 : Region) (o2 n : Nat) : (copyMem s m1 o1 m2 o2 n).clk = s.clk := rfl
@[simp] theorem copyMem_modl (m1 : Region) (o1 : Nat) (m2 : Region) (o2 n : Nat) : (copyMem s m1 o1 m2 o2 n).modl = s.modl := rfl
@[simp] theorem copyMem_faults (m1 : Region) (o1 : Nat) (m2 : Region) (o2 n : Nat) : (copyMem s m1 o1 m2 o2 n).faults = s.faults := rfl
@[simp] theorem copyMem_scan (m1 : Region) (o1 : Nat) (m2 : Region) (o2 n : Nat) : (copyMem s m1 o1 m2 o2 n).scan = s.scan := rfl
@[simp] theorem copyMem_lanes (m1 : Region) (o1 : Nat) (m2 : Region) (o2 n : Nat) : (copyMem s m1 o1 m2 o2 n).lanes = s.lanes := rfl
@[simp] theorem copyMem_luosh (m1 : Region) (o1 : Nat) (m2 : Region) (o2 n : Nat) : (copyMem s m1 o1 m2 o2 n).luosh = s.luosh := rfl
@[simp] theorem copyMem_psl (m1 : Region) (o1 : Nat) (m2 : Region) (o2 n : Nat) : (copyMem s m1 o1 m2 o2 n).psl = s.psl := rfl
@[simp] theorem copyMem_pair (m1 : Region) (o1 : Nat) (m2 : Region) (o2 n : Nat) : (copyMem s m1 o1 m2 o2 n).pair = s.pair := rfl
@[simp] theorem copyMem_cx (m1 : Region) (o1 : Nat) (m2 : Region) (o2 n : Nat) : (copyMem s m1 o1 m2 o2 n).cx = s.cx := rfl
@[simp] theorem copyMem_db (m1 : Region) (o1 : Nat) (m2 : Region) (o2 n : Nat) : (copyMem s m1 o1 m2 o2 n).db = s.db := rfl
@[simp] theorem copyMem_fio (m1 : Region) (o1 : Nat) (m2 : Region) (o2 n : Nat) : (copyMem s m1 o1 m2 o2 n).fio = s.fio := rfl
@[simp] theorem copyMem_time (m1 : Region) (o1 : Nat) (m2 : Region) (o2 n : Nat) : (copyMem s m1 o1 m2 o2 n).time = s.time := rfl
@[simp] theorem copyMem_degr (m1 : Region) (o1 : Nat) (m2 : Region) (o2 n : Nat) : (copyMem s m1 o1 m2 o2 n).degr = s.degr := rfl
@[simp] theorem copyMem_repair (m1 : Region) (o1 : Nat) (m2 : Region) (o2 n : Nat) : (copyMem s m1 o1 m2 o2 n).repair = s.repair := rfl
@[simp] theorem copyMem_aon (m1 : Region) (o1 : Nat) (m2 : Region) (o2 n : Nat) : (copyMem s m1 o1 m2 o2 n).aon = s.aon := rfl
@[simp] theorem copyMem_keeper (m1 : Region) (o1 : Nat) (m2 : Region) (o2 n : Nat) : (copyMem s m1 o1 m2 o2 n).keeper = s.keeper := rfl
@[simp] theorem copyMem_bridge (m1 : Region) (o1 : Nat) (m2 : Region) (o2 n : Nat) : (copyMem s m1 o1 m2 o2 n).bridge = s.bridge := rfl
@[simp] theorem copyMem_dma (m1 : Region) (o1 : Nat) (m2 : Region) (o2 n : Nat) : (copyMem s m1 o1 m2 o2 n).dma = s.dma := rfl
@[simp] theorem copyMem_jrnl (m1 : Region) (o1 : Nat) (m2 : Region) (o2 n : Nat) : (copyMem s m1 o1 m2 o2 n).jrnl = s.jrnl := rfl
@[simp] theorem copyMem_hinge (m1 : Region) (o1 : Nat) (m2 : Region) (o2 n : Nat) : (copyMem s m1 o1 m2 o2 n).hinge = s.hinge := rfl
@[simp] theorem copyMem_out (m1 : Region) (o1 : Nat) (m2 : Region) (o2 n : Nat) : (copyMem s m1 o1 m2 o2 n).out = s.out := rfl
@[simp] theorem copyMem_free (m1 : Region) (o1 : Nat) (m2 : Region) (o2 n : Nat) : (copyMem s m1 o1 m2 o2 n).free = s.free := rfl

/-! ## A flag set by hardware -/

@[simp] theorem setFlag_pending (r : Row) (m b i : Nat) : (setFlag s r m b i).pending = s.pending := rfl
@[simp] theorem setFlag_mem (r : Row) (m b i : Nat) : (setFlag s r m b i).mem = s.mem := rfl
@[simp] theorem setFlag_modl (r : Row) (m b i : Nat) : (setFlag s r m b i).modl = s.modl := rfl
@[simp] theorem setFlag_faults (r : Row) (m b i : Nat) : (setFlag s r m b i).faults = s.faults := rfl
@[simp] theorem setFlag_scan (r : Row) (m b i : Nat) : (setFlag s r m b i).scan = s.scan := rfl
@[simp] theorem setFlag_lanes (r : Row) (m b i : Nat) : (setFlag s r m b i).lanes = s.lanes := rfl
@[simp] theorem setFlag_luosh (r : Row) (m b i : Nat) : (setFlag s r m b i).luosh = s.luosh := rfl
@[simp] theorem setFlag_psl (r : Row) (m b i : Nat) : (setFlag s r m b i).psl = s.psl := rfl
@[simp] theorem setFlag_pair (r : Row) (m b i : Nat) : (setFlag s r m b i).pair = s.pair := rfl
@[simp] theorem setFlag_cx (r : Row) (m b i : Nat) : (setFlag s r m b i).cx = s.cx := rfl
@[simp] theorem setFlag_db (r : Row) (m b i : Nat) : (setFlag s r m b i).db = s.db := rfl
@[simp] theorem setFlag_fio (r : Row) (m b i : Nat) : (setFlag s r m b i).fio = s.fio := rfl
@[simp] theorem setFlag_time (r : Row) (m b i : Nat) : (setFlag s r m b i).time = s.time := rfl
@[simp] theorem setFlag_degr (r : Row) (m b i : Nat) : (setFlag s r m b i).degr = s.degr := rfl
@[simp] theorem setFlag_repair (r : Row) (m b i : Nat) : (setFlag s r m b i).repair = s.repair := rfl
@[simp] theorem setFlag_aon (r : Row) (m b i : Nat) : (setFlag s r m b i).aon = s.aon := rfl
@[simp] theorem setFlag_keeper (r : Row) (m b i : Nat) : (setFlag s r m b i).keeper = s.keeper := rfl
@[simp] theorem setFlag_bridge (r : Row) (m b i : Nat) : (setFlag s r m b i).bridge = s.bridge := rfl
@[simp] theorem setFlag_dma (r : Row) (m b i : Nat) : (setFlag s r m b i).dma = s.dma := rfl
@[simp] theorem setFlag_jrnl (r : Row) (m b i : Nat) : (setFlag s r m b i).jrnl = s.jrnl := rfl
@[simp] theorem setFlag_hinge (r : Row) (m b i : Nat) : (setFlag s r m b i).hinge = s.hinge := rfl
@[simp] theorem setFlag_out (r : Row) (m b i : Nat) : (setFlag s r m b i).out = s.out := rfl
@[simp] theorem setFlag_free (r : Row) (m b i : Nat) : (setFlag s r m b i).free = s.free := rfl

/-! ## A count or extreme changed by hardware -/

@[simp] theorem rcOne_pending (r : Row) (f : Nat → Nat) (i b : Nat) : (rcOne s r f i b).pending = s.pending := rfl
@[simp] theorem rcOne_mem (r : Row) (f : Nat → Nat) (i b : Nat) : (rcOne s r f i b).mem = s.mem := rfl
@[simp] theorem rcOne_modl (r : Row) (f : Nat → Nat) (i b : Nat) : (rcOne s r f i b).modl = s.modl := rfl
@[simp] theorem rcOne_faults (r : Row) (f : Nat → Nat) (i b : Nat) : (rcOne s r f i b).faults = s.faults := rfl
@[simp] theorem rcOne_scan (r : Row) (f : Nat → Nat) (i b : Nat) : (rcOne s r f i b).scan = s.scan := rfl
@[simp] theorem rcOne_lanes (r : Row) (f : Nat → Nat) (i b : Nat) : (rcOne s r f i b).lanes = s.lanes := rfl
@[simp] theorem rcOne_luosh (r : Row) (f : Nat → Nat) (i b : Nat) : (rcOne s r f i b).luosh = s.luosh := rfl
@[simp] theorem rcOne_psl (r : Row) (f : Nat → Nat) (i b : Nat) : (rcOne s r f i b).psl = s.psl := rfl
@[simp] theorem rcOne_pair (r : Row) (f : Nat → Nat) (i b : Nat) : (rcOne s r f i b).pair = s.pair := rfl
@[simp] theorem rcOne_cx (r : Row) (f : Nat → Nat) (i b : Nat) : (rcOne s r f i b).cx = s.cx := rfl
@[simp] theorem rcOne_db (r : Row) (f : Nat → Nat) (i b : Nat) : (rcOne s r f i b).db = s.db := rfl
@[simp] theorem rcOne_fio (r : Row) (f : Nat → Nat) (i b : Nat) : (rcOne s r f i b).fio = s.fio := rfl
@[simp] theorem rcOne_time (r : Row) (f : Nat → Nat) (i b : Nat) : (rcOne s r f i b).time = s.time := rfl
@[simp] theorem rcOne_degr (r : Row) (f : Nat → Nat) (i b : Nat) : (rcOne s r f i b).degr = s.degr := rfl
@[simp] theorem rcOne_repair (r : Row) (f : Nat → Nat) (i b : Nat) : (rcOne s r f i b).repair = s.repair := rfl
@[simp] theorem rcOne_aon (r : Row) (f : Nat → Nat) (i b : Nat) : (rcOne s r f i b).aon = s.aon := rfl
@[simp] theorem rcOne_keeper (r : Row) (f : Nat → Nat) (i b : Nat) : (rcOne s r f i b).keeper = s.keeper := rfl
@[simp] theorem rcOne_bridge (r : Row) (f : Nat → Nat) (i b : Nat) : (rcOne s r f i b).bridge = s.bridge := rfl
@[simp] theorem rcOne_dma (r : Row) (f : Nat → Nat) (i b : Nat) : (rcOne s r f i b).dma = s.dma := rfl
@[simp] theorem rcOne_jrnl (r : Row) (f : Nat → Nat) (i b : Nat) : (rcOne s r f i b).jrnl = s.jrnl := rfl
@[simp] theorem rcOne_hinge (r : Row) (f : Nat → Nat) (i b : Nat) : (rcOne s r f i b).hinge = s.hinge := rfl
@[simp] theorem rcOne_out (r : Row) (f : Nat → Nat) (i b : Nat) : (rcOne s r f i b).out = s.out := rfl
@[simp] theorem rcOne_free (r : Row) (f : Nat → Nat) (i b : Nat) : (rcOne s r f i b).free = s.free := rfl

/-! ## One lane changed -/

@[simp] theorem setLane_pending (l : Lane) (f : LaneSt → LaneSt) : (setLane s l f).pending = s.pending := rfl
@[simp] theorem setLane_regs (l : Lane) (f : LaneSt → LaneSt) : (setLane s l f).regs = s.regs := rfl
@[simp] theorem setLane_mem (l : Lane) (f : LaneSt → LaneSt) : (setLane s l f).mem = s.mem := rfl
@[simp] theorem setLane_marks (l : Lane) (f : LaneSt → LaneSt) : (setLane s l f).marks = s.marks := rfl
@[simp] theorem setLane_clk (l : Lane) (f : LaneSt → LaneSt) : (setLane s l f).clk = s.clk := rfl
@[simp] theorem setLane_modl (l : Lane) (f : LaneSt → LaneSt) : (setLane s l f).modl = s.modl := rfl
@[simp] theorem setLane_faults (l : Lane) (f : LaneSt → LaneSt) : (setLane s l f).faults = s.faults := rfl
@[simp] theorem setLane_scan (l : Lane) (f : LaneSt → LaneSt) : (setLane s l f).scan = s.scan := rfl
@[simp] theorem setLane_luosh (l : Lane) (f : LaneSt → LaneSt) : (setLane s l f).luosh = s.luosh := rfl
@[simp] theorem setLane_psl (l : Lane) (f : LaneSt → LaneSt) : (setLane s l f).psl = s.psl := rfl
@[simp] theorem setLane_pair (l : Lane) (f : LaneSt → LaneSt) : (setLane s l f).pair = s.pair := rfl
@[simp] theorem setLane_cx (l : Lane) (f : LaneSt → LaneSt) : (setLane s l f).cx = s.cx := rfl
@[simp] theorem setLane_db (l : Lane) (f : LaneSt → LaneSt) : (setLane s l f).db = s.db := rfl
@[simp] theorem setLane_fio (l : Lane) (f : LaneSt → LaneSt) : (setLane s l f).fio = s.fio := rfl
@[simp] theorem setLane_time (l : Lane) (f : LaneSt → LaneSt) : (setLane s l f).time = s.time := rfl
@[simp] theorem setLane_degr (l : Lane) (f : LaneSt → LaneSt) : (setLane s l f).degr = s.degr := rfl
@[simp] theorem setLane_repair (l : Lane) (f : LaneSt → LaneSt) : (setLane s l f).repair = s.repair := rfl
@[simp] theorem setLane_aon (l : Lane) (f : LaneSt → LaneSt) : (setLane s l f).aon = s.aon := rfl
@[simp] theorem setLane_keeper (l : Lane) (f : LaneSt → LaneSt) : (setLane s l f).keeper = s.keeper := rfl
@[simp] theorem setLane_bridge (l : Lane) (f : LaneSt → LaneSt) : (setLane s l f).bridge = s.bridge := rfl
@[simp] theorem setLane_dma (l : Lane) (f : LaneSt → LaneSt) : (setLane s l f).dma = s.dma := rfl
@[simp] theorem setLane_jrnl (l : Lane) (f : LaneSt → LaneSt) : (setLane s l f).jrnl = s.jrnl := rfl
@[simp] theorem setLane_hinge (l : Lane) (f : LaneSt → LaneSt) : (setLane s l f).hinge = s.hinge := rfl
@[simp] theorem setLane_out (l : Lane) (f : LaneSt → LaneSt) : (setLane s l f).out = s.out := rfl
@[simp] theorem setLane_free (l : Lane) (f : LaneSt → LaneSt) : (setLane s l f).free = s.free := rfl

/-! ## Something sent -/

@[simp] theorem emit_pending (o : Out) : (emit s o).pending = s.pending := rfl
@[simp] theorem emit_regs (o : Out) : (emit s o).regs = s.regs := rfl
@[simp] theorem emit_mem (o : Out) : (emit s o).mem = s.mem := rfl
@[simp] theorem emit_marks (o : Out) : (emit s o).marks = s.marks := rfl
@[simp] theorem emit_clk (o : Out) : (emit s o).clk = s.clk := rfl
@[simp] theorem emit_modl (o : Out) : (emit s o).modl = s.modl := rfl
@[simp] theorem emit_faults (o : Out) : (emit s o).faults = s.faults := rfl
@[simp] theorem emit_scan (o : Out) : (emit s o).scan = s.scan := rfl
@[simp] theorem emit_lanes (o : Out) : (emit s o).lanes = s.lanes := rfl
@[simp] theorem emit_luosh (o : Out) : (emit s o).luosh = s.luosh := rfl
@[simp] theorem emit_psl (o : Out) : (emit s o).psl = s.psl := rfl
@[simp] theorem emit_pair (o : Out) : (emit s o).pair = s.pair := rfl
@[simp] theorem emit_cx (o : Out) : (emit s o).cx = s.cx := rfl
@[simp] theorem emit_db (o : Out) : (emit s o).db = s.db := rfl
@[simp] theorem emit_fio (o : Out) : (emit s o).fio = s.fio := rfl
@[simp] theorem emit_time (o : Out) : (emit s o).time = s.time := rfl
@[simp] theorem emit_degr (o : Out) : (emit s o).degr = s.degr := rfl
@[simp] theorem emit_repair (o : Out) : (emit s o).repair = s.repair := rfl
@[simp] theorem emit_aon (o : Out) : (emit s o).aon = s.aon := rfl
@[simp] theorem emit_keeper (o : Out) : (emit s o).keeper = s.keeper := rfl
@[simp] theorem emit_bridge (o : Out) : (emit s o).bridge = s.bridge := rfl
@[simp] theorem emit_dma (o : Out) : (emit s o).dma = s.dma := rfl
@[simp] theorem emit_jrnl (o : Out) : (emit s o).jrnl = s.jrnl := rfl
@[simp] theorem emit_hinge (o : Out) : (emit s o).hinge = s.hinge := rfl
@[simp] theorem emit_free (o : Out) : (emit s o).free = s.free := rfl

/-! ## A fault condition ended -/

@[simp] theorem endCond_pending (code unit : Nat) : (endCond s code unit).pending = s.pending := rfl
@[simp] theorem endCond_regs (code unit : Nat) : (endCond s code unit).regs = s.regs := rfl
@[simp] theorem endCond_mem (code unit : Nat) : (endCond s code unit).mem = s.mem := rfl
@[simp] theorem endCond_marks (code unit : Nat) : (endCond s code unit).marks = s.marks := rfl
@[simp] theorem endCond_clk (code unit : Nat) : (endCond s code unit).clk = s.clk := rfl
@[simp] theorem endCond_modl (code unit : Nat) : (endCond s code unit).modl = s.modl := rfl
@[simp] theorem endCond_scan (code unit : Nat) : (endCond s code unit).scan = s.scan := rfl
@[simp] theorem endCond_lanes (code unit : Nat) : (endCond s code unit).lanes = s.lanes := rfl
@[simp] theorem endCond_luosh (code unit : Nat) : (endCond s code unit).luosh = s.luosh := rfl
@[simp] theorem endCond_psl (code unit : Nat) : (endCond s code unit).psl = s.psl := rfl
@[simp] theorem endCond_pair (code unit : Nat) : (endCond s code unit).pair = s.pair := rfl
@[simp] theorem endCond_cx (code unit : Nat) : (endCond s code unit).cx = s.cx := rfl
@[simp] theorem endCond_db (code unit : Nat) : (endCond s code unit).db = s.db := rfl
@[simp] theorem endCond_fio (code unit : Nat) : (endCond s code unit).fio = s.fio := rfl
@[simp] theorem endCond_time (code unit : Nat) : (endCond s code unit).time = s.time := rfl
@[simp] theorem endCond_degr (code unit : Nat) : (endCond s code unit).degr = s.degr := rfl
@[simp] theorem endCond_repair (code unit : Nat) : (endCond s code unit).repair = s.repair := rfl
@[simp] theorem endCond_aon (code unit : Nat) : (endCond s code unit).aon = s.aon := rfl
@[simp] theorem endCond_keeper (code unit : Nat) : (endCond s code unit).keeper = s.keeper := rfl
@[simp] theorem endCond_bridge (code unit : Nat) : (endCond s code unit).bridge = s.bridge := rfl
@[simp] theorem endCond_dma (code unit : Nat) : (endCond s code unit).dma = s.dma := rfl
@[simp] theorem endCond_jrnl (code unit : Nat) : (endCond s code unit).jrnl = s.jrnl := rfl
@[simp] theorem endCond_hinge (code unit : Nat) : (endCond s code unit).hinge = s.hinge := rfl
@[simp] theorem endCond_out (code unit : Nat) : (endCond s code unit).out = s.out := rfl
@[simp] theorem endCond_free (code unit : Nat) : (endCond s code unit).free = s.free := rfl

/-! ## A count of the Hinge -/

@[simp] theorem hingeCount_pending (a : Nat) : (hingeCount s a).pending = s.pending := rfl
@[simp] theorem hingeCount_regs (a : Nat) : (hingeCount s a).regs = s.regs := rfl
@[simp] theorem hingeCount_mem (a : Nat) : (hingeCount s a).mem = s.mem := rfl
@[simp] theorem hingeCount_marks (a : Nat) : (hingeCount s a).marks = s.marks := rfl
@[simp] theorem hingeCount_modl (a : Nat) : (hingeCount s a).modl = s.modl := rfl
@[simp] theorem hingeCount_faults (a : Nat) : (hingeCount s a).faults = s.faults := rfl
@[simp] theorem hingeCount_scan (a : Nat) : (hingeCount s a).scan = s.scan := rfl
@[simp] theorem hingeCount_lanes (a : Nat) : (hingeCount s a).lanes = s.lanes := rfl
@[simp] theorem hingeCount_luosh (a : Nat) : (hingeCount s a).luosh = s.luosh := rfl
@[simp] theorem hingeCount_psl (a : Nat) : (hingeCount s a).psl = s.psl := rfl
@[simp] theorem hingeCount_pair (a : Nat) : (hingeCount s a).pair = s.pair := rfl
@[simp] theorem hingeCount_cx (a : Nat) : (hingeCount s a).cx = s.cx := rfl
@[simp] theorem hingeCount_db (a : Nat) : (hingeCount s a).db = s.db := rfl
@[simp] theorem hingeCount_fio (a : Nat) : (hingeCount s a).fio = s.fio := rfl
@[simp] theorem hingeCount_time (a : Nat) : (hingeCount s a).time = s.time := rfl
@[simp] theorem hingeCount_degr (a : Nat) : (hingeCount s a).degr = s.degr := rfl
@[simp] theorem hingeCount_repair (a : Nat) : (hingeCount s a).repair = s.repair := rfl
@[simp] theorem hingeCount_aon (a : Nat) : (hingeCount s a).aon = s.aon := rfl
@[simp] theorem hingeCount_keeper (a : Nat) : (hingeCount s a).keeper = s.keeper := rfl
@[simp] theorem hingeCount_bridge (a : Nat) : (hingeCount s a).bridge = s.bridge := rfl
@[simp] theorem hingeCount_dma (a : Nat) : (hingeCount s a).dma = s.dma := rfl
@[simp] theorem hingeCount_jrnl (a : Nat) : (hingeCount s a).jrnl = s.jrnl := rfl
@[simp] theorem hingeCount_out (a : Nat) : (hingeCount s a).out = s.out := rfl
@[simp] theorem hingeCount_free (a : Nat) : (hingeCount s a).free = s.free := rfl

/-! ## What a register write leaves of the marks of the memories -/

@[simp] theorem touchReg_flips (m : MemMarks) (r : Row) (b : Nat) : (m.touchReg r b).flips = m.flips := by
  unfold MemMarks.touchReg; split
  · rfl
  · dsimp only; split <;> rfl
@[simp] theorem touchReg_upTo (m : MemMarks) (r : Row) (b : Nat) : (m.touchReg r b).upTo = m.upTo := by
  unfold MemMarks.touchReg; split
  · rfl
  · dsimp only; split <;> rfl
/-- While no state copy runs, a register write leaves the marks. -/
theorem touchReg_idle (m : MemMarks) (r : Row) (b : Nat) (h : m.upTo = none) : m.touchReg r b = m := by
  unfold MemMarks.touchReg; rw [h]
@[simp] theorem wr_marks (r : Row) (v b i : Nat) : (wr s r v b i).marks = s.marks.touchReg r b := rfl
@[simp] theorem wrL_marks (r : Row) (l : Lane) (v i : Nat) : (wrL s r l v i).marks = s.marks.touchReg r l.idx := rfl
@[simp] theorem setFlag_marks (r : Row) (m b i : Nat) : (setFlag s r m b i).marks = s.marks.touchReg r b := rfl
@[simp] theorem rcOne_marks (r : Row) (f : Nat → Nat) (i b : Nat) : (rcOne s r f i b).marks = s.marks.touchReg r b := rfl

end Sys2Proof.Machine
end

