-- ==== Sys2Proof/Laws/Tab.lean ====
section
/-!
SUPPORT. The laws of sparse tables: what a put changes and what it leaves, and that it keeps the canonical form.
-/

namespace Sys2Proof.Machine

variable {α : Type}

theorem Tab.get_erase_ne (d : α) (t : Tab α) (i j : Nat) (h : j ≠ i) : Tab.get d (Tab.erase t i) j = Tab.get d t j := by
  induction t with
  | nil => rfl
  | cons e t ih =>
    obtain ⟨k, v⟩ := e
    simp only [Tab.erase, Tab.get]
    split
    · rename_i hk; subst hk; simp [Ne.symm h, ih]
    · simp only [Tab.get, ih]

theorem Tab.get_insert_ne (d : α) (t : Tab α) (i j : Nat) (w : α) (h : j ≠ i) :
    Tab.get d (Tab.insert t i w) j = Tab.get d t j := by
  induction t with
  | nil => simp [Tab.insert, Tab.get, Ne.symm h]
  | cons e t ih =>
    obtain ⟨k, v⟩ := e
    simp only [Tab.insert]
    split
    · simp [Tab.get, Ne.symm h]
    · split
      · rename_i hk; subst hk; simp [Tab.get, Ne.symm h]
      · simp only [Tab.get, ih]

theorem Tab.get_insert_self (d : α) (t : Tab α) (i : Nat) (w : α) : Tab.get d (Tab.insert t i w) i = w := by
  induction t with
  | nil => simp [Tab.insert, Tab.get]
  | cons e t ih =>
    obtain ⟨k, v⟩ := e
    simp only [Tab.insert]
    split
    · simp [Tab.get]
    · split
      · rename_i hk; subst hk; simp [Tab.get]
      · rename_i hk; simp [Tab.get, Ne.symm hk, ih]

theorem Tab.sortedFrom_weaken (t : Tab α) (b b' : Option Nat) (hb : ∀ j, b' = some j → ∃ k, b = some k ∧ j ≤ k)
    (h : Tab.sortedFrom b t = true) : Tab.sortedFrom b' t = true := by
  cases t with
  | nil => rfl
  | cons e t =>
    obtain ⟨k, v⟩ := e
    simp only [Tab.sortedFrom, Bool.and_eq_true] at h ⊢
    refine ⟨?_, h.2⟩
    cases b' with
    | none => rfl
    | some j =>
      obtain ⟨k', rfl, hk⟩ := hb j rfl
      simp only [decide_eq_true_eq] at h ⊢
      omega

theorem Tab.get_erase_self (d : α) (t : Tab α) (i : Nat) : Tab.get d (Tab.erase t i) i = d := by
  induction t with
  | nil => rfl
  | cons e t ih =>
    obtain ⟨k, v⟩ := e
    simp only [Tab.erase]
    split
    · exact ih
    · rename_i hk; simp only [Tab.get, hk, if_false]; exact ih

theorem Tab.sortedFrom_erase (t : Tab α) (i : Nat) (b : Option Nat) (h : Tab.sortedFrom b t = true) :
    Tab.sortedFrom b (Tab.erase t i) = true := by
  induction t generalizing b with
  | nil => rfl
  | cons e t ih =>
    obtain ⟨k, v⟩ := e
    simp only [Tab.sortedFrom, Bool.and_eq_true] at h
    simp only [Tab.erase]
    split
    · refine Tab.sortedFrom_weaken _ (some k) b ?_ (ih _ h.2)
      intro j hj; subst hj
      simp only [decide_eq_true_eq] at h
      exact ⟨k, rfl, by omega⟩
    · simp only [Tab.sortedFrom, Bool.and_eq_true]; exact ⟨h.1, ih _ h.2⟩

theorem Tab.sortedFrom_insert (t : Tab α) (i : Nat) (w : α) (b : Option Nat) (hb : ∀ j, b = some j → j < i)
    (h : Tab.sortedFrom b t = true) : Tab.sortedFrom b (Tab.insert t i w) = true := by
  induction t generalizing b with
  | nil => simp only [Tab.insert, Tab.sortedFrom, Bool.and_true]; exact (by cases b with | none => rfl | some j => simpa using hb j rfl)
  | cons e t ih =>
    obtain ⟨k, v⟩ := e
    simp only [Tab.sortedFrom, Bool.and_eq_true] at h
    simp only [Tab.insert]
    split
    · rename_i hk
      simp only [Tab.sortedFrom, Bool.and_eq_true, decide_eq_true_eq]
      exact ⟨(by cases b with | none => rfl | some j => simpa using hb j rfl), hk, h.2⟩
    · split
      · rename_i hk; subst hk; simp only [Tab.sortedFrom, Bool.and_eq_true]; exact ⟨h.1, h.2⟩
      · simp only [Tab.sortedFrom, Bool.and_eq_true]
        refine ⟨h.1, ih (some k) ?_ h.2⟩
        intro j hj; cases hj; omega

theorem Tab.mem_erase {t : Tab α} {i : Nat} {e : Nat × α} (h : e ∈ Tab.erase t i) : e ∈ t := by
  induction t with
  | nil => exact h
  | cons f t ih =>
    obtain ⟨k, v⟩ := f
    simp only [Tab.erase] at h
    split at h
    · exact List.mem_cons_of_mem _ (ih h)
    · rcases List.mem_cons.1 h with rfl | h
      · exact List.mem_cons_self
      · exact List.mem_cons_of_mem _ (ih h)

theorem Tab.mem_insert {t : Tab α} {i : Nat} {w : α} {e : Nat × α} (h : e ∈ Tab.insert t i w) : e = (i, w) ∨ e ∈ t := by
  induction t with
  | nil => simpa [Tab.insert] using h
  | cons f t ih =>
    obtain ⟨k, v⟩ := f
    simp only [Tab.insert] at h
    split at h
    · simpa using h
    · split at h
      · rcases List.mem_cons.1 h with rfl | h
        · exact .inl rfl
        · exact .inr (List.mem_cons_of_mem _ h)
      · rcases List.mem_cons.1 h with rfl | h
        · exact .inr List.mem_cons_self
        · exact (ih h).imp id (List.mem_cons_of_mem _)

theorem Tab.sortedFrom_filter (p : Nat × α → Bool) (t : Tab α) (b : Option Nat) (h : Tab.sortedFrom b t = true) :
    Tab.sortedFrom b (t.filter p) = true := by
  induction t generalizing b with
  | nil => rfl
  | cons e t ih =>
    obtain ⟨k, v⟩ := e
    simp only [Tab.sortedFrom, Bool.and_eq_true] at h
    simp only [List.filter]
    split
    · simp only [Tab.sortedFrom, Bool.and_eq_true]; exact ⟨h.1, ih _ h.2⟩
    · refine Tab.sortedFrom_weaken _ (some k) b ?_ (ih _ h.2)
      intro j hj; subst hj
      simp only [decide_eq_true_eq] at h
      exact ⟨k, rfl, by omega⟩

variable [DecidableEq α]

/-- A put leaves every other key as it was. -/
theorem Tab.get_put_ne (d : α) (t : Tab α) (i j : Nat) (w : α) (h : j ≠ i) : Tab.get d (Tab.put d t i w) j = Tab.get d t j := by
  unfold Tab.put
  split
  · exact Tab.get_erase_ne d t i j h
  · exact Tab.get_insert_ne d t i j w h

/-- A put is read back. -/
theorem Tab.get_put_self (d : α) (t : Tab α) (i : Nat) (w : α) :
    Tab.get d (Tab.put d t i w) i = w := by
  unfold Tab.put
  split
  · rename_i hw; rw [hw]; exact Tab.get_erase_self d t i
  · exact Tab.get_insert_self d t i w

/-- A put keeps the canonical form. -/
theorem Tab.wf_put (d : α) (t : Tab α) (i : Nat) (w : α) (h : Tab.wf d t = true) : Tab.wf d (Tab.put d t i w) = true := by
  simp only [Tab.wf, Bool.and_eq_true, List.all_eq_true, decide_eq_true_eq] at h ⊢
  unfold Tab.put
  split
  · exact ⟨Tab.sortedFrom_erase t i none h.1, fun e he => h.2 e (Tab.mem_erase he)⟩
  · rename_i hw
    refine ⟨Tab.sortedFrom_insert t i w none (by intro j hj; cases hj) h.1, fun e he => ?_⟩
    rcases Tab.mem_insert he with rfl | he
    · exact hw
    · exact h.2 e he

/-- A put keeps the keys rising. -/
theorem Tab.sorted_put (d : α) (t : Tab α) (i : Nat) (w : α) (h : Tab.sortedFrom none t = true) :
    Tab.sortedFrom none (Tab.put d t i w) = true := by
  unfold Tab.put
  split
  · exact Tab.sortedFrom_erase t i none h
  · exact Tab.sortedFrom_insert t i w none (by intro j hj; cases hj) h

/-- Clearing keys keeps the canonical form. -/
theorem Tab.wf_filter (d : α) (p : Nat × α → Bool) (t : Tab α) (h : Tab.wf d t = true) : Tab.wf d (t.filter p) = true := by
  simp only [Tab.wf, Bool.and_eq_true, List.all_eq_true] at h ⊢
  exact ⟨Tab.sortedFrom_filter p t none h.1, fun e he => h.2 e (List.mem_filter.1 he).1⟩

/-- A listed entry is never the default. -/
theorem Tab.wf_insert (d : α) (t : Tab α) (i : Nat) (w : α) (hw : w ≠ d) (h : Tab.wf d t = true) :
    Tab.wf d (Tab.insert t i w) = true := by
  simpa [Tab.put, hw] using Tab.wf_put d t i w h

end Sys2Proof.Machine
end

