-- ==== Sys2Proof/Laws/Ops.lean ====
section
/-!
SUPPORT. The laws of the operations over registers and memories: what a read gives after a write, what a write leaves,
and that each keeps the canonical form.
-/

namespace Sys2Proof.Machine

variable (s : State)

/-! ## Registers -/

/-- A register written reads back, cut to its width. -/
theorem rd_wr_self (r : Row) (v b i : Nat) : rd (wr s r v b i) r b i = v % 2 ^ r.width := by
  simp only [rd, wr, Tab.get_put_self, Nat.mod_mod]

/-- A register field reads below its width. -/
theorem rd_lt (r : Row) (b i : Nat) : rd s r b i < 2 ^ r.width := Nat.mod_lt _ (Nat.two_pow_pos _)

/-- A write leaves every other field, every other bank and every other index. -/
theorem rd_wr_of_ne (r q : Row) (v b i b' i' : Nat) (h : q.id ≠ r.id ∨ b' ≠ b ∨ i' ≠ i) (hr : q.id = r.id → q = r) :
    rd (wr s r v b i) q b' i' = rd s q b' i' := by
  simp only [rd, wr]
  congr 1
  by_cases h1 : q.id = r.id
  · rw [h1, Tab.get_put_self]
    by_cases h2 : b' = b
    · subst h2
      rw [Tab.get_put_self, hr h1]
      exact Tab.get_put_ne _ _ _ _ _ (by rcases h with h | h | h <;> first | exact h | exact absurd rfl h | exact absurd h1 h)
    · rw [Tab.get_put_ne _ _ _ _ _ h2]
  · rw [Tab.get_put_ne _ _ _ _ _ h1]

/-- A write to a field leaves the fields of other numbers. -/
@[simp] theorem rd_wr_other (r q : Row) (v b i b' i' : Nat) (h : q.id ≠ r.id) : rd (wr s r v b i) q b' i' = rd s q b' i' :=
  rd_wr_of_ne s r q v b i b' i' (.inl h) (fun e => absurd e h)

/-- What a register reads after a write to the same field: the value in that bank at that index, else what it did. -/
theorem rd_wr_same (r : Row) (v b i b' i' : Nat) :
    rd (wr s r v b i) r b' i' = if b' = b ∧ i' = i then v % 2 ^ r.width else rd s r b' i' := by
  split
  · rename_i h; rw [h.1, h.2, rd_wr_self]
  · rename_i h
    refine rd_wr_of_ne s r r v b i b' i' ?_ (fun _ => rfl)
    by_cases hb : b' = b
    · exact .inr (.inr fun hi => h ⟨hb, hi⟩)
    · exact .inr (.inl hb)

/-- A register write marks at most the blocks of a state copy under way. -/
theorem touchReg_eq (m : MemMarks) (r : Row) (b : Nat) : m.touchReg r b = { m with dirty := (m.touchReg r b).dirty } := by
  simp only [MemMarks.touchReg]
  split
  · rfl
  · split <;> rfl

/-- A register write leaves everything but the registers and the marks. -/
theorem wr_eq (r : Row) (v b i : Nat) : wr s r v b i =
    { s with regs := (wr s r v b i).regs, clk := (wr s r v b i).clk, marks := { s.marks with dirty := (wr s r v b i).marks.dirty } } :=
  congrArg (fun m => { s with regs := (wr s r v b i).regs, marks := m }) (touchReg_eq s.marks r b)

/-- Nothing but the field has changed. -/
theorem onlyRegs_wr (r : Row) (v b i : Nat) : OnlyRegs [r] s (wr s r v b i) :=
  ⟨wr_eq s r v b i, fun q hq b' i' => rd_wr_other s r q v b i b' i' (hq r (by simp))⟩

/-- A flag that hardware sets holds its bits and keeps its others. -/
theorem rd_setFlag_self (r : Row) (m b i : Nat) : rd (setFlag s r m b i) r b i = Nat.lor (rd s r b i) m % 2 ^ r.width :=
  rd_wr_self s r _ b i

theorem onlyRegs_setFlag (r : Row) (m b i : Nat) : OnlyRegs [r] s (setFlag s r m b i) :=
  ⟨congrArg (fun x => { s with regs := (setFlag s r m b i).regs, clk := (setFlag s r m b i).clk, marks := x }) (touchReg_eq s.marks r b), (onlyRegs_wr s r _ b i).2⟩

/-- A count or extreme that hardware changes holds the value changed. -/
theorem rd_rcOne_self (r : Row) (f : Nat → Nat) (i b : Nat) : rd (rcOne s r f i b) r b i = f (rd s r b i) % 2 ^ r.width :=
  rd_wr_self s r _ b i

theorem onlyRegs_rcOne (r : Row) (f : Nat → Nat) (i b : Nat) : OnlyRegs [r] s (rcOne s r f i b) :=
  ⟨congrArg (fun x => { s with regs := (rcOne s r f i b).regs, clk := (rcOne s r f i b).clk, marks := x }) (touchReg_eq s.marks r b), (onlyRegs_wr s r _ b i).2⟩

theorem OnlyRegs.refl (rows : List Row) : OnlyRegs rows s s := ⟨rfl, fun _ _ _ _ => rfl⟩

theorem OnlyRegs.trans {rows rows' : List Row} {s t u : State} (h1 : OnlyRegs rows s t) (h2 : OnlyRegs rows' t u)
    (hs : ∀ r ∈ rows, r ∈ rows') : OnlyRegs rows' s u := by
  refine ⟨?_, fun r hr b i => ?_⟩
  · rw [h2.1, h1.1]
  · rw [h2.2 r hr b i, h1.2 r (fun q hq => hr q (hs q hq)) b i]

theorem regs_wf_wr (r : Row) (v b i : Nat) (h : Regs.wf s.regs = true) : Regs.wf (wr s r v b i).regs = true := by
  have inner : ∀ (t : Tab (Tab (Tab Nat))) (k : Nat), Regs.wf t = true → Regs.fieldWf (Tab.get [] t k) = true := by
    intro t k ht
    simp only [Regs.wf, Bool.and_eq_true, List.all_eq_true] at ht
    have h2 := ht.2
    clear ht
    induction t with
    | nil => rfl
    | cons e t ih =>
      obtain ⟨k', v'⟩ := e
      simp only [Tab.get]
      split
      · exact h2 (k', v') List.mem_cons_self
      · exact ih fun e he => h2 e (List.mem_cons_of_mem _ he)
  have inner2 : ∀ (t : Tab (Tab Nat)) (k : Nat), Regs.fieldWf t = true → Tab.sortedFrom none (Tab.get [] t k) = true := by
    intro t k ht
    simp only [Regs.fieldWf, Bool.and_eq_true, List.all_eq_true] at ht
    have h2 := ht.2
    clear ht
    induction t with
    | nil => rfl
    | cons e t ih =>
      obtain ⟨k', v'⟩ := e
      simp only [Tab.get]
      split
      · exact h2 (k', v') List.mem_cons_self
      · exact ih fun e he => h2 e (List.mem_cons_of_mem _ he)
  have putAll : ∀ {β : Type} [DecidableEq β] (p : β → Bool) (d : β) (t : Tab β) (k : Nat) (w : β), p w = true →
      (∀ e ∈ t, p e.2 = true) → ∀ e ∈ Tab.put d t k w, p e.2 = true := by
    intro β _ p d t k w hw ht e he
    unfold Tab.put at he
    split at he
    · exact ht e (Tab.mem_erase he)
    · rcases Tab.mem_insert he with rfl | he
      · exact hw
      · exact ht e he
  have h1 := inner _ r.id h
  have h2 := inner2 _ b h1
  simp only [Regs.wf, Bool.and_eq_true, List.all_eq_true] at h ⊢
  simp only [Regs.fieldWf, Bool.and_eq_true, List.all_eq_true] at h1
  refine ⟨Tab.wf_put _ _ _ _ h.1, putAll Regs.fieldWf _ _ _ _ ?_ h.2⟩
  simp only [Regs.fieldWf, Bool.and_eq_true, List.all_eq_true]
  exact ⟨Tab.wf_put _ _ _ _ h1.1, putAll (fun t => Tab.sortedFrom none t) _ _ _ _ (Tab.sorted_put _ _ _ _ h2) h1.2⟩

/-! ## Memories -/

theorem Region.at_inj {m m' : Region} {o o' : Nat} (h : m.at o = m'.at o') : m.idx = m'.idx ∧ o % regionSpan = o' % regionSpan := by
  simp only [Region.at, regionSpan] at *
  omega

/-- The regions in the order of their numbers. -/
def Region.all : List Region :=
  [.laneSram .x, .laneSram .y, .laneSram .z, .image .x, .image .y, .image .z, .progStore .x, .progStore .y, .progStore .z,
   .inst .x, .inst .y, .inst .z, .forceTab .x, .forceTab .y, .forceTab .z, .hndQ .x, .hndQ .y, .hndQ .z,
   .shared, .keeperSram, .mram, .flash, .slotTab, .stnTab, .paramWin, .paramArmed, .bar2, .capData, .hostMem, .hndTx,
   .cmdBuf 0, .cmdBuf 1, .cmdBuf 2, .cmdBuf 3, .rspBuf 0, .rspBuf 1, .rspBuf 2, .rspBuf 3, .msixTab, .frozen, .nfMap, .stnHeld]

theorem Region.all_idx (m : Region) : Region.all[m.idx]? = some m := by
  cases m
  case cmdBuf p => revert p; decide
  case rspBuf p => revert p; decide
  all_goals first | rfl | (rename_i l; cases l <;> rfl)

/-- Two regions of one number are one region. -/
theorem Region.idx_inj {m m' : Region} (h : m.idx = m'.idx) : m = m' :=
  Option.some.inj (by rw [← Region.all_idx m, ← Region.all_idx m', h])

/-- A byte written reads back. -/
theorem rb_wb_self (m : Region) (o : Nat) (v : Byte) : rb (wb s m o v) m o = v := by
  simp only [rb, wb, Tab.get_put_self]

/-- A byte written leaves every other place of the same memory and every other memory. -/
theorem rb_wb_ne (m m' : Region) (o o' : Nat) (v : Byte) (h : m' ≠ m ∨ o' % regionSpan ≠ o % regionSpan) :
    rb (wb s m o v) m' o' = rb s m' o' := by
  simp only [rb, wb]
  refine Tab.get_put_ne _ _ _ _ _ fun e => ?_
  have := Region.at_inj e
  rcases h with h | h
  · exact h (Region.idx_inj this.1)
  · exact h this.2

theorem mem_wf_wb (m : Region) (o : Nat) (v : Byte) (h : Memory.wf s.mem = true) : Memory.wf (wb s m o v).mem = true :=
  Tab.wf_put _ _ _ _ h

theorem mem_wf_wbs (m : Region) (o : Nat) (l : List Byte) (h : Memory.wf s.mem = true) :
    Memory.wf (wbs s m o l).mem = true := by
  induction l generalizing s o with
  | nil => exact h
  | cons b l ih => exact ih _ _ (mem_wf_wb s m o b h)

theorem mem_wf_w32 (m : Region) (o v : Nat) (h : Memory.wf s.mem = true) : Memory.wf (w32 s m o v).mem = true :=
  mem_wf_wbs s m o _ h

theorem mem_wf_w64 (m : Region) (o v : Nat) (h : Memory.wf s.mem = true) : Memory.wf (w64 s m o v).mem = true :=
  mem_wf_wbs s m o _ h

theorem mem_wf_clear (m : Region) (o n : Nat) (h : Memory.wf s.mem = true) : Memory.wf (clearMem s m o n).mem = true :=
  Tab.wf_filter _ _ _ h

theorem mem_wf_copy (m1 : Region) (o1 : Nat) (m2 : Region) (o2 n : Nat) (h : Memory.wf s.mem = true) :
    Memory.wf (copyMem s m1 o1 m2 o2 n).mem = true := by
  have : ∀ (src base : Tab Byte), Tab.wf memDefault base = true →
      Tab.wf memDefault (src.foldl (fun m e => Tab.put memDefault m (m2.at o2 + (e.1 - m1.at o1)) e.2) base) = true := by
    intro src
    induction src with
    | nil => exact fun _ h => h
    | cons e src ih => exact fun base hb => ih _ (Tab.wf_put _ _ _ _ hb)
  exact this _ _ (Tab.wf_filter _ _ _ h)

/-- Bytes written leave everything but memory and its marks. -/
theorem wbs_eq (m : Region) (o : Nat) (l : List Byte) : wbs s m o l = { s with mem := (wbs s m o l).mem, marks := (wbs s m o l).marks } := by
  induction l generalizing s o with
  | nil => rfl
  | cons b l ih =>
    simp only [wbs]
    rw [ih]
    rfl

/-- Bytes written read as before outside their place. -/
theorem keepsMemBut_wbs (m : Region) (o : Nat) (l : List Byte) : KeepsMemBut m o l.length s (wbs s m o l) := by
  induction l generalizing s o with
  | nil => exact fun _ _ _ => rfl
  | cons b l ih =>
    intro r off h
    simp only [wbs]
    rw [ih (wb s m o b) (o + 1) r off fun k hk => ?_]
    · exact Tab.get_put_ne _ _ _ _ _ (h 0 (by simp))
    · have := h (k + 1) (by simp; omega)
      rwa [show o + (k + 1) = o + 1 + k by omega] at this

/-- A write keeps as many bytes as it is given: reserved bits of an image are masked, none is left out. -/
@[simp] theorem keptBytes_length (m : Region) (o : Nat) (l : List Byte) : (keptBytes m o l).length = l.length := by
  induction l generalizing o with
  | nil => rfl
  | cons b l ih => simp [keptBytes, ih]

theorem mem_wf_wKept (m : Region) (o : Nat) (l : List Byte) (h : Memory.wf s.mem = true) : Memory.wf (wKept s m o l).mem = true :=
  mem_wf_wbs s m o _ h

/-- Bytes written past the reserved bits read as before outside their place. -/
theorem keepsMemBut_wKept (m : Region) (o : Nat) (l : List Byte) : KeepsMemBut m o l.length s (wKept s m o l) := by
  have := keepsMemBut_wbs s m o (keptBytes m o l)
  rwa [keptBytes_length] at this

/-- The state keeps its form where memory, registers and present flags do. -/
theorem wf_of {s : State} (h1 : Memory.wf s.mem = true) (h2 : Regs.wf s.regs = true)
    (h3 : Tab.wf false s.faults.present = true) : s.wf = true := by
  simp [State.wf, h1, h2, h3]

end Sys2Proof.Machine
end

