-- ==== Sys2Proof/Laws/PerInstr.lean ====
section
/-!
SUPPORT. What the well-formedness check of a command says of its operands, command by command: the bounds it asks, as
propositions that a proof can use.
-/

namespace Sys2Proof.Laws.WellFormed

/-- The fields of a Luosh frame fit their widths (05 R206, Table 5.1). -/
def FrameInWidth (f : Frame) : Prop :=
  f.dst < 2 ^ 48 ∧ f.src < 2 ^ 48 ∧ f.etype < 2 ^ 16 ∧ f.ver < 16 ∧ f.kind < 16 ∧ f.node < 1024 ∧ f.slot < 4096
    ∧ f.cycle < 2 ^ 32 ∧ f.plen < 2048 ∧ f.hchk < 2 ^ 16 ∧ f.hop < 1024 ∧ f.resv < 2 ^ 26 ∧ f.fcs < 2 ^ 32

/-- The fields of a cascade link frame fit their widths (10 Table 10.3). -/
def CxInWidth (f : CxFrame) : Prop :=
  f.ver < 16 ∧ f.kind < 16 ∧ f.src < 4 ∧ f.dst < 4 ∧ f.frag < 256 ∧ f.frags < 256 ∧ f.num < 2 ^ 32 ∧ f.dlen < 65536
    ∧ f.wlen < 65536 ∧ f.state < 256 ∧ f.resv < 4096 ∧ f.data.length ≤ 256 ∧ f.crc < 2 ^ 32

/-- An upset names a word that its memory has (04 R158). -/
def UpsetInWidth (u : Upset) : Prop := u.word < u.mem.words

/-- The operands of a command fit the lines, buses and registers they come from. -/
def InWidth : Instr → Prop
  | .tumblerPass _ image others => ∀ u ∈ image ++ others, UpsetInWidth u
  | .coreDone _ writes upsets => (∀ w ∈ writes, w.1 < 2 ^ 32) ∧ ∀ u ∈ upsets, UpsetInWidth u
  | .scrubSweep _ sram image prog tables => ∀ u ∈ sram ++ image ++ prog ++ tables, UpsetInWidth u
  | .linkFrameRx _ f _ turn => FrameInWidth f ∧ turn < 2 ^ 32
  | .frameForward _ _ f _ hopNs => FrameInWidth f ∧ 312 ≤ hopNs ∧ hopNs ≤ 328
  | .csFrameRx _ f _ => FrameInWidth f
  | .startupFrameRx _ f _ => FrameInWidth f
  | .dataFrameRx _ f _ _ _ => FrameInWidth f
  | .claimFrameRx _ f _ => FrameInWidth f
  | .csFrameTx cycle => cycle < 2 ^ 32
  | .dataSlotTx _ _ cycle => cycle < 2 ^ 32
  | .pslEthDatagramRx ip _ => ip < 2 ^ 32
  | .cascadeSyncRx _ f _ holdNs => CxInWidth f ∧ 392 ≤ holdNs ∧ holdNs ≤ 408
  | .cascadeDataRx _ f => CxInWidth f
  | .cascadeMboxRx _ _ _ f => CxInWidth f
  | .aiConversion _ code _ _ => code < 2 ^ 16
  | .capRdIdxWrite _ v => v < 1024
  | .ptpSyncRx domain t1 => domain < 256 ∧ t1 < 2 ^ 64
  | .ptpAnnounceRx domain utcOffset => domain < 256 ∧ utcOffset < 2 ^ 16
  | .psWinWrite _ off _ => off < 4096 ∧ off % 4 = 0
  | .xferTimeout kind => kind < 256
  | .pcieInboundWrite _ _ data _ => data ≠ []
  | .pcieInboundRead _ _ len _ => 0 < len
  | .lvlAdd _ _ v => v < 2 ^ 32
  | .rcFieldRead _ a => a.1 < 2 ^ 32
  | .registerWrite _ addr _ _ => addr < 2 ^ 32
  | .maintEthLinkUp ip => ip < 2 ^ 32
  | .arpRequestRx ip => ip < 2 ^ 32
  | .icmpEchoRx ip _ => ip < 2 ^ 32
  | .ptpDelayRespRx domain t4 => domain < 256 ∧ t4 < 2 ^ 64
  | .wakeFrameRx _ f => FrameInWidth f
  | _ => True

/-- A command that the check accepts has every operand in its width. -/
def Statement (i : Instr) : Prop := i.wellFormed = true → InWidth i

theorem of_check {p : Prop} {d : Decidable p} (h : @decide p d = true) : p := of_decide_eq_true h

theorem both (a b : Bool) (h : (a && b) = true) : a = true ∧ b = true := (Bool.and_eq_true a b).mp h

theorem not_empty {α : Type} (l : List α) (h : (!l.isEmpty) = true) : l ≠ [] := by
  cases l with
  | nil => exact absurd h Bool.false_ne_true
  | cons => exact List.cons_ne_nil _ _

theorem upsets_width (us : List Upset) (h : us.all Upset.wellFormed = true) : ∀ u ∈ us, UpsetInWidth u :=
  fun u hu => of_check (p := UpsetInWidth u) (List.all_eq_true.mp h u hu)

theorem core_done_width (ws : List (Nat × Word)) (us : List Upset)
    (h : (ws.all (fun w => decide (w.1 < 2 ^ 32)) && us.all Upset.wellFormed) = true) :
    (∀ w ∈ ws, w.1 < 2 ^ 32) ∧ ∀ u ∈ us, UpsetInWidth u :=
  have w := both _ _ h
  ⟨fun x hx => of_decide_eq_true (List.all_eq_true.mp w.1 x hx), upsets_width us w.2⟩

theorem inputFreeze a0 a1 : Statement (.inputFreeze a0 a1) := fun _ => trivial
theorem freezePointPassedOver : Statement .freezePointPassedOver := fun _ => trivial
theorem dbChallengeIrq : Statement .dbChallengeIrq := fun _ => trivial
theorem tumblerPass a0 a1 a2 : Statement (.tumblerPass a0 a1 a2) := fun h => upsets_width _ h
theorem tumblerPassEnd a0 : Statement (.tumblerPassEnd a0) := fun _ => trivial
theorem coreDone a0 a1 a2 : Statement (.coreDone a0 a1 a2) := fun h => core_done_width _ _ h
theorem coreBudgetExceeded a0 : Statement (.coreBudgetExceeded a0) := fun _ => trivial
theorem votePoint : Statement .votePoint := fun _ => trivial
theorem laneDoze a0 : Statement (.laneDoze a0) := fun _ => trivial
theorem commit : Statement .commit := fun _ => trivial
theorem keepaliveTick1ms : Statement .keepaliveTick1ms := fun _ => trivial
theorem bankOosOverrun a0 : Statement (.bankOosOverrun a0) := fun _ => trivial
theorem cstopMaxExpiry : Statement .cstopMaxExpiry := fun _ => trivial
theorem coreMiscompare a0 a1 : Statement (.coreMiscompare a0 a1) := fun _ => trivial
theorem comparatorRailFault a0 a1 : Statement (.comparatorRailFault a0 a1) := fun _ => trivial
theorem delayRegParityError a0 a1 : Statement (.delayRegParityError a0 a1) := fun _ => trivial
theorem injectionRun a0 : Statement (.injectionRun a0) := fun _ => trivial
theorem injectionRunEnd a0 a1 : Statement (.injectionRunEnd a0 a1) := fun _ => trivial
theorem injectionTestLate a0 : Statement (.injectionTestLate a0) := fun _ => trivial
theorem injectionTestOverdue a0 : Statement (.injectionTestOverdue a0) := fun _ => trivial
theorem scrubSweep a0 a1 a2 a3 a4 : Statement (.scrubSweep a0 a1 a2 a3 a4) := fun h => upsets_width _ h
theorem scrubLate a0 : Statement (.scrubLate a0) := fun _ => trivial
theorem prismSelfCheckFault : Statement .prismSelfCheckFault := fun _ => trivial
theorem prismStartupTest a0 : Statement (.prismStartupTest a0) := fun _ => trivial
theorem degAllowTick : Statement .degAllowTick := fun _ => trivial
theorem degAllowExpired : Statement .degAllowExpired := fun _ => trivial
theorem degRemainJournal : Statement .degRemainJournal := fun _ => trivial
theorem repairStepTimeout : Statement .repairStepTimeout := fun _ => trivial
theorem reloadDone : Statement .reloadDone := fun _ => trivial
theorem repairSelftestDone a0 : Statement (.repairSelftestDone a0) := fun _ => trivial
theorem copyWindowOpen a0 a1 : Statement (.copyWindowOpen a0 a1) := fun _ => trivial
theorem copyComplete a0 : Statement (.copyComplete a0) := fun _ => trivial
theorem debugPortAccess a0 : Statement (.debugPortAccess a0) := fun _ => trivial
theorem linkUp a0 : Statement (.linkUp a0) := fun _ => trivial
theorem linkFrameRx a0 a1 a2 a3 : Statement (.linkFrameRx a0 a1 a2 a3) := fun h =>
  have w := both _ _ h
  ⟨of_check w.1, of_check w.2⟩
theorem linkMeasured a0 : Statement (.linkMeasured a0) := fun _ => trivial
theorem frameForward a0 a1 a2 a3 a4 : Statement (.frameForward a0 a1 a2 a3 a4) := fun h =>
  have w := both _ _ h
  ⟨of_check w.1, of_check w.2⟩
theorem csFrameRx a0 a1 a2 : Statement (.csFrameRx a0 a1 a2) := fun h => of_check h
theorem startupFrameRx a0 a1 a2 : Statement (.startupFrameRx a0 a1 a2) := fun h => of_check h
theorem dataFrameRx a0 a1 a2 a3 a4 : Statement (.dataFrameRx a0 a1 a2 a3 a4) := fun h => of_check h
theorem claimFrameRx a0 a1 a2 : Statement (.claimFrameRx a0 a1 a2) := fun h => of_check h
theorem spareRelease a0 : Statement (.spareRelease a0) := fun _ => trivial
theorem rejoinHoldoffEnd : Statement .rejoinHoldoffEnd := fun _ => trivial
theorem csFrameMissing : Statement .csFrameMissing := fun _ => trivial
theorem lineLost a0 : Statement (.lineLost a0) := fun _ => trivial
theorem listenTimeout : Statement .listenTimeout := fun _ => trivial
theorem startupFrameTx : Statement .startupFrameTx := fun _ => trivial
theorem csFrameTx a0 : Statement (.csFrameTx a0) := fun h => of_check h
theorem successionTimeout : Statement .successionTimeout := fun _ => trivial
theorem handoverCycle : Statement .handoverCycle := fun _ => trivial
theorem dataSlotTx a0 a1 a2 : Statement (.dataSlotTx a0 a1 a2) := fun h => of_check h
theorem pslTimeout a0 : Statement (.pslTimeout a0) := fun _ => trivial
theorem pslErrorRestart a0 : Statement (.pslErrorRestart a0) := fun _ => trivial
theorem pslEthDatagramRx a0 a1 : Statement (.pslEthDatagramRx a0 a1) := fun h => of_check h
theorem rstNAssert : Statement .rstNAssert := fun _ => trivial
theorem rstNRelease a0 a1 a2 : Statement (.rstNRelease a0 a1 a2) := fun _ => trivial
theorem dbSelftestEnd a0 : Statement (.dbSelftestEnd a0) := fun _ => trivial
theorem dbInternalFault a0 : Statement (.dbInternalFault a0) := fun _ => trivial
theorem paramCrcRecheck : Statement .paramCrcRecheck := fun _ => trivial
theorem dbCheckPoint : Statement .dbCheckPoint := fun _ => trivial
theorem dbStrobeTimeout : Statement .dbStrobeTimeout := fun _ => trivial
theorem dbResp a0 a1 : Statement (.dbResp a0 a1) := fun _ => trivial
theorem siTerminalChange a0 a1 : Statement (.siTerminalChange a0 a1) := fun _ => trivial
theorem siFilterExpiry a0 : Statement (.siFilterExpiry a0) := fun _ => trivial
theorem pairDiscrepancyTimeout a0 : Statement (.pairDiscrepancyTimeout a0) := fun _ => trivial
theorem testPulse a0 : Statement (.testPulse a0) := fun _ => trivial
theorem pulseWindowEnd a0 : Statement (.pulseWindowEnd a0) := fun _ => trivial
theorem crossConnectionCheck a0 : Statement (.crossConnectionCheck a0) := fun _ => trivial
theorem speedComputation : Statement .speedComputation := fun _ => trivial
theorem standstill a0 : Statement (.standstill a0) := fun _ => trivial
theorem tStopMaxExpiry a0 : Statement (.tStopMaxExpiry a0) := fun _ => trivial
theorem tHoldExpiry a0 : Statement (.tHoldExpiry a0) := fun _ => trivial
theorem tPreElapsed a0 : Statement (.tPreElapsed a0) := fun _ => trivial
theorem sideOffTest a0 a1 : Statement (.sideOffTest a0 a1) := fun _ => trivial
theorem sideStuckFault a0 a1 : Statement (.sideStuckFault a0 a1) := fun _ => trivial
theorem brakeCurrentFault a0 a1 : Statement (.brakeCurrentFault a0 a1) := fun _ => trivial
theorem brakeOvercurrent a0 a1 : Statement (.brakeOvercurrent a0 a1) := fun _ => trivial
theorem brakeAppliedCurrent a0 a1 : Statement (.brakeAppliedCurrent a0 a1) := fun _ => trivial
theorem brakeTestEngageEnd a0 : Statement (.brakeTestEngageEnd a0) := fun _ => trivial
theorem brakeTestPass a0 : Statement (.brakeTestPass a0) := fun _ => trivial
theorem btIntervalExpiry a0 : Statement (.btIntervalExpiry a0) := fun _ => trivial
theorem btGraceExpiry a0 : Statement (.btGraceExpiry a0) := fun _ => trivial
theorem brkAllowExpiry a0 : Statement (.brkAllowExpiry a0) := fun _ => trivial
theorem dbEncoderFault a0 : Statement (.dbEncoderFault a0) := fun _ => trivial
theorem dbEncoderFaultClear a0 : Statement (.dbEncoderFaultClear a0) := fun _ => trivial
theorem vgdLoss a0 a1 : Statement (.vgdLoss a0 a1) := fun _ => trivial
theorem sv24Loss : Statement .sv24Loss := fun _ => trivial
theorem sv24Return : Statement .sv24Return := fun _ => trivial
theorem haspInHeld : Statement .haspInHeld := fun _ => trivial
theorem haspInFree : Statement .haspInFree := fun _ => trivial
theorem haspTestBurst : Statement .haspTestBurst := fun _ => trivial
theorem haspBurstRx : Statement .haspBurstRx := fun _ => trivial
theorem haspLineLoss : Statement .haspLineLoss := fun _ => trivial
theorem refereeLost : Statement .refereeLost := fun _ => trivial
theorem takebackSet : Statement .takebackSet := fun _ => trivial
theorem masterYield : Statement .masterYield := fun _ => trivial
theorem cascadeLinkUp a0 a1 a2 : Statement (.cascadeLinkUp a0 a1 a2) := fun _ => trivial
theorem cascadeSyncRx a0 a1 a2 a3 : Statement (.cascadeSyncRx a0 a1 a2 a3) := fun h =>
  have w := both _ _ h
  ⟨of_check w.1, of_check w.2⟩
theorem cascadeDataRx a0 a1 : Statement (.cascadeDataRx a0 a1) := fun h => of_check h
theorem cxWaitExpiry : Statement .cxWaitExpiry := fun _ => trivial
theorem cascadeUnsync : Statement .cascadeUnsync := fun _ => trivial
theorem cascadeMboxRx a0 a1 a2 a3 : Statement (.cascadeMboxRx a0 a1 a2 a3) := fun h => of_check h
theorem dioTerminalChange a0 a1 : Statement (.dioTerminalChange a0 a1) := fun _ => trivial
theorem dioFilterExpiry a0 : Statement (.dioFilterExpiry a0) := fun _ => trivial
theorem dioOverload a0 a1 : Statement (.dioOverload a0 a1) := fun _ => trivial
theorem dioRetry a0 : Statement (.dioRetry a0) := fun _ => trivial
theorem dioReadbackFault a0 : Statement (.dioReadbackFault a0) := fun _ => trivial
theorem dioOpenLoad a0 : Statement (.dioOpenLoad a0) := fun _ => trivial
theorem fieldSupplyPresent a0 a1 : Statement (.fieldSupplyPresent a0 a1) := fun _ => trivial
theorem fieldSupplyLost a0 a1 : Statement (.fieldSupplyLost a0 a1) := fun _ => trivial
theorem keepaliveTrip a0 : Statement (.keepaliveTrip a0) := fun _ => trivial
theorem reflexFire a0 : Statement (.reflexFire a0) := fun _ => trivial
theorem reflexPulseEnd a0 : Statement (.reflexPulseEnd a0) := fun _ => trivial
theorem aiConversion a0 a1 a2 a3 : Statement (.aiConversion a0 a1 a2 a3) := fun h => of_check h
theorem encEdge a0 a1 : Statement (.encEdge a0 a1) := fun _ => trivial
theorem encZPulse a0 : Statement (.encZPulse a0) := fun _ => trivial
theorem encFault a0 a1 : Statement (.encFault a0 a1) := fun _ => trivial
theorem encFaultClear a0 : Statement (.encFaultClear a0) := fun _ => trivial
theorem encVSwitchOn a0 a1 : Statement (.encVSwitchOn a0 a1) := fun _ => trivial
theorem encTypeChange a0 a1 : Statement (.encTypeChange a0 a1) := fun _ => trivial
theorem captureEdge a0 a1 a2 : Statement (.captureEdge a0 a1 a2) := fun _ => trivial
theorem capRdIdxWrite a0 a1 : Statement (.capRdIdxWrite a0 a1) := fun h => of_check h
theorem tbSnap : Statement .tbSnap := fun _ => trivial
theorem tb2Adj a0 : Statement (.tb2Adj a0) := fun _ => trivial
theorem timePllLock : Statement .timePllLock := fun _ => trivial
theorem pllLockLoss a0 : Statement (.pllLockLoss a0) := fun _ => trivial
theorem ptpSyncRx a0 a1 : Statement (.ptpSyncRx a0 a1) := fun h => of_check h
theorem ptpAnnounceRx a0 a1 : Statement (.ptpAnnounceRx a0 a1) := fun h => of_check h
theorem ptpHoldover : Statement .ptpHoldover := fun _ => trivial
theorem storedPairWrite : Statement .storedPairWrite := fun _ => trivial
theorem managementViewCompare a0 a1 a2 : Statement (.managementViewCompare a0 a1 a2) := fun _ => trivial
theorem keeperSafeSeen : Statement .keeperSafeSeen := fun _ => trivial
theorem supwNFall : Statement .supwNFall := fun _ => trivial
theorem supplyWindowExpiry a0 a1 : Statement (.supplyWindowExpiry a0 a1) := fun _ => trivial
theorem logicSupplyCollapse : Statement .logicSupplyCollapse := fun _ => trivial
theorem aonSupplyLoss : Statement .aonSupplyLoss := fun _ => trivial
theorem parkGo : Statement .parkGo := fun _ => trivial
theorem parkArmTimeout : Statement .parkArmTimeout := fun _ => trivial
theorem wakeNFall : Statement .wakeNFall := fun _ => trivial
theorem rtcAlarm : Statement .rtcAlarm := fun _ => trivial
theorem luoshWakeEnergy : Statement .luoshWakeEnergy := fun _ => trivial
theorem spuriousWakeTimeout : Statement .spuriousWakeTimeout := fun _ => trivial
theorem wakeComplete a0 : Statement (.wakeComplete a0) := fun _ => trivial
theorem wakeRestore : Statement .wakeRestore := fun _ => trivial
theorem tjSample a0 : Statement (.tjSample a0) := fun _ => trivial
theorem laneRuntimeCheckDone a0 : Statement (.laneRuntimeCheckDone a0) := fun _ => trivial
theorem keeperFirmwareCheckDone : Statement .keeperFirmwareCheckDone := fun _ => trivial
theorem journalReplay : Statement .journalReplay := fun _ => trivial
theorem recorderIndexRebuild : Statement .recorderIndexRebuild := fun _ => trivial
theorem autostartRunRequest : Statement .autostartRunRequest := fun _ => trivial
theorem programLoadDone a0 : Statement (.programLoadDone a0) := fun _ => trivial
theorem loadEn a0 : Statement (.loadEn a0) := fun _ => trivial
theorem psWinWrite a0 a1 a2 : Statement (.psWinWrite a0 a1 a2) := fun h => of_check h
theorem keeperWatchdogExpiry : Statement .keeperWatchdogExpiry := fun _ => trivial
theorem keeperException : Statement .keeperException := fun _ => trivial
theorem keeperRestartDone : Statement .keeperRestartDone := fun _ => trivial
theorem mbDoorbellRing a0 : Statement (.mbDoorbellRing a0) := fun _ => trivial
theorem maintDatagramRx a0 a1 : Statement (.maintDatagramRx a0 a1) := fun _ => trivial
theorem keeperRequestPost : Statement .keeperRequestPost := fun _ => trivial
theorem verdictRead : Statement .verdictRead := fun _ => trivial
theorem requestPendingTimeout a0 : Statement (.requestPendingTimeout a0) := fun _ => trivial
theorem xferTimeout a0 : Statement (.xferTimeout a0) := fun h => of_check h
theorem tokenNonceExpiry : Statement .tokenNonceExpiry := fun _ => trivial
theorem serviceTokenExpiry : Statement .serviceTokenExpiry := fun _ => trivial
theorem serviceExpiry : Statement .serviceExpiry := fun _ => trivial
theorem journalRecordWrite : Statement .journalRecordWrite := fun _ => trivial
theorem compactionStart : Statement .compactionStart := fun _ => trivial
theorem compactionDone : Statement .compactionDone := fun _ => trivial
theorem yearlyRefresh : Statement .yearlyRefresh := fun _ => trivial
theorem timeRecord : Statement .timeRecord := fun _ => trivial
theorem recorderSnapshotRenew : Statement .recorderSnapshotRenew := fun _ => trivial
theorem pcieInboundWrite a0 a1 a2 a3 : Statement (.pcieInboundWrite a0 a1 a2 a3) := fun h => not_empty a2 h
theorem pcieInboundRead a0 a1 a2 a3 : Statement (.pcieInboundRead a0 a1 a2 a3) := fun h => of_check h
theorem pcieUnsupportedRequest : Statement .pcieUnsupportedRequest := fun _ => trivial
theorem pcieReset : Statement .pcieReset := fun _ => trivial
theorem outboundReadTimeout a0 : Statement (.outboundReadTimeout a0) := fun _ => trivial
theorem pelPop : Statement .pelPop := fun _ => trivial
theorem msixUnmask a0 : Statement (.msixUnmask a0) := fun _ => trivial
theorem chGoStart a0 a1 : Statement (.chGoStart a0 a1) := fun _ => trivial
theorem dmaTimerTrigger a0 a1 : Statement (.dmaTimerTrigger a0 a1) := fun _ => trivial
theorem lvlAdd a0 a1 a2 : Statement (.lvlAdd a0 a1 a2) := fun h => of_check h
theorem dmaGrant a0 : Statement (.dmaGrant a0) := fun _ => trivial
theorem descriptorComplete a0 a1 : Statement (.descriptorComplete a0 a1) := fun _ => trivial
theorem dmaError a0 a1 a2 : Statement (.dmaError a0 a1 a2) := fun _ => trivial
theorem chPause a0 a1 a2 : Statement (.chPause a0 a1 a2) := fun _ => trivial
theorem chPauseDrained a0 a1 : Statement (.chPauseDrained a0 a1) := fun _ => trivial
theorem chResume a0 a1 : Statement (.chResume a0 a1) := fun _ => trivial
theorem chAbort a0 a1 a2 : Statement (.chAbort a0 a1 a2) := fun _ => trivial
theorem cvuInit a0 a1 : Statement (.cvuInit a0 a1) := fun _ => trivial
theorem dataB a0 a1 a2 : Statement (.dataB a0 a1 a2) := fun _ => trivial
theorem dataW a0 a1 a2 : Statement (.dataW a0 a1 a2) := fun _ => trivial
theorem cvuLowWordRead a0 a1 a2 : Statement (.cvuLowWordRead a0 a1 a2) := fun _ => trivial
theorem hingeAccess a0 a1 a2 a3 : Statement (.hingeAccess a0 a1 a2 a3) := fun _ => trivial
theorem hingeSplitHighRead a0 : Statement (.hingeSplitHighRead a0) := fun _ => trivial
theorem fcsHiRead : Statement .fcsHiRead := fun _ => trivial
theorem hingeStrikeArm : Statement .hingeStrikeArm := fun _ => trivial
theorem hingeStrikeTimeout : Statement .hingeStrikeTimeout := fun _ => trivial
theorem tunDataWrite a0 : Statement (.tunDataWrite a0) := fun _ => trivial
theorem tunDataRead : Statement .tunDataRead := fun _ => trivial
theorem hingeRefresh : Statement .hingeRefresh := fun _ => trivial
theorem hingeResponse : Statement .hingeResponse := fun _ => trivial
theorem hingeStop : Statement .hingeStop := fun _ => trivial
theorem hingeRun : Statement .hingeRun := fun _ => trivial
theorem hingeFaultAck : Statement .hingeFaultAck := fun _ => trivial
theorem hingeForcePoint : Statement .hingeForcePoint := fun _ => trivial
theorem hingeForceWord : Statement .hingeForceWord := fun _ => trivial
theorem hingeForceClear : Statement .hingeForceClear := fun _ => trivial
theorem hingeForceClearAll : Statement .hingeForceClearAll := fun _ => trivial
theorem hingeForceAck : Statement .hingeForceAck := fun _ => trivial
theorem hingeTimeSet : Statement .hingeTimeSet := fun _ => trivial
theorem hingeTunnelSend : Statement .hingeTunnelSend := fun _ => trivial
theorem hingeUnknownCode : Statement .hingeUnknownCode := fun _ => trivial
theorem nop a0 : Statement (.nop a0) := fun _ => trivial
theorem reqStatus a0 : Statement (.reqStatus a0) := fun _ => trivial
theorem relay a0 : Statement (.relay a0) := fun _ => trivial
theorem xferBegin a0 : Statement (.xferBegin a0) := fun _ => trivial
theorem xferData a0 : Statement (.xferData a0) := fun _ => trivial
theorem xferEnd a0 : Statement (.xferEnd a0) := fun _ => trivial
theorem xferAbort a0 : Statement (.xferAbort a0) := fun _ => trivial
theorem ident a0 : Statement (.ident a0) := fun _ => trivial
theorem statusGet a0 : Statement (.statusGet a0) := fun _ => trivial
theorem unitGet a0 : Statement (.unitGet a0) := fun _ => trivial
theorem modeSetStop a0 : Statement (.modeSetStop a0) := fun _ => trivial
theorem modeSetRun a0 : Statement (.modeSetRun a0) := fun _ => trivial
theorem modeSetService a0 : Statement (.modeSetService a0) := fun _ => trivial
theorem modeSetLeaveService a0 : Statement (.modeSetLeaveService a0) := fun _ => trivial
theorem faultAck a0 : Statement (.faultAck a0) := fun _ => trivial
theorem park a0 : Statement (.park a0) := fun _ => trivial
theorem keeperRestart a0 : Statement (.keeperRestart a0) := fun _ => trivial
theorem progLoad a0 : Statement (.progLoad a0) := fun _ => trivial
theorem progInfo a0 : Statement (.progInfo a0) := fun _ => trivial
theorem forceSet a0 : Statement (.forceSet a0) := fun _ => trivial
theorem forceClear a0 : Statement (.forceClear a0) := fun _ => trivial
theorem forceList a0 : Statement (.forceList a0) := fun _ => trivial
theorem forceAck a0 : Statement (.forceAck a0) := fun _ => trivial
theorem cfgSetScan a0 : Statement (.cfgSetScan a0) := fun _ => trivial
theorem cfgSetFieldIo a0 : Statement (.cfgSetFieldIo a0) := fun _ => trivial
theorem cfgSetPair a0 : Statement (.cfgSetPair a0) := fun _ => trivial
theorem cfgSetCascade a0 : Statement (.cfgSetCascade a0) := fun _ => trivial
theorem cfgSetTime a0 : Statement (.cfgSetTime a0) := fun _ => trivial
theorem cfgSetModule a0 : Statement (.cfgSetModule a0) := fun _ => trivial
theorem cfgSetMaintIpv4 a0 : Statement (.cfgSetMaintIpv4 a0) := fun _ => trivial
theorem cfgGet a0 : Statement (.cfgGet a0) := fun _ => trivial
theorem luSched a0 : Statement (.luSched a0) := fun _ => trivial
theorem luHandover a0 : Statement (.luHandover a0) := fun _ => trivial
theorem luStat a0 : Statement (.luStat a0) := fun _ => trivial
theorem safeCfg a0 : Statement (.safeCfg a0) := fun _ => trivial
theorem pslAck a0 : Statement (.pslAck a0) := fun _ => trivial
theorem safeInfo a0 : Statement (.safeInfo a0) := fun _ => trivial
theorem jrnlInfo a0 : Statement (.jrnlInfo a0) := fun _ => trivial
theorem jrnlRead a0 : Statement (.jrnlRead a0) := fun _ => trivial
theorem recInfo a0 : Statement (.recInfo a0) := fun _ => trivial
theorem recRead a0 : Statement (.recRead a0) := fun _ => trivial
theorem jrnlExport a0 : Statement (.jrnlExport a0) := fun _ => trivial
theorem jrnlImport a0 : Statement (.jrnlImport a0) := fun _ => trivial
theorem timeGet a0 : Statement (.timeGet a0) := fun _ => trivial
theorem timeSet a0 : Statement (.timeSet a0) := fun _ => trivial
theorem timeAdj a0 : Statement (.timeAdj a0) := fun _ => trivial
theorem timeSrc a0 : Statement (.timeSrc a0) := fun _ => trivial
theorem alarmSet a0 : Statement (.alarmSet a0) := fun _ => trivial
theorem quiesce a0 : Statement (.quiesce a0) := fun _ => trivial
theorem reload a0 : Statement (.reload a0) := fun _ => trivial
theorem selftest a0 : Statement (.selftest a0) := fun _ => trivial
theorem copy a0 : Statement (.copy a0) := fun _ => trivial
theorem fwWrite a0 : Statement (.fwWrite a0) := fun _ => trivial
theorem fwActivate a0 : Statement (.fwActivate a0) := fun _ => trivial
theorem fwInfo a0 : Statement (.fwInfo a0) := fun _ => trivial
theorem otpSvn a0 : Statement (.otpSvn a0) := fun _ => trivial
theorem otpRevoke a0 : Statement (.otpRevoke a0) := fun _ => trivial
theorem attest a0 : Statement (.attest a0) := fun _ => trivial
theorem certGet a0 : Statement (.certGet a0) := fun _ => trivial
theorem tokenNonce a0 : Statement (.tokenNonce a0) := fun _ => trivial
theorem tokenLoad a0 : Statement (.tokenLoad a0) := fun _ => trivial
theorem rcFieldRead a0 a1 : Statement (.rcFieldRead a0 a1) := fun h => of_check h
theorem registerWrite a0 a1 a2 a3 : Statement (.registerWrite a0 a1 a2 a3) := fun h => of_check h
theorem portLinkDown a0 : Statement (.portLinkDown a0) := fun _ => trivial
theorem cascadeLinkDown a0 : Statement (.cascadeLinkDown a0) := fun _ => trivial
theorem pcieLinkUp a0 a1 a2 : Statement (.pcieLinkUp a0 a1 a2) := fun _ => trivial
theorem maintEthLinkUp a0 : Statement (.maintEthLinkUp a0) := fun h => of_check h
theorem arpRequestRx a0 : Statement (.arpRequestRx a0) := fun h => of_check h
theorem icmpEchoRx a0 a1 : Statement (.icmpEchoRx a0 a1) := fun h => of_check h
theorem ptpDelayRespRx a0 a1 : Statement (.ptpDelayRespRx a0 a1) := fun h => of_check h
theorem wakeFrameRx a0 a1 : Statement (.wakeFrameRx a0 a1) := fun h => of_check h
theorem vbatLowChange a0 : Statement (.vbatLowChange a0) := fun _ => trivial
theorem dioOpenLoadClear a0 : Statement (.dioOpenLoadClear a0) := fun _ => trivial

end Sys2Proof.Laws.WellFormed
end

