-- ==== Sys2Proof/Tests/Slice0.lean ====
section
/-!
SUPPORT. Tests: a term that each well-formedness check refuses; for each statement with hypotheses a state and operands that
meet them, clause by clause at a boundary value, with what the command then does. The expected values are those of the
rules that the statements name.
-/

namespace Sys2Proof.Tests

open Sys2Proof Sys2Proof.Machine

set_option Elab.async false

/-! ## Small states -/

/-- RST_N is high and the supply up; every register at its reset value, mode INIT. -/
def on : State := { State.reset with modl := { State.reset.modl with rst := false } }

/-- Some lanes admitted after their start-up test. -/
def adm (ls : List Lane) (s : State) : State :=
  ls.foldl (fun t l => setLane t l (fun x => { x with admitted := true, started := some true })) s

/-- Three lanes admitted, in a mode. -/
def up (m : Mode) : State := let t := adm Lane.all on; { t with modl := { t.modl with mode := m } }

/-- The time that has passed. -/
def at' (ns : Nat) (s : State) : State := { s with time := { s.time with now := ns } }

/-- A state with changes to what one block holds. -/
def inScan' (f : ScanSt → ScanSt) (s : State) : State := { s with scan := f s.scan }
def inDb (f : DbSt → DbSt) (s : State) : State := { s with db := f s.db }
def inLu (f : LuoshSt → LuoshSt) (s : State) : State := { s with luosh := f s.luosh }
def inKp (f : KeeperSt → KeeperSt) (s : State) : State := { s with keeper := f s.keeper }
def inAon (f : AonSt → AonSt) (s : State) : State := { s with aon := f s.aon }
def inPair (f : PairSt → PairSt) (s : State) : State := { s with pair := f s.pair }
def inRep (f : RepairSt → RepairSt) (s : State) : State := { s with repair := f s.repair }
def inFlt (f : Faults → Faults) (s : State) : State := { s with faults := f s.faults }
def inModl (f : Modl → Modl) (s : State) : State := { s with modl := f s.modl }
def inTime (f : TimeSt → TimeSt) (s : State) : State := { s with time := f s.time }
def inHinge (f : HingeSt → HingeSt) (s : State) : State := { s with hinge := f s.hinge }
def inJrnl (f : JrnlSt → JrnlSt) (s : State) : State := { s with jrnl := f s.jrnl }

/-- The state that an answer gives satisfies a test. -/
def ok (a : Answer) (f : State → Bool) : Bool :=
  match a with
  | .next t => f t
  | _ => false

/-- The command leaves the state as it is. -/
def idle (c : Instr) (s : State) : Bool := ok (exec c s) (fun t => decide (t = s))

/-! ## Lanes -/

/-- LockstepErrorExcludes: a fenced lane, and an admitted one. -/
theorem test_lockstep : let f := setLane on .x (fun x => { x with fenced := true })
    live f = true ∧ checksLive f .x = false ∧ cmpSameClock f .x = false ∧ idle (.coreMiscompare .x 1) f = true ∧
    (let s := up .run; live s = true ∧ (lane s .z).admitted = true ∧ checksLive s .z = true ∧ cmpHolds s .z = false ∧
      ok (exec (.coreMiscompare .z 1) s) (fun t => rdL t R.CMP_STAT_MISCOMPARE .z == 1 && !(lane t .z).admitted) = true ∧
      ok (exec (.comparatorRailFault .z 1) s) (fun t => rdL t R.EXCL_CAUSE .x 2 == 2) = true ∧
      ok (exec (.delayRegParityError .z 53) s) (fun t => rdL t R.CMP_STAT_PAR_LOC .z == 53 && rdL t R.EXCL_CAUSE .y 2 == 3) = true) := by
  decide +kernel

/-- ExclusionOfThree: three lanes and no repair. -/
theorem test_exclusion : (admittedLanes (up .run)).length = 3 ∧ (up .run).repair.copying = false ∧
    isPresent (excludeLane (up .run) .y 9) 0x0309 = true ∧ voteMode (excludeLane (up .run) .y 1) = 1 := by decide +kernel

/-- InjectionRuns: at start-up, in the window of its scan, as a repair's self-test; passed, failed, late, overdue. -/
theorem test_injection :
    let due := setLane (up .run) .x (fun x => { x with injDue := true })
    let run := at' 213 (setLane (up .run) .x (fun x => { x with injRun := true }))
    let held := at' 213 (setLane (up .run) .x (fun x => { x with injRun := true, irqHeld := true, dozing := true }))
    let rep := wrAll (inRep (fun x => { x with target := some .y, waiting := some 1 }) (up .run)) R.REPAIR_STAT_STEP 2
    let odd : List (Fin 64 × InjReport) := [(63, ⟨0, 0⟩)]
    ((lane on .x).started = none ∧ laneClocked on .x = true ∧ (lane on .x).injRun = false ∧ on.repair.target ≠ some .x ∧
      ok (exec (.injectionRun .x) on) (fun t => (lane t .x).injRun) = true) ∧
    (injWaits due .x = true ∧ injWindow due .x = true ∧ ok (exec (.injectionRun .x) due) (fun t => t.scan.injWin == some 0) = true) ∧
    (live rep = true ∧ laneClocked rep .y = true ∧ ok (exec (.injectionRun .y) rep) (fun t => (lane t .y).injRun) = true) ∧
    (injWaits (up .run) .x = false ∧ idle (.injectionRun .x) (up .run) = true) ∧
    ((lane run .x).injRun = true ∧ (lane run .x).started ≠ none ∧ (lane run .x).injAt + 213 ≤ run.time.now ∧ (lane run .x).irqHeld = false ∧
      injFail [] = none ∧ injFail odd = some 63 ∧
      ok (exec (.injectionRunEnd .x []) run) (fun t => rdL t R.INJ_STAT_FAIL_PAT .x == 0xFF && !(lane t .x).injRun) = true ∧
      ok (exec (.injectionRunEnd .x odd) run) (fun t => rdL t R.EXCL_CAUSE .x 0 == 4 && rdL t R.INJ_STAT_FAIL_PAT .x == 63) = true ∧
      idle (.injectionRunEnd .x odd) (at' 212 run) = true) ∧
    ((lane held .x).irqHeld = true ∧ ok (exec (.injectionRunEnd .x []) held) (fun t => !(lane t .x).dozing) = true) ∧
    (let s := wrL (up .run) R.INJ_STAT_INJ_AGE .y 2048; 2048 ≤ rdL s R.INJ_STAT_INJ_AGE .y ∧ rdL s R.INJ_STAT_LATE .y = 0 ∧
      ok (exec (.injectionTestLate .y) s) (fun t => isPresent t 0x0310) = true ∧
      idle (.injectionTestLate .y) (wrL s R.INJ_STAT_INJ_AGE .y 2047) = true) ∧
    (let s := wrL (up .run) R.INJ_STAT_INJ_AGE .y 8192; 8192 ≤ rdL s R.INJ_STAT_INJ_AGE .y ∧
      ok (exec (.injectionTestOverdue .y) s) (fun t => rdL t R.EXCL_CAUSE .x 1 == 9) = true ∧
      idle (.injectionTestOverdue .y) (wrL s R.INJ_STAT_INJ_AGE .y 8191) = true) := by decide +kernel

/-- No column of a data bit is one of a check bit, nor of even weight (04 R159): what syndromes 1 and 3 say does not rest on the choice
of the columns. -/
theorem eccColumn_odd (y : Nat) (hy : colWeight y % 2 = 0 ∨ colWeight y < 3) :
    (List.range 64).find? (fun i => eccColumn i == y) = none := by
  have plain : ∀ i, i < 64 → colWeight (plainColumn i) % 2 = 1 ∧ 3 ≤ colWeight (plainColumn i) := by decide +kernel
  rw [List.find?_eq_none]
  intro i hi h
  have hi : i < 64 := List.mem_range.mp hi
  have : colWeight (eccColumn i) % 2 = 1 ∧ 3 ≤ colWeight (eccColumn i) := by
    unfold eccColumn
    split
    · rename_i hm
      simp only [matrixOk, Bool.and_eq_true, List.all_eq_true, List.mem_map, List.mem_range, decide_eq_true_eq, beq_iff_eq] at hm
      exact ⟨(hm.1.1.1 _ ⟨i, hi, rfl⟩).1.2, (hm.1.1.1 _ ⟨i, hi, rfl⟩).2⟩
    · exact plain i hi
  rw [beq_iff_eq] at h
  rw [h] at this
  omega

/-- Scrubbing: lane Y with one stored check bit changed, and two, in lane SRAM and in the instance memory. -/
def upset1 (m : EccMem) (n : Nat) : List Upset := [⟨m, 0, BitVec.ofNat 72 (n * 2 ^ 64), 0⟩]

theorem test_scrubRead : ∀ m ∈ [EccMem.sram, .inst], let s := upset (up .run) .y (upset1 m 1); let d := upset (up .run) .y (upset1 m 3)
    scrubFinds s .y (upset1 m 1) 0 scrubTotal = [(m, 0)] ∧ scrubFinds d .y (upset1 m 3) 0 1220609 = [(m, 0)] ∧
    eccRead s m .y 0 (misread (upset1 m 1) m 0) = .corrected 0 ∧ eccRead d m .y 0 (misread (upset1 m 3) m 0) = .uncorrectable 0 := by
  have e (m : EccMem) (s : State) (n : Nat) (w : colWeight n % 2 = 0 ∨ colWeight n < 3) (hn : n ≠ 0)
      (hf : ¬(0 = 0 ∧ Tab.get 0 s.marks.flips ((eccRegion m .y).at (8 * 0) / 8) = 0))
      (h1 : syndrome (storedWord s m .y (Nat.xor 0 0)) 0 = n) (h2 : storedWord s m .y (Nat.xor 0 0) % 2 ^ 64 = 0) :
      eccRead s m .y 0 0 = if colWeight n = 1 then .corrected 0 else .uncorrectable 0 := by
    unfold eccRead
    rw [if_neg hf]
    unfold eccDecode
    simp only [h1, h2, if_neg hn, eccColumn_odd n w]
  intro m hm
  simp only [List.mem_cons, List.not_mem_nil, or_false] at hm
  rcases hm with rfl | rfl
  · refine ⟨by decide +kernel, by decide +kernel, ?_, ?_⟩
    · exact (e .sram _ 1 (by decide) (by decide) (by decide +kernel) (by decide +kernel) (by decide +kernel)).trans (by decide)
    · exact (e .sram _ 3 (by decide) (by decide) (by decide +kernel) (by decide +kernel) (by decide +kernel)).trans (by decide)
  · refine ⟨by decide +kernel, by decide +kernel, ?_, ?_⟩
    · exact (e .inst _ 1 (by decide) (by decide) (by decide +kernel) (by decide +kernel) (by decide +kernel)).trans (by decide)
    · exact (e .inst _ 3 (by decide) (by decide) (by decide +kernel) (by decide +kernel) (by decide +kernel)).trans (by decide)

/-- Scrubbing: sweeps of an admitted lane. -/
theorem test_scrub : let s := setLane (at' 1000000000 (up .run)) .y (fun x => { x with scrubPos := scrubTotal - 3, scrubNs := 5 })
    live s = true ∧ (lane s .y).admitted = true ∧ scrubs s .y = true ∧ scrubs (up .run) .y = true ∧ laneClocked s .y = true ∧
    scrubFinds (upset s .y []) .y [] (scrubTotal - 3) scrubTotal = [] ∧ scrubReach s .y = scrubTotal ∧
    ok (exec (.scrubSweep .y [] [] [] []) (setLane s .y (fun x => { x with scrubNs := 4 })))
      (fun t => (lane t .y).scrubPos == scrubTotal - 1 && rdL t R.SCRUB_STAT_SWEEPS .y == 0) = true ∧
    ok (exec (.scrubSweep .y [] [] [] []) s) (fun t => rdL t R.SCRUB_STAT_SWEEP_MS .y == 1000 && rdL t R.SCRUB_STAT_SWEEPS .y == 1) = true ∧
    idle (.scrubSweep .y [] [] [] []) (setLane s .y (fun x => { x with injRun := true })) = true ∧
    ok (exec (.scrubLate .y) s) (fun t => isPresent t 0x0311 && rdL t R.SCRUB_STAT_LATE .y == 1) = true ∧
    idle (.scrubLate .y) (at' 999999999 s) = true := by decide +kernel

/-- DegradedAllowance: two lanes; the last second, and none left. -/
theorem test_allowance : let s := wrAll (adm [.x, .z] on) R.DEG_REMAIN_SECONDS 1
    let e := wrAll (adm [.x, .z] on) R.DEG_REMAIN_SECONDS 0
    admittedLanes s = [.x, .z] ∧ (∀ l ∈ Lane.all, (lane s l).dbgAct = false) ∧ rdL s R.DEG_REMAIN_SECONDS .x = 1 ∧
    ok (exec .degAllowTick s) (fun t => rdL t R.DEG_REMAIN_SECONDS .z == 0) = true ∧
    rdL e R.DEG_REMAIN_SECONDS .x = 0 ∧ e.degr.expired = false ∧ admittedLanes e = [.x, .z] ∧
    ok (exec .degAllowExpired e) (fun t => isPresent t 0x0313 && t.degr.expired) = true ∧ idle .degAllowExpired s = true ∧
    ok (exec .degRemainJournal { s with degr := { s.degr with known := true } }) (fun t => t.degr.journalled == 1 && t.degr.due) = true ∧
    idle .degRemainJournal s = true ∧
    (admittedLanes (up .run)).length = 3 ∧ idle .degAllowTick (up .run) = true := by decide +kernel

/-- RepairSteps: lane Z is repaired by the lanes X and Y. -/
def repairing (step : Nat) : State :=
  wrAll (inRep (fun x => { x with target := some .z, waiting := some 5, source := .x }) (adm [.x, .y] on)) R.REPAIR_STAT_STEP step

theorem test_repair :
    let s1 := inRep (fun x => { x with readBack := some 0 }) (repairing 1)
    let s2 := setLane (repairing 2) .z (fun x => { x with started := some true })
    let c := inRep (fun x => { x with copying := true, first := 8, windows := 255, win := .free, waiting := none }) (repairing 4)
    let f := at' 1000 (inRep (fun x => { x with copying := true, waiting := none, first := 37, win := .isOpen 0 }) (repairing 4))
    live s1 = true ∧ s1.repair.target = some .z ∧ admittedLanes s1 = [.x, .y] ∧ s1.repair.waiting = some 5 ∧ (lane s1 .z).load = none ∧
    rdL s1 R.REPAIR_STAT_STEP .x = 1 ∧ s1.repair.readBack = some (rdL s1 R.PROG_ID_LO_ID .x + 2 ^ 32 * rdL s1 R.PROG_ID_HI_ID .x) ∧
    ok (exec .reloadDone s1) (fun t => rdL t R.REPAIR_STAT_STEP .y == 2) = true ∧
    ok (exec .reloadDone (repairing 1)) (fun t => rdL t R.REPAIR_STAT_REASON .y == 0x43) = true ∧
    ok (exec .reloadDone (wrAll s1 R.PROG_ID_LO_ID 1)) (fun t => rdL t R.REPAIR_STAT_REASON .y == 0x43) = true ∧
    idle .reloadDone (setLane s1 .z (fun x => { x with load := some ⟨0, 0, 0, 0, false⟩ })) = true ∧
    rdL s2 R.REPAIR_STAT_STEP .x = 2 ∧ (lane s2 .z).injRun = false ∧ (lane s2 .z).started = some true ∧
    ok (exec (.repairSelftestDone true) s2) (fun t => rdL t R.REPAIR_STAT_STEP .x == 3) = true ∧
    ok (exec (.repairSelftestDone true) (repairing 2)) (fun t => rdL t R.REPAIR_STAT_REASON .x == 0x44) = true ∧
    ok (exec (.repairSelftestDone false) s2) (fun t => rdL t R.REPAIR_STAT_REASON .x == 0x44) = true ∧
    ok (exec .repairStepTimeout (at' 200000000 s2)) (fun t => rdL t R.REPAIR_STAT_REASON .x == 0x48) = true ∧
    idle .repairStepTimeout (at' 199999999 s2) = true ∧
    ok (exec .repairStepTimeout (at' 2000000000 s1)) (fun t => rdL t R.REPAIR_STAT_REASON .x == 0x48) = true ∧
    idle .repairStepTimeout (at' 1999999999 s1) = true ∧ idle .repairStepTimeout (at' 9999999999 c) = true ∧
    idle (.copyWindowOpen .y .z) c = true ∧ idle (.copyWindowOpen c.repair.source .y) c = true ∧ c.repair.copying = true ∧ c.repair.win = .free ∧ c.scan.isOpen = false ∧ coreIdle c c.repair.source = true ∧
    dmaIdle c c.repair.source = true ∧ c.repair.windows < 256 ∧ (lane c c.repair.source).admitted = true ∧
    ok (exec (.copyWindowOpen c.repair.source .z) c) (fun t => t.repair.win == .isOpen 0 && t.repair.windows == 256) = true ∧
    ok (exec (.copyWindowOpen c.repair.source .z) (inRep (fun x => { x with windows := 256 }) c)) (fun t => rdL t R.REPAIR_STAT_REASON .x == 0x45) = true ∧
    idle (.copyWindowOpen f.repair.source .z) f = true ∧ f.repair.win = .isOpen 0 ∧ Memory.wf f.mem = true ∧
    f.repair.first + (dirtyBlocks f).length ≤ copyRate (f.time.now - 0) ∧
    idle (.copyComplete false) f = true ∧ idle (.copyComplete true) (inRep (fun x => { x with first := 38 }) f) = true := by decide +kernel

/-- PrismTests: before the first commit, and after it. -/
theorem test_prismSets : ∀ k ∈ List.range 196, ∀ c, testAnswer [] k c = testExpected k := by decide +kernel

theorem test_prism : on.scan.committed = false ∧ ok (exec (.prismStartupTest []) on) (fun t => rdL t R.PRISM_STAT_TEST_PASS .z == 1) = true ∧
    testAnswer [(195, true, ⟨some 0, none⟩)] 195 true ≠ testExpected 195 ∧
    ok (exec (.prismStartupTest [(195, true, ⟨some 0, none⟩)]) on) (fun t => isPresent t 0x031C && t.modl.mode == .safe) = true ∧
    idle (.prismStartupTest []) (inScan' (fun x => { x with committed := true }) on) = true ∧
    ok (exec .prismSelfCheckFault on) (fun t => isPresent t 0x031B && rdL t R.PRISM_STAT_SELF_FAULT .y == 1) = true := by decide +kernel

/-! ## Faults -/

/-- RaiseRecords and FaultClassesReact: a code of each class, the last second of a controlled stop. -/
theorem test_faults : classOf 0x0201 = 0 ∧ classOf 0x0401 = 1 ∧ classOf 0x070C = 2 ∧ classOf 0x0103 = 3 ∧ classOf 0x0104 = 4 ∧
    (raise (inFlt (fun f => { f with total := 0xFFFF }) on) 0x0401 2).faults.total = 0xFFFF ∧
    (let s := up .run; s.modl.mode = .run ∧ s.faults.cstop = none ∧ (raise s 0x0103 0).faults.stopDue = true) ∧
    (let s := inFlt (fun f => { f with cstop := some 3 }) (up .run); s.faults.cstop ≠ none ∧ (raise s 0x0103 0).faults.stopDue = false) ∧
    (up .stop).modl.mode ≠ .run ∧ (raise (up .stop) 0x0103 0).faults.ackPend = true ∧ (raise (up .run) 0x0104 0).modl.mode = .safe ∧
    (let s := wr (inFlt (fun f => { f with cstop := some 0 }) (up .run)) R.AXIS_STAT_STATE 2 0 3
     let at_ := fun n => inScan' (fun x => { x with tx := n }) s
     let most := 10000000 * rdL s R.FLT_CFG_CSTOP_MAX .x
     live s = true ∧ s.faults.cstop = some 0 ∧ rd s R.AXIS_STAT_STATE 0 3 = 2 ∧ most ≤ (at_ most).scan.tx - 0 ∧ 0 < most ∧
     ok (exec .cstopMaxExpiry (at_ most)) (fun t => isPresent t 0x0104) = true ∧ idle .cstopMaxExpiry (at_ (most - 1)) = true) ∧
    idle .cstopMaxExpiry (up .run) = true := by decide +kernel

/-- AcknowledgeClears: a fault that has ended, one that lasts. -/
theorem test_acknowledge : let s := raise (raiseOn (up .stop) 0x0401 0 0) 0x0103 0
    s.wf = true ∧ isPresent s 0x0401 = true ∧ isPresent (faultAck s) 0x0401 = true ∧ isPresent (faultAck s) 0x0103 = false ∧
    s.faults.ackPend = true ∧ (faultAck s).faults.ackPend = false := by decide +kernel

/-! ## Field I/O -/

/-- Channel 3 an output of bank 0 that drives 1, with its bank in service. -/
def driving : State :=
  let s := wr (wr on R.BANK_CFG_DIR 8 0 0) R.BANK_STAT_PWR 1 0 0
  wr { s with fio := { s.fio with dioOut := 8 } } R.CH_STAT_OUT 1 0 3

/-- DioInputFilter: a change with and without a filter, and a filter that has just run out and has not. -/
theorem test_dioFilter :
    let f := wr on R.CH_CFG_FILT 1 0 47
    let n := wr on R.CH_CFG_FILT 0 0 47
    let g := at' 1000 (wr f R.CH_STAT_TERM 1 0 47)
    rd f R.CH_STAT_TERM 0 47 ≠ b2n true ∧ rd f R.CH_CFG_FILT 0 47 ≠ 0 ∧ rd n R.CH_CFG_FILT 0 47 = 0 ∧
    ok (exec (.dioTerminalChange 47 true) f) (fun t => rd t R.CH_STAT_TERM 0 47 == 1 && rd t R.CH_STAT_STATE 0 47 == 0) = true ∧
    ok (exec (.dioTerminalChange 47 true) n) (fun t => rd t R.CH_STAT_STATE 0 47 == 1) = true ∧
    idle (.dioTerminalChange 47 false) f = true ∧
    rd g R.CH_STAT_TERM 0 47 ≠ rd g R.CH_STAT_STATE 0 47 ∧ filtNs (rd g R.CH_CFG_FILT 0 47) ≤ g.time.now - (dioSt g 47).chgAt ∧
    ok (exec (.dioFilterExpiry 47) g) (fun t => rd t R.CH_STAT_STATE 0 47 == 1) = true ∧
    idle (.dioFilterExpiry 47) (at' 999 g) = true := by decide +kernel

/-- DioOverloadLatch: an overload 1 ms after the output has come on and just before, a thermal shutdown, the retry after 100 ms. -/
theorem test_dioOverload :
    let d := at' 1000000 driving
    let l := at' 100000000 (wr (wr driving R.CH_STAT_OVL 1 0 3) R.CH_CFG_RETRY 1 0 3)
    isOut d 3 = true ∧ effective d 3 = true ∧ leadOf d 3 = 3 ∧ (dioSt d 3).outAt + 1000000 ≤ d.time.now ∧
    ok (exec (.dioOverload 3 false) d) (fun t => rd t R.CH_STAT_OVL 0 3 == 1 && rd t R.CH_STAT_OUT 0 3 == 0) = true ∧
    idle (.dioOverload 3 false) (at' 999999 driving) = true ∧
    ok (exec (.dioOverload 3 true) driving) (fun t => rd t R.CH_STAT_THERM 0 3 == 1 && isPresent t 0x0703) = true ∧
    (let o := wr { driving with fio := { driving.fio with dioOut := 0 } } R.CH_STAT_OUT 0 0 3
     isOut o 3 = true ∧ effective o 3 = false ∧ latched o 3 = false ∧ idle (.dioOverload 3 false) (at' 2000000 o) = true ∧
     ok (exec (.dioOverload 3 true) o) (fun t => rd t R.CH_STAT_THERM 0 3 == 1 && isPresent t 0x0703) = true) ∧
    isOut l 3 = true ∧ latched l 3 = true ∧
    ok (exec (.dioOverload 3 true) l) (fun t => rd t R.CH_STAT_THERM 0 3 == 1 && !isPresent t 0x0703) = true ∧
    isOut on 3 = false ∧ idle (.dioOverload 3 true) on = true ∧
    leadOf l 3 = 3 ∧ latched l 3 = true ∧ rd l R.CH_CFG_RETRY 0 3 = 1 ∧ isOut l 3 = true ∧ bankOff l 0 = false ∧ outBelow l 3 = true ∧
    100000000 ≤ l.time.now - (dioSt l 3).ovlAt ∧ idle (.dioRetry 3) (at' 99999999 l) = true ∧
    ok (exec (.dioRetry 3) l) (fun t => rd t R.CH_STAT_OVL 0 3 == 0) = true := by decide +kernel

/-- DioDiagnostics: a terminal that reads 0, an open load, at their times and before, and reports that say nothing new. -/
theorem test_dioDiagnostics :
    let d := at' 100001 driving
    let o := at' 10000000 (wr (wr driving R.CH_CFG_OPEN_EN 1 0 3) R.CH_STAT_TERM 1 0 3)
    isOut d 3 = true ∧ rd d R.CH_STAT_TERM 0 3 ≠ rd d R.CH_STAT_OUT 0 3 ∧ rd d R.CH_STAT_RBK 0 3 = 0 ∧
    ok (exec (.dioReadbackFault 3) d) (fun t => isPresent t 0x0704) = true ∧ idle (.dioReadbackFault 3) (at' 100000 driving) = true ∧
    idle (.dioReadbackFault 3) (wr d R.CH_STAT_RBK 1 0 3) = true ∧
    rd o R.CH_STAT_OUT 0 3 = 1 ∧ rd o R.CH_CFG_OPEN_EN 0 3 = 1 ∧ rd o R.CH_STAT_OPEN 0 3 = 0 ∧
    ok (exec (.dioOpenLoad 3) o) (fun t => rd t R.CH_STAT_OPEN 0 3 == 1 && condActive t 0x0705) = true ∧
    idle (.dioOpenLoad 3) (at' 9999999 o) = true ∧
    idle (.dioOpenLoad 3) (wr o R.CH_STAT_OPEN 1 0 3) = true ∧
    ok (exec (.dioOpenLoadClear 3) (wr o R.CH_STAT_OPEN 1 0 3)) (fun t => rd t R.CH_STAT_OPEN 0 3 == 0) = true := by decide +kernel

/-- FieldBanks: supply at its limits and times, keep-alive at 0.8 KA_T and just above, the third commit out of service. -/
theorem test_banks :
    let u := at' 1000000 on
    let p := wr u R.BANK_STAT_PWR 1 0 5
    let g := at' 1000007 (inScan' (fun x => { x with gridOn := true }) { up .stop with fio := { on.fio with tick := some 7 } })
    let k := wr { on with fio := { on.fio with tick := some 7 } } R.KA_STAT_KA_US 2000
    let o := wr (wr on R.BANK_STAT_OOS 1 0 5) R.BANK_STAT_OOS_SCANS 3 0 5
    rd u R.BANK_STAT_PWR 0 5 = 0 ∧ max u.modl.rstAt (Tab.get 0 u.fio.pwrAt 5) + 1000000 = u.time.now ∧
    ok (exec (.fieldSupplyPresent 5 175) u) (fun t => rd t R.BANK_STAT_VFIELD 0 5 == 175 && rd t R.BANK_STAT_PWR 0 5 == 1) = true ∧
    ok (exec (.fieldSupplyPresent 5 174) u) (fun t => rd t R.BANK_STAT_PWR 0 5 == 0) = true ∧
    ok (exec (.fieldSupplyPresent 5 175) (at' 999999 u)) (fun t => rd t R.BANK_STAT_PWR 0 5 == 0) = true ∧
    rd p R.BANK_STAT_PWR 0 5 = 1 ∧ ok (exec (.fieldSupplyLost 5 173) p) (fun t => rd t R.BANK_STAT_PWR 0 5 == 0 && isPresent t 0x0706)
      = true ∧
    ok (exec (.fieldSupplyLost 5 5000) p) (fun t => rd t R.BANK_STAT_VFIELD 0 5 == 0x3FF && rd t R.BANK_STAT_PWR 0 5 == 1) = true ∧
    g.modl.prismStop = false ∧ g.scan.gridOn = true ∧ (admittedLanes g).length = 3 ∧ g.fio.tick = some 7 ∧
    ok (exec .keepaliveTick1ms g) (fun t => t.fio.tick == some 1000007) = true ∧ idle .keepaliveTick1ms (at' 1000006 g) = true ∧
    k.fio.tick = some 7 ∧ rd k R.BANK_STAT_KA_TRIP 0 5 = 0 ∧ rd k R.KA_STAT_KA_US = 2000 ∧
    ok (exec (.keepaliveTrip 5) (at' 1600008 k)) (fun t => rd t R.BANK_STAT_KA_TRIP 0 5 == 1 && bitAt t.fio.kaNew 5 == 1
      && !isPresent t 0x070B) = true ∧
    idle (.keepaliveTrip 5) (at' 1600007 k) = true ∧
    (let n := wr { on with fio := { on.fio with kaNew := 32 } } R.BANK_STAT_KA_TRIP 1 0 5
     bitAt n.fio.kaNew 5 = 1 ∧ condActive (kaRecord n) 0x070B = true) ∧
    rd o R.BANK_STAT_OOS 0 5 = 1 ∧ rd o R.BANK_STAT_OOS_SCANS 0 5 = 3 ∧ idle (.bankOosOverrun 5) on = true ∧
    ok (exec (.bankOosOverrun 5) o) (fun t => rd t R.BANK_STAT_OOS 0 5 == 0 && isPresent t 0x070C) = true := by decide +kernel

/-- ReflexCells: an edge cell that has seen its transition, a level cell whose input reads 1, a pulse under way, at its end and before. -/
theorem test_reflex :
    let e := setCell (wr on R.RFX3_ARMED 1 0 63) 63 (fun x => { x with edge := true })
    let v := wr (wr (wr on R.RFX3_ARMED 1 0 63) R.RFX0_COND 2 0 63) R.CH_STAT_STATE 1 0 0
    let h := at' 5 (setCell (wr (wr on R.RFX3_HOLD 1 0 63) R.RFX0_ACTION 2 0 63) 63 (fun x => { x with pulseEnd := 1005 }))
    let w := wr (wr e R.RFX3_HOLD 1 0 63) R.RFX0_ACTION 2 0 63
    rd e R.RFX3_ARMED 0 63 = 1 ∧ rd e R.RFX3_HOLD 0 63 = 0 ∧ rd e R.RFX0_COND 0 63 < 2 ∧ (cellSt e 63).edge = true ∧
    ok (exec (.reflexFire 63) e) (fun t => rd t R.RFX3_HOLD 0 63 == 1 && t.faults.lastCode == 0x0701) = true ∧
    2 ≤ rd v R.RFX0_COND 0 63 ∧ cellCond v 63 = true ∧ rd v R.RFX3_ARMED 0 63 = 1 ∧ rd v R.RFX3_HOLD 0 63 = 0 ∧
    idle (.reflexFire 63) on = true ∧ rd w R.RFX3_ARMED 0 63 = 1 ∧ rd w R.RFX3_HOLD 0 63 = 1 ∧ rd w R.RFX0_COND 0 63 < 2 ∧
    (cellSt w 63).edge = true ∧ 2 ≤ rd w R.RFX0_ACTION 0 63 ∧ ok (exec (.reflexFire 63) w) (fun t => !(cellSt t 63).edge) = true ∧
    rd h R.RFX3_HOLD 0 63 = 1 ∧ 2 ≤ rd h R.RFX0_ACTION 0 63 ∧ (cellSt h 63).pulseEnd ≤ h.time.now + 1000 ∧
    ok (exec (.reflexPulseEnd 63) h) (fun t => rd t R.RFX3_HOLD 0 63 == 0) = true ∧ live h = true ∧
    idle (.reflexPulseEnd 63) (at' 4 h) = true := by decide +kernel

/-- AnalogConversion: the first conversion, past the top of the code, and one too early; a band left. -/
theorem test_analog : live on = true ∧ (aiSt on 7).hist = [] ∧
    ok (exec (.aiConversion 7 70000 12000 true) on) (fun t => rd t R.AI_STAT_VCOMP 0 7 == 12000 && (aiSt t 7).limit
      && (aiSt t 7).hist == [65535] && (aiSt t 7).band == 6 && t.faults.lastCode == 0x0707) = true ∧
    (let s := setAi (wr on R.AI_CFG_FILT 0 0 7) 7 ⟨[32768], 32768, 0, false, 0, false, 0⟩
     (aiSt s 7).hist ≠ [] ∧ idle (.aiConversion 7 0 0 false) (at' 99999 s) = true ∧ (aiSt s 7).convAt + 100000 ≤ (at' 100000 s).time.now ∧
     ok (exec (.aiConversion 7 0 0 false) (at' 100000 s)) (fun t => (aiSt t 7).band == 5 && t.faults.lastCode == 0x0707
       && (aiSt t 7).low == (aiSt s 7).low) = true ∧
     ok (exec (.aiConversion 7 10650 0 false) (at' 100000 s)) (fun t => (aiSt t 7).band == 1 && t.faults.lastCode == 0x0702) = true ∧
     ok (exec (.aiConversion 7 32768 0 false) (at' 100000 s)) (fun t => decide (t.faults = s.faults)) = true) := by decide +kernel

/-- FieldEncoders: an edge for the Deadbolt alone and for the controller alone, Z in each mode, a fault and its end, the supply. -/
theorem test_encoders :
    let d := wr on R.DB_STAT_STATE 1
    let c := wr (wr on R.ENC_CFG_EN 1 0 3) R.ENC_CFG_INV 1 0 3
    let z := wr { up .run with fio := { on.fio with enc := [(3, ⟨7, 0, 65535, false, 0⟩)] } } R.ENC_CFG_ZMODE 2 0 3
    let v := { on with fio := { on.fio with encV := [(3, some true)] } }
    let f := at' 10000000 (wr on R.FENC_STAT_FAULT 1 0 3)
    dbLive d = true ∧ ok (exec (.encEdge 3 false) d) (fun t => rd t R.ENC_CNT_COUNT 0 3 == 0xFFFFFFFF) = true ∧
    rd c R.ENC_CFG_EN 0 3 = 1 ∧ dbLive c = false ∧ ok (exec (.encEdge 3 true) c) (fun t => (encSt t 3).count == 0xFFFFFFFF) = true ∧
    rd z R.ENC_CFG_ZMODE 0 3 = 2 ∧ ok (exec (.encZPulse 3) z) (fun t => (encSt t 3).zpos == 7 && (encSt t 3).count == 0
      && (encSt t 3).zcnt == 0) = true ∧
    ok (exec (.encZPulse 3) (wr z R.ENC_CFG_ZMODE 1 0 3)) (fun t => (encSt t 3).count == 0 && (encSt t 3).zseen) = true ∧
    ok (exec (.encZPulse 3) (wr z R.ENC_CFG_ZMODE 0 0 3)) (fun t => (encSt t 3).count == 7) = true ∧
    ok (exec (.encFault 3 2) on) (fun t => rd t R.FENC_STAT_FAULT 0 3 == 1 && condActive t 0x0709) = true ∧
    rd f R.FENC_STAT_FAULT 0 3 = 1 ∧ (encSt f 3).fltAt + 10000000 ≤ f.time.now ∧
    ok (exec (.encFaultClear 3) f) (fun t => rd t R.FENC_STAT_FAULT 0 3 == 0) = true ∧ idle (.encFaultClear 3) (at' 9999999 f) = true ∧
    Tab.get none on.fio.encV 3 = none ∧ ok (exec (.encVSwitchOn 3 true) (at' 10000000 on)) (fun t => rd t R.FENC_STAT_HTL 0 3 == 1) = true ∧
    idle (.encVSwitchOn 3 true) (at' 9999999 on) = true ∧ idle (.encVSwitchOn 3 false) (at' 10000000 v) = true ∧
    Tab.get none v.fio.encV 3 = some (!false) ∧ ok (exec (.encTypeChange 3 false) v) (fun t => bitAt t.fio.encOff 3 == 1) = true ∧
    live State.reset = false ∧ ok (exec (.encTypeChange 3 true) State.reset) (fun t => rd t R.FENC_STAT_HTL 0 3 == 1) = true := by
  decide +kernel

/-! ## The Deadbolt -/

/-- The Deadbolt in a state, with bytes of its armed block: axis 3 of a kind, brake 1 for the holding axis, P_CHK 16 ms. -/
def bolt (st kind : Nat) : State :=
  w32 (wbs (wr on R.DB_STAT_STATE st) .paramArmed (axBase 3) [BitVec.ofNat 8 kind, 1]) .paramArmed 4 16000
/-- Axis 3 in a state. -/
def axis3 (st kind ax : Nat) : State := inDb (fun d => { d with te := 8, teS := 8 }) (wr (bolt st kind) R.AXIS_STAT_STATE ax 0 3)

/-- AxisImmediate: unused, locked, safe, released and stopping. -/
theorem test_axisImmediate :
    let r := axis3 3 1 axReleased
    axKind (bolt 3 0) 3 = 0 ∧ axisNow (bolt 3 0) 3 15 true = bolt 3 0 ∧
    axState (axis3 3 1 axLocked) 3 = axLocked ∧ axisNow (axis3 3 1 axLocked) 3 15 true = axis3 3 1 axLocked ∧
    axState (axis3 3 1 axSafe) 3 = axSafe ∧ axState (axisNow (axis3 3 1 axSafe) 3 15 true) 3 = axLocked ∧ axKind r 3 ≠ 0 ∧ axState r 3 = axReleased ∧
    axState (axisNow r 3 15 true) 3 = axLocked ∧ axState (axisNow r 3 15 false) 3 = axSafe ∧ (axisNow r 3 15 false).db.te = 0 ∧
    (axSt (setAx r 3 (fun x => { x with lockNext := 6 })) 3).lockNext ≠ 0 ∧
    axState (axisNow (setAx r 3 (fun x => { x with lockNext := 6 })) 3 9 false) 3 = axLocked ∧
    axState (axis3 3 2 axStopping) 3 = axStopping := by decide +kernel

set_option maxRecDepth 20000 in
/-- DeadboltFault: the codes 1, 3 and 5, the codes beyond, a block that no longer fits its CRC. -/
theorem test_deadboltFault :
    let a := inDb (fun d => { d with armedOnce := true, pumpD := true, pumpS := true, tpo := 15 }) (axis3 3 1 axReleased)
    let p := inDb (fun d => { d with pumpS := false }) a
    live a = true ∧ dbLive a = true ∧ ok (exec (.dbInternalFault 3) a) (fun t => rd t R.DB_STAT_FCODE == 3 && t.db.te == 0
      && isPresent t 0x0610) = true ∧ p.db.pumpS = false ∧ ok (exec (.dbInternalFault 5) p) (fun t => rd t R.DB_STAT_FCODE == 5) = true ∧
    idle (.dbInternalFault 5) a = true ∧ idle (.dbInternalFault 6) a = true ∧ idle (.dbInternalFault 4) a = true ∧
    idle (.dbInternalFault 0) a = true ∧ a.db.armedOnce = true ∧ crc32c (rbs a .paramArmed 0 0x3FC) ≠ rd a R.DB_PARAM_ID_ID ∧
    ok (exec .paramCrcRecheck a) (fun t => rd t R.DB_STAT_FCODE == 4 && rd t R.DB_STAT_STATE == 0xF) = true ∧
    (let b := wr a R.DB_PARAM_ID_ID (crc32c (rbs a .paramArmed 0 0x3FC))
     crc32c (rbs b .paramArmed 0 0x3FC) = rd b R.DB_PARAM_ID_ID ∧ idle .paramCrcRecheck b = true) := by decide +kernel

/-- SelftestAndDebug: in SELFTEST and out of it; an open port of an admitted lane and of another, a closed one, the Keeper. -/
theorem test_selftestDebug :
    let p := setLane (up .service) .z (fun x => { x with portOpen := true })
    let q := setLane p .z (fun x => { x with admitted := false })
    dbState (bolt 1 0) = dbSelftest ∧ ok (exec (.dbSelftestEnd true) (bolt 1 0)) (fun t => dbState t == dbConfig && t.db.tpo == 0xF) = true ∧
    ok (exec (.dbSelftestEnd false) (bolt 1 0)) (fun t => rd t R.DB_STAT_FCODE == 0xF) = true ∧
    dbState (bolt 3 0) ≠ dbSelftest ∧ idle (.dbSelftestEnd false) (bolt 3 0) = true ∧
    (lane p .z).portOpen = true ∧ (lane p .z).admitted = true ∧
    ok (exec (.debugPortAccess (some .z)) p) (fun t => (lane t .z).dbgAct && rdL t R.EXCL_CAUSE .x 2 == 10) = true ∧
    (lane q .z).portOpen = true ∧ (lane q .z).admitted = false ∧
    ok (exec (.debugPortAccess (some .z)) q) (fun t => (lane t .z).dbgAct && rd t R.DB_STAT_DBG_HOLD == 1) = true ∧
    idle (.debugPortAccess (some .z)) (up .service) = true ∧ idle (.debugPortAccess none) p = true := by decide +kernel

/-- SwitchSupply: both pumps toggling, one stopped. -/
theorem test_switchSupply :
    let p := inDb (fun d => { d with pumpS := true, pumpD := true }) (axis3 3 1 axReleased)
    p.db.pumpS = true ∧ p.db.pumpD = true ∧ axKind p 3 ≠ 0 ∧ axState p 3 = axReleased ∧
    ok (exec .sv24Loss p) (fun t => rd t R.DB_STAT_VGD_OK == 0 && t.db.te == 0 && axState t 3 == axSafe) = true ∧
    ok (exec .sv24Return (inDb (fun d => { d with sv24 := false }) p)) (fun t => rd t R.DB_STAT_VGD_OK == 1) = true ∧
    ok (exec (.vgdLoss false true) p) (fun t => rd t R.DB_STAT_PUMP_D_OK == 0 && t.db.te == 0) = true ∧
    on.db.pumpS = false ∧ ok (exec .sv24Return (inDb (fun d => { d with sv24 := false }) on)) (fun t => t.db.sv24 &&
      rd t R.DB_STAT_VGD_OK == 0) = true := by decide +kernel

/-- A check point at the edge of the strobe window, every response right. -/
def checkPoint : State :=
  let s := inScan' (fun x => { x with gridOn := true, gridPer := 1 }) (at' 17002000 (wr (wrAll (wrAll (bolt 3 0) R.SCAN_CTRL_SRC 1)
    R.COMMIT_OFS_OFS_US 1) R.TB_VAL_NS 1000 0 1))
  let c := rd s R.DB_CHAL_C
  let good := fun l => some (dbResponse (respInit l) c)
  inDb (fun d => { d with acq := true, strobeAt := some 0, prism := some (c, dbResponse respPInit c), resp := ⟨good .x, good .y, good .z⟩ }) s

/-- ChallengeResponse: liveness holds at the edge of the window; it fails with one response, and at the strobe's time-out; in CONFIG;
a point that has not come, and one that has been taken. -/
theorem test_challenge :
    let s := checkPoint
    let c := rd s R.DB_CHAL_C
    let one := inDb (fun d => { d with resp := ⟨d.resp.x, none, none⟩ }) s
    live s = true ∧ rdL s R.SCAN_CTRL_SRC .x = 1 ∧ dbArmed s = true ∧ rd s R.DB_STAT_LIVE_FAIL = 0 ∧ s.db.acq = true ∧
    checkCome s 0 = true ∧ checkAhead s = true ∧ dbState (wr s R.DB_STAT_STATE dbConfig) = dbConfig ∧
    s.db.prism.isSome = true ∧ strobeOk s = true ∧ s.db.prism = some (c, dbResponse respPInit c) ∧
    (∀ l ∈ Lane.all, (s.db.resp.get l == some (dbResponse (respInit l) c)) = true) ∧
    (Lane.all.filter (fun l => one.db.resp.get l == some (dbResponse (respInit l) c))).length < 2 ∧
    strobeOk (at' 17002001 s) = false ∧ s.db.strobeAt = some 0 ∧ pChk s + chkTol s ≤ s.time.now - 0 ∧
    ok (exec .dbStrobeTimeout s) (fun t => isPresent t 0x0611 && t.modl.mode == .safe) = true ∧
    idle .dbStrobeTimeout (at' 17001999 s) = true ∧ idle .dbCheckPoint on = true ∧
    idle .dbCheckPoint (inDb (fun d => { d with chkAt := some (cycleSerial s) }) s) = true ∧
    laneClocked s .z = true ∧ (lane s .z).injRun = false ∧ ok (exec (.dbResp .z 7) s) (fun t => t.db.resp.z == some 7) = true := by decide +kernel

/-- SafetyInputs: terminals, filter, discrepancy, and the test pulse of TPO 3. -/
theorem test_safetyInputs :
    let c := bolt 2 0
    let f := setSi (wb c .paramArmed (0x10 + 8 * 7 + 4) 10) 15 (fun x => { x with raw := true, cand := true })
    let t := wr (setSi (setSp (wbs c .paramArmed 0x4E [2, 0]) 7 (fun x => { x with at_ := 5 })) 14 (fun x => { x with filt := true }))
      R.SPAIR_STAT_STATE 2 0 7
    let r := at' 500000 (setPulse c 3 (fun x => { x with run := true, cross := 1 }))
    let w := at' 100000 (setPulse (wb c .paramArmed (0x10 + 8 * 7 + 2) 4) 3 (fun x => { x with run := true }))
    dbState c ≠ dbReset ∧ (siSt c 15).raw ≠ true ∧ inOwnWindow c 15 = false ∧
    ok (exec (.siTerminalChange 15 true) (at' 4 c)) (fun u => siSt u 15 == ⟨true, true, false, 4, 0⟩) = true ∧
    inOwnWindow w 14 = true ∧ ok (exec (.siTerminalChange 14 true) w) (fun u => siSt u 14 == ⟨true, false, false, 0, 0⟩) = true ∧
    dbLive f = true ∧ dbState f ≠ dbSelftest ∧ (siSt f 15).cand ≠ (siSt f 15).filt ∧ inOwnWindow f 15 = false ∧
    sideFilt f 15 + (siSt f 15).paused = 1000000 ∧ 1000000 ≤ (at' 1000000 f).time.now - (siSt f 15).chgAt ∧
    ok (exec (.siFilterExpiry 15) (at' 1000000 f)) (fun u => (siSt u 15).filt) = true ∧ idle (.siFilterExpiry 15) (at' 999999 f) = true ∧
    dbLive t = true ∧ rd t R.SPAIR_STAT_STATE 0 7 = 2 ∧ (spSt t 7).at_ + msNs (par t (0x16 + 8 * 7) 2) = 2000005 ∧
    ok (exec (.pairDiscrepancyTimeout 7) (at' 2000005 t)) (fun u => rd u R.SPAIR_STAT_STATE 0 7 == 3 && rd u R.SPAIR_STAT_FCAUSE 0 7 == 1)
      = true ∧ idle (.pairDiscrepancyTimeout 7) (at' 2000004 t) = true ∧
    dbState c = dbConfig ∧ pulseDue (at' 75000000 c) 3 = true ∧ idle (.testPulse 3) (at' 74999999 c) = true ∧
    ok (exec (.testPulse 3) (at' 75000000 c)) (fun u => (pulseSt u 3).run && (pulseSt u 3).start == 75000000) = true ∧
    (pulseSt r 3).run = true ∧ (pulseSt r 3).start + tpW r + 100000 = r.time.now ∧
    ok (exec (.pulseWindowEnd 3) (at' 400000 r)) (fun u => bitAt u.db.tpo 3 == 1 && !(pulseSt u 3).run) = true ∧
    idle (.pulseWindowEnd 3) (at' 399999 r) = true ∧
    (pulseSt r 3).cross ≠ 0 ∧ ok (exec (.crossConnectionCheck 3) r) (fun u => (pulseSt u 3).cross == 0) = true ∧
    idle (.crossConnectionCheck 3) (at' 499999 r) = true ∧ idle (.crossConnectionCheck 3) (at' 500000 c) = true ∧
    (let q := bolt 1 0
     let p := inDb (fun d => { d with tpo := 7 }) (setPulse q 3 (fun x => { x with run := true, start := 5 }))
     dbState q = dbSelftest ∧ selftestPulseDue (at' 2500000 q) 0 = true ∧ dbState (at' 2500000 q) = dbSelftest ∧
     ok (exec (.testPulse 0) (at' 2500000 q)) (fun u => bitAt u.db.tpo 0 == 0 && (pulseSt u 0).run) = true ∧
     selftestPulseDue p 3 = false ∧ idle (.testPulse 3) p = true ∧ dbState p = dbSelftest ∧ (pulseSt p 3).run = true ∧
     ok (exec (.pulseWindowEnd 3) (at' 200005 p)) (fun u => bitAt u.db.tpo 3 == 1 && !(pulseSt u 3).run) = true ∧
     idle (.pulseWindowEnd 3) (at' 200004 p) = true) := by decide +kernel

/-- AxisTimes: a computation, a standstill, T_STOP_MAX, T_HOLD and T_PRE at their ends and 1 ns before. -/
theorem test_axisTimes :
    let v := setAx (axis3 3 1 axStopping) 3 (fun x => { x with ssRun := 1 })
    let x := wbs v .paramArmed (axBase 3 + 20) [2, 0, 2, 0, 2, 0]
    let h := wbs (axis3 3 2 axStopping) .paramArmed (axBase 3 + 20) [2, 0, 2, 0, 2, 0]
    let r := wbs (axis3 3 2 axReleased) .paramArmed (axBase 3 + 20) [2, 0, 2, 0, 2, 0]
    let q := setAx r 3 (fun x => { x with stopAtSs := true, ssRun := 1 })
    dbLive v = true ∧ dbLive on = false ∧ idle .speedComputation on = true ∧ idle .speedComputation (at' 249999 v) = true ∧
    v.db.compAt + 250000 = (at' 250000 v).time.now ∧
    ok (exec .speedComputation (at' 250000 (wr v R.ENC_CNT_COUNT 8 0 2))) (fun t => Tab.get [] t.db.hist 2 == [8]) = true ∧
    dbArmed v = true ∧ still v 3 = true ∧ axKind v 3 = 1 ∧
    axState v 3 = axStopping ∧ ok (exec (.standstill 3) v) (fun t => axState t 3 == axSafe) = true ∧
    still q 3 = true ∧ axKind q 3 = 2 ∧ (axSt q 3).stopAtSs = true ∧ ok (exec (.standstill 3) q) (fun t => axState t 3 == axStopping) = true ∧
    still (wb v .paramArmed (axBase 3 + 14) 1) 3 = false ∧ idle (.standstill 3) (wb v .paramArmed (axBase 3 + 14) 1) = true ∧
    msNs (par x (axBase 3 + 20) 2) ≤ (at' 2000000 x).time.now - (axSt x 3).stopAt ∧
    ok (exec (.tStopMaxExpiry 3) (at' 2000000 x)) (fun t => axState t 3 == axLocked && isPresent t 0x060A) = true ∧
    idle (.tStopMaxExpiry 3) (at' 1999999 x) = true ∧
    axKind h 3 = 2 ∧ msNs (par h (axBase 3 + 22) 2) ≤ (at' 2000000 h).time.now - (axSt h 3).stopAt ∧
    ok (exec (.tHoldExpiry 3) (at' 2000000 h)) (fun t => axState t 3 == axSafe) = true ∧ idle (.tHoldExpiry 3) (at' 1999999 h) = true ∧
    axKind r 3 = 2 ∧ axState r 3 = axReleased ∧ msNs (par r (axBase 3 + 24) 2) ≤ (at' 2000000 r).time.now - (axSt r 3).relAt ∧
    ok (exec (.tPreElapsed 3) (at' 2000000 r)) (fun t => (axSt t 3).preOk) = true ∧ idle (.tPreElapsed 3) (at' 1999999 r) = true := by
  decide +kernel

/-- SidesAndCurrents: side faults and off tests, a brake released for 100 ms, 3.5 A and 1 mA more, 21 mA for 10 ms while applied, encoders of
each kind of axis. -/
theorem test_sides :
    let a := inDb (fun d => { d with brk := 2, brkS := 2 }) (wr (wbs (bolt 3 1) .paramArmed (brkBase 1) [200, 0, 250, 0]) R.DB_STAT_VGD_OK 1)
    let r := at' 100000000 a
    live a = true ∧ dbLive a = true ∧ sideEnable a 11 = !false ∧
    ok (exec (.sideStuckFault 11 false) a) (fun t => bitAt t.db.stuckOff 11 == 1) = true ∧ sideEnable a 7 = false ∧
    idle (.sideStuckFault 7 false) a = true ∧ offTestDue a 11 = true ∧
    ok (exec (.sideOffTest 11 false) a) (fun t => bitAt t.db.stuckOn 11 == 1) = true ∧
    ok (exec (.sideOffTest 11 true) a) (fun t => Tab.get 0 t.db.offAt 11 == 1 && bitAt t.db.stuckOn 11 == 0) = true ∧
    offTestDue (inDb (fun d => { d with offAt := [(10, 1)] }) (at' 49999999 a)) 11 = false ∧
    idle (.sideOffTest 11 false) (inDb (fun d => { d with offAt := [(10, 1)] }) (at' 49999999 a)) = true ∧
    dbArmed r = true ∧ brkReleased r 1 = true ∧ msNs 100 ≤ r.time.now - (brSt r 1).relAt ∧ 199 < par r (brkBase 1) 2 ∧
    ok (exec (.brakeCurrentFault 1 199) r) (fun t => (brSt t 1).bCur && isPresent t 0x060E) = true ∧
    ok (exec (.brakeCurrentFault 1 250) r) (fun t => !(brSt t 1).bCur && rd t R.BRK_I_MA 0 1 == 250) = true ∧
    par a (brkBase 1 + 2) 2 < 251 ∧ ok (exec (.brakeOvercurrent 1 3501) a) (fun t => (brSt t 1).bCur) = true ∧
    ok (exec (.brakeOvercurrent 1 3500) a) (fun t => rd t R.BRK_I_MA 0 1 == 3500 && !(brSt t 1).bCur) = true ∧
    brkReleased a 1 = true ∧ ok (exec (.brakeAppliedCurrent 1 21) r) (fun t => rd t R.BRK_I_MA 0 1 == 21 && !isPresent t 0x060C) = true ∧
    (let b := bolt 3 1; brkReleased b 1 = false ∧
      ok (exec (.brakeAppliedCurrent 1 21) (at' 10000000 b)) (fun t => isPresent t 0x060C) = true ∧
      ok (exec (.brakeAppliedCurrent 1 21) (at' 9999999 b)) (fun t => !isPresent t 0x060C) = true ∧
      ok (exec (.brakeAppliedCurrent 1 20) (at' 10000000 b)) (fun t => !isPresent t 0x060C && rd t R.BRK_I_MA 0 1 == 20) = true) ∧
    axKind a 3 = 1 ∧ ok (exec (.dbEncoderFault 3) a) (fun t => axState t 3 == axLocked && bitAt t.db.encFlt 3 == 1) = true ∧
    axKind (bolt 3 2) 3 = 2 ∧ axBrk (bolt 3 2) 3 = 1 ∧ ok (exec (.dbEncoderFault 3) (bolt 3 2)) (fun t => (brSt t 1).bEnc) = true ∧
    axKind a 2 = 0 ∧ ok (exec (.dbEncoderFault 2) a) (fun t => isPresent t 0x0609) = true ∧
    (let e := inDb (fun d => { d with encFlt := 8, encAt := [(3, 7)] }) a; bitAt e.db.encFlt 3 = 1 ∧
      ok (exec (.dbEncoderFaultClear 3) (at' 10000007 e)) (fun t => t.db.encFlt == 0) = true ∧
      idle (.dbEncoderFaultClear 3) (at' 10000006 e) = true) := by decide +kernel

/-- BrakeTests: the brake of holding axis 3 at the ends of ENGAGE, LOAD, interval, grace and allowance, and 1 ns before. -/
theorem test_brakeTests :
    let a := wbs (bolt 3 2) .paramArmed (brkBase 1 + 4) [2, 0, 3, 0, 0, 0, 1, 1, 1]
    let e := wr a R.BRK_STAT_BT_PHASE 1 0 1
    let l := wr a R.BRK_STAT_BT_PHASE 2 0 1
    let d := wr a R.BRK_STAT_BT_DUE 1 0 1
    let i := wr a R.BRK_STAT_BT_DUE 0 0 1
    let w := at' 60000000000 (wr a R.BRK_STAT_ALLOW_RUN 1 0 1)
    live a = true ∧ brkAxis a 1 = some 3 ∧ btPhase e 1 = 1 ∧ msNs (par e (brkBase 1 + 4) 2) = 2000000 ∧ (brSt e 1).btAt = 0 ∧
    ok (exec (.brakeTestEngageEnd 1) (at' 2000000 e)) (fun t => btPhase t 1 == 2) = true ∧ idle (.brakeTestEngageEnd 1) (at' 1999999 e) = true ∧
    btPhase l 1 = 2 ∧ msNs (par l (brkBase 1 + 4) 2 + par l (brkBase 1 + 6) 2) = 5000000 ∧
    ok (exec (.brakeTestPass 1) (at' 5000000 l)) (fun t => btPhase t 1 == 3 && rd t R.BRK_STAT_BT_RESULT 0 1 == 1) = true ∧
    idle (.brakeTestPass 1) (at' 4999999 l) = true ∧
    rd i R.BRK_STAT_BT_DUE 0 1 = 0 ∧ par i (brkBase 1 + 10) 1 = 1 ∧
    ok (exec (.btIntervalExpiry 1) (at' 3600000000000 i)) (fun t => t.faults.lastCode == 0x0606) = true ∧
    idle (.btIntervalExpiry 1) (at' 3599999999999 i) = true ∧ Tab.get false i.faults.active (65536 * 0x0606 + 1) = false ∧
    (let n := inFlt (fun x => { x with active := [(65536 * 0x0606 + 1, true)] }) i
     ok (exec (.btIntervalExpiry 1) (at' 3600000000000 n)) (fun t => rd t R.BRK_STAT_BT_DUE 0 1 == 1 && decide (t.faults = n.faults))
       = true) ∧
    rd d R.BRK_STAT_BT_DUE 0 1 = 1 ∧ par d (brkBase 1 + 11) 1 = 1 ∧
    ok (exec (.btGraceExpiry 1) (at' 60000000000 d)) (fun t => (brSt t 1).bGrace) = true ∧ idle (.btGraceExpiry 1) (at' 59999999999 d) = true ∧
    rd w R.BRK_STAT_ALLOW_RUN 0 1 = 1 ∧ 60000000000 * par w (brkBase 1 + 12) 1 ≤ w.time.now - (brSt w 1).allowAt ∧
    axState (wr w R.AXIS_STAT_STATE 1 0 3) 3 = axReleased ∧ idle (.brkAllowExpiry 1) (at' 59999999999 w) = true ∧
    ok (exec (.brkAllowExpiry 1) (wr w R.AXIS_STAT_STATE 1 0 3)) (fun t => (axSt t 3).stopAtSs && isPresent t 0x060F) = true ∧
    axState w 3 ≠ axReleased ∧ ok (exec (.brkAllowExpiry 1) w) (fun t => rd t R.BRK_STAT_ALLOW_EXP 0 1 == 1) = true := by decide +kernel

/-! ## Luosh and Penesh -/

/-- A frame of node 3 in slot 0 of cycle 0, with both checks right. -/
def frame (kind : Nat) (dir : Bool) (payload : List Byte) : Frame := nodeFrame 3 kind 0 0 dir false false payload

/-- A node in a state, cycles of 1 ms, port 3 linked and measured, a schedule of one slot of 5 µs with a third word. -/
def lu (st w2 : Nat) : State :=
  w32 (w32 (wr (wr (wr (wr (inLu (fun x => { x with ports := [(3, ⟨true, 16, 3200, 0, 0⟩)], atStart := st }) on) R.LU_STAT_STATE st)
    R.PORT_LINK 1 0 3) R.LU_SLOT_CNT_COUNT 1) R.LU_CYCLE_CYCLE_US 1000) .slotTab 4 5000) .slotTab 8 w2

/-- LuoshPorts, links: up while off and on, PARK armed, a request in and after the free time, the sixteenth sample and the one before,
wrong checks, the mean, down. -/
theorem test_ports :
    let m := fun n => at' 340 (inLu (fun x => { x with ports := [(3, ⟨true, n, 3000, 0, 100⟩)] }) (lu 1 0))
    let rq := frame 6 false (linkPayload 0 false)
    let rs := frame 6 false (linkPayload 40 true)
    luState (lu 1 0) ≠ luOff ∧ luState (lu 0 0) = luOff ∧ parkQuiet (lu 1 0) = false ∧
    ok (exec (.linkUp 3) (lu 1 0)) (fun t => t.out.length == 1 && portSt t 3 == ⟨true, 0, 0, 0, 0⟩) = true ∧
    ok (exec (.linkUp 3) (wr (lu 1 0) R.PWR_STAT_PARK_ARM 1)) (fun t => t.out.isEmpty) = true ∧
    idle (.linkFrameRx 3 rq 0 40) (lu 0 0) = true ∧ (portSt (lu 1 0) 2).up = false ∧ idle (.linkFrameRx 2 rq 0 40) (lu 1 0) = true ∧
    (portSt (m 15) 3).up = true ∧ fcsOk rq = true ∧ headerOk rq = true ∧ rq.kind = 6 ∧ fcsOk { rq with fcs := rq.fcs + 1 } = false ∧
    headerOk (frame 7 false []) = false ∧ fcsOk (frame 7 false []) = true ∧
    (payloadOf rq).getD 4 0 ≠ 1 ∧ (payloadOf rs).getD 4 0 = 1 ∧ linkFree (m 15) 3 = true ∧ linkFree (at' 2000000 (m 15)) 3 = false ∧
    ok (exec (.linkFrameRx 3 rq 0 40) (m 15)) (fun t => decide (t.out.map (fun o => match o with
      | .luosh p f => (p.val, f.body.take 5) | _ => (9, [])) = [(3, [0, 0, 0, 40, 1])])) = true ∧
    (portSt (m 15) 3).samples = 15 ∧ (portSt (m 14) 3).samples < 15 ∧ 16 ≤ (portSt (m 16) 3).samples ∧
    ok (exec (.linkFrameRx 3 rs 2 40) (m 15)) (fun t => portSt t 3 == ⟨true, 16, 3202, 0, 340⟩ && t.out.isEmpty) = true ∧
    ok (exec (.linkFrameRx 3 rs 2 40) (m 14)) (fun t => (portSt t 3).samples == 15 && t.out.length == 1) = true ∧
    idle (.linkFrameRx 3 rs 2 40) (m 16) = true ∧
    (portSt (lu 1 0) 3).samples = 16 ∧ idle (.linkMeasured 3) (m 15) = true ∧
    ok (exec (.linkMeasured 3) (lu 1 0)) (fun t => rd t R.PORT_LINK_NS 0 3 == 100) = true ∧
    ok (exec (.portLinkDown 3) (lu 1 0)) (fun t => !portReady t 3) = true := by decide +kernel

/-- LuoshPorts, forwarding: what is not forwarded; a busy port, too long a link; whole, and cut. -/
theorem test_forward :
    let g := fun st => at' 5000000 (wr (wr (wr (wr (lu st 0) R.PORT_LINK 1 0 2) R.LU_CTRL_LINES 3) R.PORT_LINK_NS 120 0 2) R.PORT_LINK_NS 120 0 3)
    let f := frame 3 false []
    luState (g 1) = luListen ∧ f.kind ≠ 6 ∧ portReady (g 1) 3 = true ∧ portReady (g 1) (otherPort 3) = true ∧
    linkFree (g 1) (otherPort 3) = false ∧ portBusy (g 1) (otherPort 3) = false ∧ rd (g 1) R.PORT_LINK_NS 0 (otherPort 3).val ≤ 120 ∧
    ok (exec (.frameForward 3 2 f 0 320) (g 1)) (fun t => decide (t.out = [.forward 2 (forwarded f 320) none])) = true ∧
    frameCheck (g 4) 3 f (arrival (g 4) 3 0) ≠ .ok ∧
    ok (exec (.frameForward 3 2 f 0 320) (g 4)) (fun t => rd t R.LINE_CUT 0 1 == 1 && t.out.length == 1) = true ∧
    portBusy (inLu (fun x => { x with txEnd := [(2, 5000001)] }) (g 1)) (otherPort 3) = true ∧
    ok (exec (.frameForward 3 2 f 0 320) (inLu (fun x => { x with txEnd := [(2, 5000001)] }) (g 1))) (fun t =>
      rd t R.LINE_OWNER_ERR 0 1 == 1 && t.out.isEmpty) = true ∧
    120 < rd (wr (g 1) R.PORT_LINK_NS 121 0 2) R.PORT_LINK_NS 0 (otherPort 3).val ∧
    ok (exec (.frameForward 3 2 f 0 320) (wr (g 1) R.PORT_LINK_NS 121 0 2)) (fun t => rd t R.LINE_SH_BLOCK 0 1 == 1 && t.out.isEmpty) = true ∧
    idle (.frameForward 3 2 f 0 320) (g 0) = true ∧ idle (.frameForward 3 1 f 0 320) (g 1) = true ∧ fcsOk f = true ∧ fcsOk (forwarded f 320) = true := by decide +kernel

/-- The payload of a CS frame of a time, with no schedule, from node 3. -/
def csData (time : Nat) : List Byte := beBytes 8 time ++ List.replicate 120 0

/-- A SYNC, ACTIVE or other node that has taken cycle 0xFFFFFFFF of node 3, its next cycle due at 1 ms, its time at `net`. -/
def inCyc (st net : Nat) : State :=
  inLu (fun x => { x with taken := some (0xFFFFFFFF, 1, 3), net := net }) (wr (wr (wr (wr (lu st 128) R.LU_CYCLE_NUM_CYCLE 0xFFFFFFFF)
    R.LU_COLD_COUNT 1) R.LU_COLD_COLD0 3) R.LU_WIN_WACC_NS 100)

/-- LuoshStates, cycle starts: each state of the node, a frame in its window and out of it. -/
theorem test_cycleStarts :
    let cs := frame 1 true (csData 1000000)
    let su := frame 2 true (csData 1000000)
    let own := fun s => wr s R.LU_NODE_NODE_ID 9
    let armed := inDb (fun x => { x with armedOnce := true })
    let a := inCyc 4 1000100
    let late := inCyc 4 1000101
    let third := wr (inLu (fun x => { x with oow := true }) late) R.LU_STAT_OOW_RUN 2
    (lu 1 0).luosh.next = none ∧ csSched cs = schedNext (lu 1 0) ∧ (lu 1 0).luosh.holdoff = false ∧ secondCopy (lu 1 0) cs = false ∧
    startOk (lu 1 0) 3 cs 1 = true ∧ startOk (lu 1 0) 3 su 2 = true ∧ startOk (lu 1 0) 3 cs 2 = false ∧
    ok (exec (.csFrameRx 3 cs 0) (lu 1 0)) (fun t => luState t == luSync && s0 t == 1000000 && t.luosh.net == 1000000) = true ∧
    ok (exec (.startupFrameRx 3 su 0) (lu 1 0)) (fun t => luState t == luSync) = true ∧
    ok (exec (.csFrameRx 3 cs 0) (at' 9 (inLu (fun x => { x with holdoff := true }) (lu 1 0)))) (fun t => luState t == luListen &&
      t.luosh.listenAt == 9) = true ∧
    ok (exec (.startupFrameRx 3 cs 0) (lu 1 0)) (fun t => luState t == luListen && rd t R.LINE_OWNER_ERR 0 1 == 1) = true ∧
    (let s := inLu (fun x => { x with taken := some (0, 1, 3) }) (lu 4 0)
     secondCopy s cs = true ∧ ok (exec (.csFrameRx 3 cs 0) s) (fun t => luState t == luActive) = true) ∧
    luState (own (lu 2 0)) = luStartup ∧ cs.node < ownNode (own (lu 2 0)) ∧ (own (lu 2 0)).luosh.startups < 3 ∧
    ok (exec (.csFrameRx 3 cs 0) (own (lu 2 0))) (fun t => luState t == luSync) = true ∧
    ownNode (lu 2 0) ≤ cs.node ∧ ok (exec (.startupFrameRx 3 su 0) (lu 2 0)) (fun t => luState t == luStartup) = true ∧
    (let m := own (inCyc 5 1000100)
     frameCheck (lineFaced m 3 cs) 3 cs (arrival (lineFaced m 3 cs) 3 0) = .ok ∧ cs.node < ownNode m ∧
     ok (exec (.csFrameRx 3 cs 0) m) (fun t => luState t == luListen) = true ∧
     frameCheck (lineFaced (lu 5 0) 3 cs) 3 cs (arrival (lineFaced (lu 5 0) 3 cs) 3 0) ≠ .ok) ∧
    ok (exec (.csFrameRx 3 cs 0) (lu 5 0)) (fun t => luState t == luMaster) = true ∧
    continues (inCyc 3 1000100) cs (arrival (inCyc 3 1000100) 3 0 - csDue cs) = true ∧
    continues (inCyc 3 1000101) cs (arrival (inCyc 3 1000101) 3 0 - csDue cs) = false ∧
    ok (exec (.csFrameRx 3 cs 0) (armed (inCyc 3 1000100))) (fun t => luState t == luActive) = true ∧
    ok (exec (.csFrameRx 3 cs 0) (inCyc 3 1000100)) (fun t => luState t == luSync) = true ∧
    ok (exec (.startupFrameRx 3 su 0) (inCyc 3 1000100)) (fun t => luState t == luSync && rd t R.LU_CYCLE_NUM_CYCLE == 0) = true ∧
    ok (exec (.csFrameRx 3 cs 0) (inCyc 3 1000101)) (fun t => luState t == luListen) = true ∧
    csSched cs = schedNext a ∧ cs.cycle = (rd a R.LU_CYCLE_NUM_CYCLE + 1) % 2 ^ 32 ∧ nodeFits a 0 cs.node = true ∧
    ok (exec (.csFrameRx 3 cs 0) a) (fun t => luState t == luActive && rd t R.LU_OFFSET_E_NS == 100 && !t.luosh.mute) = true ∧
    ok (exec (.csFrameRx 3 cs 0) late) (fun t => luState t == luActive && t.luosh.mute && rd t R.LU_STAT_OOW_RUN == 1) = true ∧
    ok (exec (.csFrameRx 3 cs 0) third) (fun t => luState t == luListen && t.luosh.holdoff) = true ∧
    csSched cs ≠ schedNext (wr a R.LU_SCHED_ID_ID 1) ∧
    ok (exec (.csFrameRx 3 cs 0) (wr a R.LU_SCHED_ID_ID 1)) (fun t => luState t == luListen) = true ∧
    startFits a 3 cs ((rd a R.LU_CYCLE_NUM_CYCLE + 1) % 2 ^ 32) = true ∧
    startFits (lu 4 0) 3 cs ((rd (lu 4 0) R.LU_CYCLE_NUM_CYCLE + 1) % 2 ^ 32) = false ∧
    ok (exec (.csFrameRx 3 cs 0) (lu 4 0)) (fun t => luState t == luActive && rd t R.LINE_OWNER_ERR 0 1 == 1) = true ∧
    (let n := inLu (fun x => { x with oowNext := true }) (wr a R.LU_STAT_OOW_RUN 2)
     ok (exec (.csFrameRx 3 cs 0) n) (fun t => luState t == luActive) = true ∧ n.luosh.oow = false ∧
     (let r := inLu (fun x => { x with oow := true }) n
      ok (exec (.csFrameRx 3 cs 0) r) (fun t => luState t == luListen && t.luosh.holdoff) = true)) ∧
    ok (exec (.startupFrameRx 3 su 0) a) (fun t => luState t == luActive) = true := by decide +kernel

/-- LuoshStates, the own times: each transition at its moment and 1 ns, or 1 cycle, before it. -/
theorem test_nodeStates :
    let net := fun n => inLu (fun x => { x with net := n })
    let cold := fun s => wr (wr s R.LU_COLD_COUNT 1) R.LU_COLD_COLD0 0
    let c := inDb (fun x => { x with armedOnce := true }) (cold (wr (lu 1 0) R.LU_TIMERS_LISTEN_BASE 0))
    let s := fun n => inLu (fun x => { x with startups := n }) (lu 2 0)
    let a := net 1001000 (wr (wr (wr (cold (lu 4 0)) R.LU_MASTER_MASTER_ID 9) R.LU_CTRL_LINES 2) R.LU_STAT_LINE_B 1)
    let h := net 1000000 (inLu (fun x => { x with ho := some (1, 0) }) (cold (lu 4 0)))
    let m := net 1000000 (wr (wr (lu 5 0) R.LU_HO_CYCLE_CYCLE 1) R.LU_HO_NODE_NODE 9)
    let b := inLu (fun x => { x with missB := 3 }) (wr (wr (lu 4 0) R.LU_STAT_LINE_B 1) R.LU_TIMERS_CS_LOSS 3)
    let z := fun st => wr (lu st 0) R.LU_WIN_WACC_NS 0
    csLast (z 3) = 1002000 ∧ ok (exec .csFrameMissing (net 1002001 (z 3))) (fun t => luState t == luListen) = true ∧
    ok (exec .csFrameMissing (net 1002001 (z 4))) (fun t => luState t == luActive && rd t R.LU_STAT_CS_RUN == 1) = true ∧
    idle .csFrameMissing (net 1002000 (z 3)) = true ∧ idle .csFrameMissing (net 1002001 (z 5)) = true ∧
    luState c = luListen ∧ (coldNodes c).contains (ownNode c) = true ∧ c.db.armedOnce = true ∧
    c.luosh.listenAt + listenNs c ≤ c.time.now ∧ startAligned c = true ∧
    ok (exec .listenTimeout c) (fun t => luState t == luStartup) = true ∧
    idle .listenTimeout (wr c R.LU_TIMERS_LISTEN_BASE 1) = true ∧
    luState (s 2) = luStartup ∧ 2 * cycleNs (s 2) ≤ (net 2000000 (s 2)).luosh.net ∧
    ok (exec .startupFrameTx (net 2000000 (s 2))) (fun t => luState t == luMaster && t.luosh.startups == 3) = true ∧
    idle .startupFrameTx (net 1999999 (s 2)) = true ∧
    ok (exec .startupFrameTx (s 0)) (fun t => luState t == luStartup && t.luosh.startups == 1) = true ∧
    yieldDue (net 1000008 (lu 5 0)) = false ∧
    ok (exec (.csFrameTx 0) (wr (net 1000008 (lu 5 0)) R.LU_CYCLE_NUM_CYCLE 0xFFFFFFFF)) (fun t => rd t R.LU_CYCLE_NUM_CYCLE == 0) = true ∧
    idle (.csFrameTx 2) (net 1000008 (lu 5 0)) = true ∧ idle (.csFrameTx 1) (net 999999 (lu 5 0)) = true ∧ idle (.csFrameTx 1) (net 1000009 (lu 5 0)) = true ∧ idle (.csFrameTx 1) (net 1000000 (lu 4 0)) = true ∧
    (let c := wr (inLu (fun x => { x with csSent := [false] }) (lu 5 0)) R.LU_CTRL_LINES 2
     linesDue c (s0 c) (rd c R.LU_MASTER_LATE_NS) ((startLines c).filter (fun b => !c.luosh.csSent.contains b)) ≠ [] ∧
     ok (exec (.csFrameTx 0) c) (fun t => t.luosh.csSent == [false, true] && t.out.length == 1) = true ∧
     handedOver m = true ∧ idle (.csFrameTx 1) m = true) ∧
    luState a = luActive ∧ a.luosh.atStart = luActive ∧ position a (rd a R.LU_MASTER_MASTER_ID) = 1 ∧
    ok (exec .successionTimeout a) (fun t => luState t == luMaster && rd t R.LU_MASTER_LATE_NS == 1000) = true ∧
    idle .successionTimeout (net 1000999 a) = true ∧
    handover h = some (1, ownNode h) ∧ (coldNodes h).contains (ownNode h) = true ∧ 1 ≤ rd h R.LU_CYCLE_NUM_CYCLE + 1 ∧ s0Next h ≤ h.luosh.net ∧
    ok (exec .handoverCycle h) (fun t => luState t == luMaster && handover t == none && t.luosh.hoDone == 1) = true ∧ idle .handoverCycle (net 999999 h) = true ∧
    handover m = some (1, 9) ∧ 9 ≠ ownNode m ∧ ok (exec .handoverCycle m) (fun t => luState t == luActive) = true ∧
    ok (exec .handoverCycle (inLu (fun x => { x with ho := some (1, 9) }) h)) (fun t => luState t == luActive &&
      rd t R.LU_MASTER_MASTER_ID == 9) = true ∧ handover (lu 4 0) = none ∧ idle .handoverCycle (lu 4 0) = true ∧
    ok (exec (.lineLost true) b) (fun t => rd t R.LU_STAT_LINE_B == 0 && isPresent t 0x0401 && luState t == luListen) = true ∧
    idle (.lineLost true) (inLu (fun x => { x with missB := 2 }) b) = true ∧
    ok (exec .rejoinHoldoffEnd (at' 8000000 (inLu (fun x => { x with holdoff := true }) (lu 1 0)))) (fun t => !t.luosh.holdoff) = true ∧
    idle .rejoinHoldoffEnd (at' 7999999 (inLu (fun x => { x with holdoff := true }) (lu 1 0))) = true := by decide +kernel

/-- LuoshSlots, received: a data slot of node 3, in its window, at the upstream close, wrong; a spare slot, free and occupied; releases. -/
theorem test_slotsRx :
    let d := fun net => inLu (fun x => { x with net := net }) (w32 (wr (lu 4 0x40030000) R.LU_WIN_WACC_NS 100) .stnTab (32 * 3) 0x80000000)
    let p := inLu (fun x => { x with net := 0 }) (lu 4 0x80000000)
    let f := frame 3 false []
    let k := frame 4 false (List.replicate 16 7)
    let o := inLu (fun x => { x with idle := [(0, 0xFFFF)] }) (wr (lu 5 0x80000000) R.OCC_OCC 1 0 0)
    luSync ≤ luState (d 2100) ∧ f.kind = 3 ∧ rd (d 2100) R.PORT_LINK 0 3 ≠ 0 ∧ fcsOk f = true ∧
    frameCheck (d 2100) 3 f (arrival (d 2100) 3 0) = .ok ∧ (slotEnt (d 2100) f.slot).kind = 1 ∧ (slotEnt (d 2100) f.slot).dn = false ∧
    (stnEnt (d 2100) 3).en = true ∧ (stnEnt (d 2100) 3).spare = false ∧ (stnEnt (d 2100) 3).inSlot = f.slot ∧
    ok (exec (.dataFrameRx 3 f 0 (.all false) (.all true)) (d 2100)) (fun t => t.luosh.slots == [0] && t.luosh.rx == [(3, true)] &&
      t.scan.staged == [(3, 1)] && (lane t .z).bcastUnc) = true ∧
    frameCheck (d 2101) 3 f (arrival (d 2101) 3 0) = .window ∧
    ok (exec (.dataFrameRx 3 f 0 (.all false) (.all false)) (d 2101)) (fun t => rd t R.STN_CNT1_OOW 0 3 == 1) = true ∧
    ok (exec (.dataFrameRx 3 { f with fcs := 0 } 0 (.all false) (.all false)) (d 2100)) (fun t => rd t R.LINE_FCS_ERR 0 1 == 1) = true ∧
    ok (exec (.dataFrameRx 3 f 0 (.all false) (.all false)) (inLu (fun x => { x with slots := [0] }) (d 0))) (fun t =>
      t.luosh.slots == [0] && t.scan.staged.isEmpty) = true ∧
    idle (.dataFrameRx 3 f 0 (.all false) (.all false)) (lu 1 0) = true ∧ idle (.claimFrameRx 3 k 0) (lu 1 0) = true ∧
    k.kind = 4 ∧ fcsOk k = true ∧ frameCheck p 3 k (arrival p 3 0) = .ok ∧ spareIdx p k.slot = some 0 ∧ occupied p 0 = false ∧
    p.luosh.slots.contains k.slot = false ∧
    ok (exec (.claimFrameRx 3 k 0) p) (fun t => t.luosh.claims == [(0, ⟨3, 0x07070707, 0x0707⟩)]) = true ∧
    occupied (wr p R.OCC_OCC 1 0 0) 0 = true ∧
    ok (exec (.claimFrameRx 3 k 0) (wr p R.OCC_OCC 1 0 0)) (fun t => rd t R.LINE_OWNER_ERR 0 1 == 1) = true ∧
    occupied o 0 = true ∧ rd o R.LU_TIMERS_RELEASE ≤ Tab.get 0 o.luosh.idle 0 ∧ luState o = luMaster ∧ o.luosh.releases.contains 0 = false ∧
    ok (exec (.spareRelease 0) o) (fun t => t.luosh.releases == [0]) = true ∧ idle (.spareRelease 511) o = true := by decide +kernel

/-- LuoshSlots, sent: a DN slot of the master without outputs, new and repeated; an own slot voted. -/
theorem test_slotsTx :
    let dn := inLu (fun x => { x with shFirst := true }) (wr (lu 5 0x58000001) R.LU_CTRL_LINES 3)
    let d3 := adm Lane.all dn
    let own := adm Lane.all (wr (lu 4 0x48000001) R.LU_CTRL_LINES 3)
    let run := fun fresh s => inScan' (fun x => { x with outs := true }) (inLu (fun x => { x with fresh := fresh }) s)
    (slotEnt dn 0).kind = 1 ∧ (slotEnt dn 0).dn = true ∧ 0 < rd dn R.LU_SLOT_CNT_COUNT ∧ luState dn = luMaster ∧ luActive ≤ dn.luosh.atStart ∧
    dn.luosh.mute = false ∧ slotNow dn 0 3 0 = false ∧ idle (.dataSlotTx 0 3 0) dn = true ∧
    (let w := fun s => wr s R.PORT_INWARD 0 0 3
     slotNow (w32 (w dn) .slotTab 8 0x70000001) 0 3 0 = true ∧ entitled dn = true ∧ dn.luosh.atStart = luMaster ∧
     ok (exec (.dataSlotTx 0 3 0) (at' 2000000 (w32 (w dn) .slotTab 8 0x70000001))) (fun t => rd t R.LINE_SH_BLOCK 0 1 == 1) = true ∧
     (let s := w32 (run true d3) .slotTab 8 0x70000001
      s.luosh.safeTx = false ∧ s.scan.outs = true ∧ s.modl.prismStop = false ∧ (votingLanes s).length = 3 ∧
      (∀ l ∈ Lane.all, dnStaged s l 0 = [0]) ∧ ok (exec (.dataSlotTx 0 3 0) s) (fun t => t.luosh.dn == [(0, [0])]) = true) ∧
     (let s := w32 (run false d3) .slotTab 8 0x70000001
      let held := fun x => inLu (fun u => { u with sent := [(0, some ⟨0, x⟩)] }) s
      s.luosh.fresh = false ∧ ok (exec (.dataSlotTx 0 3 0) s) (fun t => t.out.length == 1 && decide (t.luosh.sent = [(0, some ⟨0, some (true, true, [0])⟩)]))
        = true ∧ ok (exec (.dataSlotTx 0 3 0) (held (some (true, false, [7])))) (fun t => t.out.length == 1) = true ∧
      ok (exec (.dataSlotTx 0 3 0) (held none)) (fun t => t.out.isEmpty) = true) ∧
     (let s := w32 own .slotTab 8 0x60000001
      slotNow s 0 3 0 = true ∧ (slotEnt s 0).owner = ownNode s ∧ isHealthSlot s 0 = false ∧ (∀ l ∈ Lane.all, ownStaged s l 0 = [0]) ∧
      ok (exec (.dataSlotTx 0 3 0) s) (fun t => t.out.length == 1) = true)) := by decide +kernel

/-- A connection in a state in every lane, in an open scan. -/
def conn (st : PslState) : State :=
  let cfg : PslCfg := ⟨true, false, true, 1, 8, 0, 1, 2, 0, 0, 0, 0, false, 0, false, 0, 0⟩
  let c : PslConn := ⟨st, false, 0, 0, [], 0, 0, 0, false, false, false, [], false⟩
  wrAll (wrAll (inScan' (fun x => { x with isOpen := true }) { on with psl := { on.psl with conns := [cfg], lanes := .all [(0, c)] } })
    R.TX_LO_TX 2000001) R.TX_HI_TX 0

/-- PeneshTimes: T_EXP of 2 ms passed by 1 ns, and not; a restart, and none; a connection that is not configured; datagrams. -/
theorem test_penesh :
    let cfg : PslCfg := ⟨true, false, true, 1, 8, 0, 1, 2, 0, 0, 0, 0, false, 0, false, 0, 0⟩
    let early := fun st => wrAll (conn st) R.TX_LO_TX 1999999
    (conn .run).psl.conns[0]? = some cfg ∧
    (∀ l ∈ Lane.all, pslAhead (conn .run) l = true ∧ pslPresent (conn .run) l cfg = [] ∧ pslTimedOut (conn .run) l 0 cfg = true) ∧
    ok (exec (.pslTimeout 0) (conn .run)) (fun t => (pslGet t .z 0).err == 8) = true ∧ idle (.pslTimeout 0) (early .run) = true ∧
    (∀ l ∈ Lane.all, pslRestartDue (conn .error) l 0 cfg = true) ∧
    ok (exec (.pslErrorRestart 0) (conn .error)) (fun t => (pslGet t .x 0).st == .start) = true ∧
    idle (.pslErrorRestart 0) (early .error) = true ∧
    on.psl.conns[255]? = none ∧ idle (.pslTimeout 255) on = true ∧
    (let k := inKp (fun x => { x with up := true }) on; keeperUp k = true ∧
      ok (exec (.pslEthDatagramRx 7 [1]) k) (fun t => t.psl.waiting == [(7, [1])]) = true) ∧ keeperUp on = false := by decide +kernel
/-! ## Pairs, cascades, time -/

/-- HaspAndPair: the peer's Hasp with this one free and held, by PREF and time; tests, the referee, TAKEBACK, yielding, each at its time
and before it. -/
theorem test_hasp :
    let h := wr on R.HASP_STAT_HELD 1
    let now := fun n => at' n h
    let p := wrAll on R.PAIR_CFG_EN 1
    let tb := fun x => inScan' (fun k => { k with tx := x }) (inPair (fun x => { x with tbSince := some 0 }) (wrAll p R.PAIR_TIME_HOLD_OFF 1))
    let y := fun n => inLu (fun x => { x with net := n }) (inPair (fun x => { x with peerNamed := true }) (wr (wr p R.LU_STAT_STATE 5)
      R.LU_CYCLE_CYCLE_US 1000))
    let b := fun n => at' n (inPair (fun x => { x with burstTx := some 0, burstRx := some 0 }) (wr on R.HASP_STAT_PAIR_ACT 1))
    rd on R.HASP_STAT_HELD = 0 ∧ ok (exec .haspInHeld on) (fun u => rd u R.HASP_STAT_PEER_HELD == 1) = true ∧
    rd (now 100001) R.HASP_STAT_HELD = 1 ∧ (now 100001).time.now - (now 100001).pair.tTake = 100001 ∧
    ok (exec .haspInHeld (now 100001)) (fun u => rd u R.HASP_STAT_CONFLICT == 1 && isPresent u 0x0804) = true ∧
    (now 100000).time.now - (now 100000).pair.tTake ≤ 100000 ∧ rd h R.HASP_CTRL_PREF = 0 ∧
    ok (exec .haspInHeld (now 100000)) (fun u => rd u R.HASP_STAT_TAKE_REF == 1 && u.faults.lastCode == 0x0806) = true ∧
    rd (wr (now 100000) R.HASP_CTRL_PREF 1) R.HASP_CTRL_PREF ≠ 0 ∧
    ok (exec .haspInHeld (wr (now 100000) R.HASP_CTRL_PREF 1)) (fun u => rd u R.HASP_STAT_HELD == 1 && rd u R.HASP_STAT_PEER_HELD == 1) = true ∧
    rd (wr on R.HASP_STAT_PEER_HELD 1) R.HASP_STAT_PEER_HELD = 1 ∧
    ok (exec .haspInFree (wr on R.HASP_STAT_PEER_HELD 1)) (fun u => rd u R.HASP_STAT_FREE_US == 0 && rd u R.HASP_STAT_PEER_HELD == 0) = true ∧ idle .haspInFree on = true ∧
    rd (b 0) R.HASP_STAT_HELD = 0 ∧ ok (exec .haspTestBurst (b 1000000000)) (fun u => decide (u.out = [.haspBurst])) = true ∧
    idle .haspTestBurst (b 999999999) = true ∧ idle .haspTestBurst h = true ∧
    ok (exec .haspBurstRx on) (fun u => rd u R.HASP_STAT_LINE_OK == 1 && rd u R.HASP_EVT_TESTS_RX == 1) = true ∧
    burstHeard (b 2499999999) = true ∧ idle .haspLineLoss (b 2499999999) = true ∧ idle .haspLineLoss (wr on R.HASP_STAT_PEER_HELD 1) = true ∧
    ok (exec .haspLineLoss (wr (b 2500000000) R.HASP_STAT_LINE_OK 1)) (fun u => rd u R.HASP_STAT_LINE_OK == 0) = true ∧
    isPair p = true ∧ ok (exec .refereeLost (inPair (fun x => { x with noVerdict := 8 }) p)) (fun u => isPresent u 0x0803) = true ∧
    idle .refereeLost (inPair (fun x => { x with noVerdict := 7 }) p) = true ∧
    isPair (tb 0) = true ∧ rdL (tb 0) R.PAIR_TIME_HOLD_OFF .x = 1 ∧
    ok (exec .takebackSet (tb 1000000000)) (fun u => rdL u R.PAIR_STAT_TAKEBACK .z == 1) = true ∧ idle .takebackSet (tb 999999999) = true ∧
    idle .takebackSet p = true ∧
    yieldDue (y 0) = true ∧ ok (exec .masterYield (y 1000000)) (fun u => luState u == luActive) = true ∧ idle .masterYield (y 999999) = true ∧
    idle .masterYield p = true := by decide +kernel

/-- A SYNC frame of the master: number 9, 1,000 µs, DELAY 50 ns. -/
def syncRx : CxFrame := cxSealed ⟨1, 1, 0, 0, 0, 0, 9, 0, 0, 0, 0, beBytes 4 1000 ++ beBytes 4 50, 0⟩

/-- CascadeLinks: member 1 of four, its neighbours, a SYNC frame at both edges of the window, and links. -/
theorem test_cascade :
    let c := setCxLink (wrAll (wrAll (wrAll on R.CX_CTRL_EN 1) R.CX_CTRL_N_MEMB 3) R.CX_STAT_POS 1) false true
    let d := setCxLink c true true
    let grid := fun n => inScan' (fun x => { x with gridOn := true, tFreeze := n }) (wr (wrAll d R.CX_STAT_SYNC_OK 1) R.TB_VAL_NS 1000 0 1)
    (2 : Fin 4).val = cxPos c + 1 ∧ (0 : Fin 4).val + 1 = cxPos c ∧ (3 : Fin 4).val ≠ cxPos c + 1 ∧
    ok (exec (.cascadeLinkUp true 2 55) c) (fun t => cxLink t true && t.cx.delayDn == 55) = true ∧
    ok (exec (.cascadeLinkUp false 0 55) c) (fun t => cxLink t false && t.cx.delayUp == 55) = true ∧
    ok (exec (.cascadeLinkUp true 3 55) c) (fun t => isPresent t 0x0810 && !cxLink t true) = true ∧
    ok (exec (.cascadeLinkUp false 3 55) c) (fun t => isPresent t 0x0810 && !cxLink t false) = true ∧
    cxOn d = true ∧ cxPos d ≠ 0 ∧ cxLink d false = true ∧ cxLink d true = true ∧ cxGood syncRx 1 = true ∧ syncRx.data.length = 8 ∧
    ok (exec (.cascadeSyncRx false syncRx 3 408) d) (fun t => decide (t.out = [.cx true (cxForwardSync d syncRx 408)]) && t.cx.syncNum == 9) = true ∧
    (cxForwardSync d syncRx 408).data = beBytes 4 1000 ++ beBytes 4 458 ∧
    cxNear (cxTakeSync (grid 1053) syncRx 3) 1053 = true ∧ cxNear (cxTakeSync (grid 1054) syncRx 3) 1054 = false ∧
    ok (exec (.cascadeSyncRx false syncRx 3 408) (grid 1053)) (fun t => rdL t R.CX_STAT_SYNC_OK .y == 1 && t.cx.syncAt == some 953) = true ∧
    ok (exec (.cascadeSyncRx false syncRx 3 408) (grid 1054)) (fun t => rdL t R.CX_STAT_SYNC_OK .y == 0 && isPresent t 0x0811) = true ∧
    cxGood { syncRx with crc := 0 } 1 = false ∧ idle (.cascadeSyncRx false { syncRx with crc := 0 } 3 408) d = true ∧
    idle (.cascadeSyncRx false syncRx 3 408) on = true ∧ idle (.cascadeSyncRx true syncRx 3 408) d = true ∧ idle .cascadeUnsync on = true ∧
    cxLapsed (wrAll c R.CX_STAT_SYNC_OK 1) = true ∧
    ok (exec .cascadeUnsync (wrAll c R.CX_STAT_SYNC_OK 1)) (fun t => rdL t R.CX_STAT_SYNC_OK .x == 0 && isPresent t 0x0811) = true ∧
    ok (exec (.cascadeLinkDown false) c) (fun t => !cxLink t false) = true ∧ cxPos (wrAll c R.CX_STAT_POS 0) = 0 ∧
    ok (exec (.cascadeLinkDown true) (wrAll (wrAll c R.CX_STAT_POS 0) R.CX_STAT_SYNC_OK 1)) (fun t => !cxLink t true &&
      rdL t R.CX_STAT_SYNC_OK .x == 0) = true := by decide +kernel

/-- TimeSnapshot: TB[3] read by lane z and by the Keeper; all bases captured. -/
theorem test_snapshot :
    let s := inTime (fun x => { x with tb2 := 0x500000008 }) (wr (wr on R.TB_VAL_NS 44 0 3) R.TB_VAL_NS 8 0 2)
    coreUp s 2 = true ∧ ok (exec (.rcFieldRead 2 (0x2002001C, .b4)) s) (fun t => decide (t.out = [.read 2 44])) = true ∧
    ok (exec (.rcFieldRead 3 (0x6002001C, .b4)) s) (fun t => decide (t.out = [.read 3 44])) = true ∧
    ok (exec .tbSnap s) (fun t => rd t R.SNAP_NS 0 3 == 44 && rd t R.SNAP_NS 0 2 == 8 && rd t R.SNAP2_HI_NS == 5) = true ∧
    live s = true := by decide +kernel

/-- TimeBases: TB[2] set back, PTP offsets of 1,000,001, 10,000 and 10,001 ns, the source not PTP, another domain, the hold-over and the
stored pair at their times. -/
theorem test_timeBases :
    let k := inKp (fun x => { x with up := true }) (inTime (fun x => { x with tb2 := 5000000 }) on)
    let p := wr k R.TB2_CTRL_SRC 1
    let q := fun n => wr (inTime (fun x => { x with pll := true, v2 := true, tb2 := 44 }) on) R.TB_VAL_NS n 0 1
    ok (exec .timePllLock on) (fun t => t.time.pll && bitAt (rd t R.TB_STAT_VALID) 1 == 1) = true ∧ keeperUp k = true ∧
    ok (exec .timePllLock (inTime (fun x => { x with v2 := true, tb2 := 44 }) on)) (fun t => t.aon.pair == some (0, 44)) = true ∧
    ok (exec (.tb2Adj (BitVec.ofInt 32 (-998))) k) (fun t => t.time.tb2 == 4999000 && t.time.v2) = true ∧
    ok (exec (.tb2Adj 4) p) (fun t => t.time.tb2 == 5000004 && !t.time.v2) = true ∧ keeperUp on = false ∧ idle (.tb2Adj 4) on = true ∧
    rd p R.TB2_CTRL_SRC ≠ 0 ∧ keeperUp p = true ∧ p.time.domain = 0 ∧
    ok (exec (.ptpSyncRx 0 3999999) p) (fun t => t.time.tb2 == 3999996 && t.time.ptpGood == 0 && t.time.ptpReq == some 3999992) = true ∧
    ok (exec (.ptpSyncRx 0 4990000) p) (fun t => t.time.tb2 == 5000000 && t.time.ptpGood == 1 && decide (t.out = [.delayReq 0])) = true ∧
    ok (exec (.ptpSyncRx 0 4989999) p) (fun t => t.time.tb2 == 5000000 && t.time.ptpGood == 0) = true ∧
    ok (exec (.ptpSyncRx 0 5010000) (inTime (fun x => { x with ptpGood := 7 }) p)) (fun t => t.time.v2 && t.time.ptpGood == 8) = true ∧
    ok (exec (.ptpSyncRx 0 5010000) (at' 2000000000 (inTime (fun x => { x with ptpGood := 7 }) p))) (fun t => t.time.ptpGood == 1) = true ∧
    ok (exec (.ptpDelayRespRx 0 300) (inTime (fun x => { x with ptpReq := some 100, ptpMs := -40 }) p)) (fun t => t.time.ptpDelay == 80) = true ∧
    p.time.ptpReq = none ∧ idle (.ptpDelayRespRx 0 300) p = true ∧
    ok (exec (.ptpAnnounceRx 0 37) p) (fun t => rd t R.TB2_CTRL_UTC_OFS == 37) = true ∧ idle (.ptpSyncRx 1 5) p = true ∧
    ok (exec .ptpHoldover (at' 10000000000 p)) (fun t => rd t R.PTP_STAT_HOLDOVER == 1) = true ∧
    idle .ptpHoldover (at' 9999999999 p) = true ∧
    rd k R.TB2_CTRL_SRC = 0 ∧ idle (.ptpSyncRx 0 5) k = true ∧
    (q 1000000000).time.pll = true ∧ (q 1000000000).time.v2 = true ∧
    ok (exec .storedPairWrite (q 1000000000)) (fun t => t.aon.pair == some (0, 44) && t.time.pairAt == 1000000000) = true ∧
    idle .storedPairWrite (q 999999996) = true := by decide +kernel

/-- EdgeCapture: the last source that CAP_SEL selects, an event source, a full latch; one place left and none; a reader. -/
theorem test_capture :
    let g := fun e => inTime (fun k => { k with edges := [e] })
    let c := wr (wr (wr on R.CAP_CTRL_EN 1) R.CAP_SEL_SEL15 2 0 3) R.CAP_SEL_SEL3 2 0 4
    let x : CapLatch := ⟨67, 12, 2, true, 0⟩
    let f := fun n => inTime (fun k => { k with capCount := n, latches := [x], capLoss := true }) c
    let r := inTime (fun x => { x with capCount := 5, capLimit := 5 }) on
    rd c R.CAP_CTRL_EN ≠ 0 ∧ bitAt (capSel c 63) 1 = 1 ∧ bitAt (capSel c 63) 0 = 0 ∧ capSel c 67 ≠ 0 ∧
    ok (exec (.captureEdge 3 15 false) (g (63, false) c)) (fun t => t.time.latches == [⟨63, 0, 1, false, 0⟩] && t.time.edges.isEmpty) = true ∧
    ok (exec (.captureEdge 4 3 true) (g (67, true) c)) (fun t => t.time.latches == [⟨67, 0, 1, true, 0⟩]) = true ∧
    ok (exec (.captureEdge 4 3 true) (g (67, true) (f 0))) (fun t => t.time.capLoss && rd t R.CAP_LOST_COUNT 3 == 1) = true ∧
    ok (exec (.captureEdge 3 15 true) (g (63, true) c)) (fun t => t.time.latches.isEmpty && t.time.edges.isEmpty) = true ∧
    ok (exec (.captureEdge 4 3 false) (g (67, false) c)) (fun t => t.time.latches.isEmpty) = true ∧ rd on R.CAP_CTRL_EN = 0 ∧
    ok (exec (.captureEdge 4 3 true) (g (67, true) on)) (fun t => t.time.latches.isEmpty && t.time.edges.isEmpty) = true ∧
    ok (exec (.captureEdge 4 4 true) (g (68, true) (wr c R.CAP_SEL_SEL4 1 0 4))) (fun t => t.time.latches.isEmpty) = true ∧
    (g (67, true) c).time.edges.contains (67, false) = false ∧ idle (.captureEdge 4 3 false) (g (67, true) c) = true ∧
    (f 1023).time.latches = [x] ∧ x.src < 68 ∧ (f 1023).time.capCount - capFreed (f 1023) < 1024 ∧
    capWord0 (capDrain (f 1023)) 1023 = 12 ∧ capWord1 (capDrain (f 1023)) 1023 = 2 ^ 31 + 2 ^ 29 + 2 ^ 28 + 2 ^ 16 * 67 + 1023 ∧
    1024 ≤ (f 1024).time.capCount - capFreed (f 1024) ∧ (capDrain (f 1024)).time.capCount = 1024 ∧
    coreUp r 2 = true ∧ ok (exec (.capRdIdxWrite 2 9) r) (fun t => Tab.get 0 t.time.capRd 2 == 5) = true ∧
    ok (exec (.capRdIdxWrite 3 5) r) (fun t => Tab.get 0 t.time.capRd 3 == 5) = true := by decide +kernel
/-! ## Power -/

/-- ResetLeaves: RST_N low on a module in RUN and on one in reset, high after power-up and when it is high; the supply gone. -/
theorem test_reset :
    let s := wb (wr (up .run) R.AXIS_STAT_STATE 1 0 3) .mram 7 9
    let o := inModl (fun x => { x with power := .off }) s
    s.modl.rst = false ∧ ok (exec .rstNAssert s) (fun t => t.modl.mode == .init && rd t R.AXIS_STAT_STATE 0 3 == 0 && rb t .mram 7 == 9
      && (admittedLanes t).isEmpty) = true ∧
    State.reset.modl.rst = true ∧ State.reset.modl.power ≠ .off ∧ idle .rstNAssert State.reset = true ∧
    ok (exec (.rstNRelease 3 true 0) State.reset) (fun t => dbState t == dbSelftest && rdL t R.CX_STAT_POS .y == 3 && t.keeper.hinge) = true ∧
    idle (.rstNRelease 3 true 0) s = true ∧ idle (.rstNRelease 3 true 0) o = true ∧ idle .logicSupplyCollapse o = true ∧
    s.modl.power ≠ .off ∧ ok (exec .logicSupplyCollapse s) (fun t => t.modl.power == .off && t.aon.rose && rb t .mram 7 == 9) = true := by
  decide +kernel

/-- SupplySignals: a first and a second edge, the window's end at its last tick and before, the module off. -/
theorem test_supply :
    let w := fun n => inAon (fun x => { x with win := some 5, winEdges := 1, ticks := n }) (wr on R.SUPW_CFG_WIN_MS 1000)
    let o := inModl (fun x => { x with power := .off }) on
    on.modl.power ≠ .off ∧ on.aon.win = none ∧ ok (exec .supwNFall on) (fun t => t.aon.win == some 0 && rd t R.SUPW_STAT_WIN_OPEN == 1)
      = true ∧
    (w 5).aon.win = some 5 ∧ ok (exec .supwNFall (w 5)) (fun t => t.aon.winEdges == 2) = true ∧ o.modl.power = .off ∧ idle .supwNFall o = true ∧
    rd (w 5) R.SUPW_CFG_WIN_MS = 1000 ∧
    ok (exec (.supplyWindowExpiry 70000 true) (w 32773)) (fun t => t.aon.win == none && rd t R.SUPW_STAT_LOW == 1) = true ∧
    idle (.supplyWindowExpiry 70000 true) (w 32772) = true ∧
    idle (.supplyWindowExpiry 5 true) on = true ∧ ok (exec (.vbatLowChange true) on) (fun t => rd t R.AON_STAT_VBAT_LOW == 1) = true ∧
    ok (exec .aonSupplyLoss (inAon (fun x => { x with ticks := 9 }) on)) (fun t => t.aon.ticks == 0) = true := by decide +kernel

/-- ParkAndWake: PARK with the Keeper up and without, PARK_ARM at 100 ms and before, each wake source, the wake after 7 ticks, the WAKE
frame, the time-out. -/
theorem test_park :
    let a := inKp (fun x => { x with up := true }) (wr (up .run) R.PWR_STAT_PARK_ARM 1)
    let b := inAon (fun x => { x with armAt := some 0 }) (wr on R.PWR_STAT_PARK_ARM 1)
    let e := wr (wr (wr (wr on R.PWR_STAT_PARK_ARM 1) R.WAKE_CFG_WAKEN_EN 1) R.WAKE_CFG_LUOSH_EN 1) R.WAKE_CFG_ALARM_EN 1
    let z := wr (wr (wr on R.WAKE_CFG_WAKEN_EN 0) R.WAKE_CFG_LUOSH_EN 0) R.WAKE_CFG_ALARM_EN 0
    let p := inAon (fun x => { x with wake := some 3, ticks := 2, parkTick := 2 ^ 48 - 5, parkTb1 := 2 ^ 32 - 4 })
      (inModl (fun x => { x with power := .park }) on)
    let w := frame 5 false (List.replicate 8 0)
    let l := fun n => at' n (inAon (fun x => { x with luosh := true }) (lu 1 0))
    live a = true ∧ rd a R.PWR_STAT_PARK_ARM = 1 ∧ keeperUp a = true ∧
    ok (exec .parkGo a) (fun t => t.modl.power == .park && t.modl.mode == .stop && !t.time.pll) = true ∧ idle .parkGo on = true ∧
    b.aon.armAt = some 0 ∧ ok (exec .parkArmTimeout (at' 100000000 b)) (fun t => t.modl.power == .park) = true ∧
    idle .parkArmTimeout (at' 99999999 b) = true ∧ idle .parkArmTimeout on = true ∧
    parking e = true ∧ e.aon.wake = none ∧ rd e R.WAKE_CFG_WAKEN_EN = 1 ∧ ok (exec .wakeNFall e) (fun t => t.aon.wake == some 1) = true ∧
    rd e R.WAKE_CFG_LUOSH_EN = 1 ∧ ok (exec .luoshWakeEnergy e) (fun t => t.aon.wake == some 2) = true ∧
    e.aon.ticks = rd e R.AON_ALARM_LO_TICK + 2 ^ 32 * rd e R.AON_ALARM_HI_TICK ∧
    ok (exec .rtcAlarm e) (fun t => t.aon.wake == some 3) = true ∧ idle .wakeNFall z = true ∧ idle .luoshWakeEnergy z = true ∧
    idle .rtcAlarm z = true ∧ idle .rtcAlarm (inAon (fun x => { x with ticks := 1 }) e) = true ∧
    idle .wakeNFall (inAon (fun x => { x with wake := some 2 }) e) = true ∧ parking on = false ∧
    p.modl.power = .park ∧ p.aon.wake = some 3 ∧ (∀ x ∈ p.aon.owed, classOf x.1 ≠ 4) ∧ tickNs 7 = 213624 ∧
    ok (exec (.wakeComplete ⟨true, true, false⟩) p) (fun t => t.modl.power == .run && rd t R.AON_STAT_LAST_WAKE == 3 && tb1 t == 213620 &&
      t.time.tb2 == 213624 && keeperUp t && (lane t .z).stopped && laneClocked t .y) = true ∧ idle (.wakeComplete (.all true)) on = true ∧
    (portSt (lu 1 0) 3).up = true ∧ headerOk w = true ∧ fcsOk w = true ∧
    ok (exec (.wakeFrameRx 3 w) (l 0)) (fun t => !t.aon.luosh) = true ∧ idle (.wakeFrameRx 2 w) (l 0) = true ∧
    ok (exec .spuriousWakeTimeout (l 50000000)) (fun t => rd t R.WAKE_CNT_SPUR == 1 && t.modl.power == .park) = true ∧
    idle .spuriousWakeTimeout (l 49999999) = true ∧ idle .spuriousWakeTimeout on = true ∧ idle .wakeRestore on = true ∧
    (let r := inKp (fun x => { x with up := true, restore := true }) on; keeperUp r = true ∧ r.keeper.restore = true ∧ live r = true ∧
     ok (exec .wakeRestore r) (fun t => !t.keeper.restore && t.keeper.starting) = true) ∧
    (let j := inJrnl (fun x => { x with up := true, recUp := true }) a
     live j = true ∧ keeperUp j = true ∧ ok (exec .parkGo j) (fun t => t.modl.power == .park && t.jrnl.queue.isEmpty) = true) ∧
    live State.reset = false ∧ idle .parkGo State.reset = true ∧ idle .parkArmTimeout State.reset = true := by decide +kernel

/-- ClocksAndTemperature: every clock lost; 0.1 K above WARN, 5 K below it, between; the sample 10 ms after the last and before. -/
theorem test_clocks :
    let k := inKp (fun x => { x with up := true }) (at' 10000000 (up .run))
    let warn : Int := 10 * rd k R.TJ_CFG_WARN
    ok (exec (.pllLockLoss .time) (inScan' (fun x => { x with gridOn := true }) k)) (fun t => !t.scan.gridOn && rd t R.TB_STAT_VALID == 0)
      = true ∧
    ok (exec (.pllLockLoss (.lane .z)) k) (fun t => (lane t .z).stopped && !(lane t .x).stopped) = true ∧
    ok (exec (.pllLockLoss .icn) k) (fun t => t.modl.prismStop) = true ∧
    ok (exec (.pllLockLoss .keeper) k) (fun t => rd t R.CLK_STAT_KEEPER == 0) = true ∧
    ok (exec (.pllLockLoss .tcxo) k) (fun t => (lane t .x).stopped && rd t R.CLK_STAT_TCXO_OK == 0) = true ∧
    keeperUp k = true ∧ rd k R.TJ_STAT_HIGH = 0 ∧ k.modl.tjAt + 10000000 ≤ k.time.now ∧
    ok (exec (.tjSample (warn + 1)) k) (fun t => rd t R.TJ_STAT_HIGH == 1 && condActive t 0x0906 && t.modl.tjAt == 10000000) = true ∧
    ok (exec (.tjSample warn) k) (fun t => rd t R.TJ_STAT_HIGH == 0 && rd t R.TJ_STAT_TJ == ofSigned 16 warn) = true ∧
    idle (.tjSample (warn + 1)) (at' 9999999 k) = true ∧
    rd (wr k R.TJ_STAT_HIGH 1) R.TJ_STAT_HIGH = 1 ∧
    ok (exec (.tjSample (warn - 49)) (wr k R.TJ_STAT_HIGH 1)) (fun t => rd t R.TJ_STAT_HIGH == 1) = true ∧
    ok (exec (.tjSample (warn - 50)) (wr k R.TJ_STAT_HIGH 1)) (fun t => rd t R.TJ_STAT_HIGH == 0) = true := by decide +kernel

/-- BootAndLoad: the automatic RUN, LOAD_EN in STOP and in RUN, the last word of a page, a window that is shut, a load, one ended, the
target of a RELOAD. -/
theorem test_load :
    let r := wrAll (up .stop) R.TUM_STAT_PROG_VALID 1
    let a := inKp (fun x => { x with up := true, autostart := 1 }) (inJrnl (fun x => { x with up := true }) (wr r R.DB_STAT_STATE 3))
    let w := wrL (wrL on R.TUM_CTRL_LOAD_EN .y 1) R.PS_PAGE_PAGE .y 3
    let p := setLane (up .stop) .z (fun x => { x with load := some ⟨0, 0, 0, 6, false⟩ })
    let d := setLane (up .stop) .z (fun x => { x with load := some ⟨0, 0, 0, 6, true⟩ })
    let v := inRep (fun x => { x with target := some .z }) (wrAll p R.REPAIR_STAT_STEP 2)
    keeperUp a = true ∧ a.jrnl.up = true ∧ a.keeper.starting = false ∧ a.keeper.autoDone = false ∧ readyBit a 6 = true ∧
    readyBit a 17 = true ∧ a.keeper.autostart = 1 ∧
    ok (exec .autostartRunRequest a) (fun t => t.keeper.autoDone && t.keeper.toPost == [(.auto, .modeRun)]) = true ∧
    idle .autostartRunRequest (inKp (fun x => { x with autoDone := true }) a) = true ∧
    idle .autostartRunRequest (inKp (fun x => { x with autostart := 2, badReset := true }) a) = true ∧
    coreUp r 1 = true ∧ stopLike r = true ∧ ok (exec (.loadEn .y) r) (fun t => rdL t R.TUM_STAT_PROG_VALID .y == 0 && rdL t R.TUM_STAT_PROG_VALID .x == 1)
      = true ∧
    stopLike (up .run) = false ∧ reloading (up .run) .y = false ∧ idle (.loadEn .y) (up .run) = true ∧
    coreUp w 1 = true ∧ rdL w R.TUM_CTRL_LOAD_EN .y = 1 ∧ ok (exec (.psWinWrite .y 4095 0x89ABCDEF) w) (fun t =>
      r32 t (.progStore .y) (4096 * rdL w R.PS_PAGE_PAGE .y + 4092) == 0x89ABCDEF) = true ∧
    rdL on R.TUM_CTRL_LOAD_EN .y ≠ 1 ∧ ok (exec (.psWinWrite .y 4092 1) on) (fun t => (lane t .y).busErrs == 1 && t.mem.isEmpty) = true ∧
    (lane on .z).load = none ∧ idle (.programLoadDone .z) on = true ∧ (lane d .z).load = some ⟨0, 0, 0, 6, true⟩ ∧
    idle (.programLoadDone .z) d = true ∧
    (lane p .z).load = some ⟨0, 0, 0, 6, false⟩ ∧ reloading p .z = false ∧ reloading v .z = true ∧ coreUp v 2 = true ∧
    on.keeper.up = false ∧ on.keeper.restart = none ∧ idle .keeperFirmwareCheckDone a = true := by decide +kernel

/-- BootAndLoad: no image in flash; the Keeper stays in recovery, the lane is not admitted; before the lane's own tests nothing. -/
theorem test_boot :
    let l := setLane on .z (fun x => { x with started := some true })
    bankPasses on true = false ∧ bankPasses on false = false ∧ verifySlot l 2 (bootBank l) ≠ 1 ∧
    ok (exec .keeperFirmwareCheckDone on) (fun t => rd t R.BOOT_STAT_RECOVERY == 1) = true ∧
    rd l R.BOOT_STAT_RECOVERY ≠ 1 ∧ rd l R.BOOT_STAT_LANE_Z_RES = 0 ∧ laneClocked l .z = true ∧ (lane l .z).started = some true ∧
    ok (exec (.laneRuntimeCheckDone .z) l) (fun t => isPresent t 0x030C && (lane t .z).fenced) = true ∧
    idle (.laneRuntimeCheckDone .z) on = true := by decide +kernel

/-! ## Keeper, journal, host bridge, registers -/

/-- The Keeper up, its maintenance port at an address, journal and recorder ready. -/
def kp : State :=
  inJrnl (fun x => { x with up := true, recUp := true }) (inKp (fun x => { x with up := true, eth := some 9, policy := 0xF }) (up .stop))

/-- A command in execution on a pair. -/
def cmd (p : Fin 4) (op : Nat) (payload : List Byte) (s : State) : State :=
  setMb (wr s R.MB_STAT_OWNER 1 0 p.val) p.val (fun x => { x with cmd := some ⟨5, 7, op, false, payload⟩ })

/-- The bytes of a mailbox command with SEQ 7. -/
def cmdBytes (op : Nat) (payload : List Byte) : List Byte :=
  let h := leBytes 2 0x4B4D ++ [1, 0] ++ leBytes 2 7 ++ leBytes 2 op ++ leBytes 4 payload.length
  h ++ leBytes 4 (crc32c (h ++ payload)) ++ payload

/-- An MBOX frame from position 1, and CL_DN of the master up. -/
def mbox (dst : Nat) (l : List Byte) : CxFrame := cxSealed ⟨1, 3, 1, dst, 0, 0, 0, 0, 0, 0, 0, l, 0⟩
def cxKp (s : State) : State := setCxLink (wrAll s R.CX_CTRL_EN 1) true true

/-- MailboxTransport: rings of an owned and of a free pair, a command with a wrong length and check value, an unserved opcode, a payload that
names no row, one repeated, one taken; datagrams. -/
theorem test_ring :
    let e := setMb kp 1 (fun x => { x with last := some (6, 7), stored := rspBytes kp 1 7 1 (rspStatus 0) })
    let hg (s : State) : State := inKp (fun x => { x with hinge := true }) s
    idle (.mbDoorbellRing 3) kp = true ∧
    rd (cmd 3 1 [] kp) R.MB_STAT_OWNER 0 3 = 1 ∧ ok (exec (.mbDoorbellRing 3) (hg (cmd 3 1 [] kp))) (fun t => rd t R.MB_CNT_RINGS_LOST 0 3 == 1) = true ∧
    rd kp R.MB_STAT_OWNER 0 3 = 0 ∧ mbServing kp 3 = true ∧ mbServing on 3 = false ∧
    ok (exec (.mbDoorbellRing 3) (hg on)) (fun t => rd t R.MB_STAT_OWNER 0 3 == 1) = true ∧
    ok (exec (.mbDoorbellRing 3) (hg kp)) (fun t => rd t R.MB_STAT_OWNER 0 3 == 0 && rb t (.rspBuf 3) 12 == 3) = true ∧
    headerFault 1 [] = some 3 ∧ headerFault 1 ((cmdBytes 1 []).set 12 0) = some 4 ∧ headerFault 1 (cmdBytes 1 []) = none ∧
    ok (exec (.maintDatagramRx 6 ((cmdBytes 1 []).set 12 0)) kp) (fun t => rb t (.rspBuf 1) 12 == 4 && rd t R.MB_STAT_OWNER 0 1 == 0) = true ∧
    ok (exec (.maintDatagramRx 6 (cmdBytes 0x7FF [])) kp) (fun t => rb t (.rspBuf 1) 12 == 5) = true ∧
    opcodes.contains 0x200 = true ∧ badVariant 0x200 [5] = true ∧ badVariant 0x200 [4] = false ∧
    ok (exec (.maintDatagramRx 6 (cmdBytes 0x200 [5])) kp) (fun t => rb t (.rspBuf 1) 12 == 6) = true ∧
    (mbPair e 1).last = some (6, 7) ∧ ok (exec (.maintDatagramRx 6 (cmdBytes 1 [])) e) (fun t => rb t (.rspBuf 1) 3 == 8) = true ∧
    ok (exec (.maintDatagramRx 6 (cmdBytes 0x200 [4])) kp) (fun t => (mbPair t 1).cmd == some ⟨6, 7, 0x200, false, [4]⟩) = true := by
  decide +kernel

/-- MailboxTransport: a datagram for a busy pair 1, the same again, none at all; a cascade frame for another member, for this one, a
response that no RELAY waits for and one that one does. -/
theorem test_arrive :
    let c := cxKp kp
    let r := setMb (cmd 0 3 [1] c) 0 (fun x => { x with queued := true })
    kp.keeper.eth.isSome = true ∧ (mbPair kp 1).cmd = none ∧ (mbPair (cmd 1 1 [] kp) 1).cmd = some ⟨5, 7, 1, false, []⟩ ∧
    ok (exec (.maintDatagramRx 6 (leBytes 8 0)) (cmd 1 1 [] kp)) (fun t => t.out.length == 1) = true ∧
    idle (.maintDatagramRx 5 (cmdBytes 1 [])) (cmd 1 1 [] kp) = true ∧ idle (.maintDatagramRx 6 []) on = true ∧
    cxLink c true = true ∧ cxLink c false = false ∧ cxPos c = 0 ∧ cxGood (mbox 2 [1]) 3 = true ∧
    idle (.cascadeMboxRx true 1 2 (mbox 2 [1])) c = true ∧
    ok (exec (.cascadeMboxRx true 1 2 (mbox 2 [1])) (setCxLink c false true)) (fun t => decide (t.out = [.cx false (mbox 2 [1])])) = true ∧
    ok (exec (.cascadeMboxRx true 1 0 (mbox 0 (cmdBytes 1 []))) c) (fun t => (mbPair t 2).cmd == some ⟨1, 7, 1, false, []⟩) = true ∧
    ok (exec (.cascadeMboxRx true 1 0 (mbox 0 (cmdBytes 1 []))) (cmd 2 1 [] c)) (fun t => t.out.length == 1) = true ∧
    relayPair c 1 = none ∧ idle (.cascadeMboxRx true 1 0 (mbox 0 (leBytes 2 0x4B52))) c = true ∧
    relayPair r 1 = some (0, ⟨5, 7, 3, false, [1]⟩) ∧
    ok (exec (.cascadeMboxRx true 1 0 (mbox 0 (leBytes 2 0x4B52))) r) (fun t => (mbPair t 0).cmd.isNone && rb t (.rspBuf 0) 33 == 0x4B) = true ∧
    idle (.cascadeMboxRx false 1 0 (mbox 0 [])) c = true ∧ idle (.cascadeMboxRx true 1 0 { mbox 0 [] with crc := 1 }) c = true := by decide +kernel

/-- MailboxTransport: the 32nd request and one more, a verdict for a command that waits, for one answered PENDING, for a start-up item and
for no request, the 2 s, SAFE. -/
theorem test_transport :
    let q := inKp (fun x => { x with toPost := [(.pair 1 7, .modeRun)], nPosted := 31 }) kp
    let v := fun (n : Nat) (o : Origin) => inScan' (fun x => { x with verdicts := [⟨4, n, 3⟩] })
      (inKp (fun x => { x with posted := [(4, o, .modeRun)] }) (setMb (cmd 1 0x200 [2] kp) 1 (fun x => { x with queued := true, slot := some 4 })))
    let w := v 0x21 (.pair 1 7)
    let l := setMb w 1 (fun x => { x with cmd := none, log := [⟨7, 0x200, 2, 0, 0⟩] })
    let f := inModl (fun x => { x with mode := .safe }) w
    nextPost q = some (.pair 1 7, .modeRun) ∧ keeperUp q = true ∧ q.keeper.safeSeen = false ∧ q.keeper.nPosted < 32 ∧
    ok (exec .keeperRequestPost q) (fun t => t.keeper.nPosted == 32 && t.scan.ring == [(0, .modeRun)]) = true ∧
    idle .keeperRequestPost (inKp (fun x => { x with nPosted := 32 }) q) = true ∧ nextPost kp = none ∧
    keeperUp w = true ∧ w.scan.verdicts = [⟨4, 0x21, 3⟩] ∧ (w.keeper.posted.find? (fun e => e.1 == 4)) = some (4, .pair 1 7, .modeRun) ∧
    (mbPair w 1).cmd = some ⟨5, 7, 0x200, false, [2]⟩ ∧ (mbPair w 1).slot = some 4 ∧
    ok (exec .verdictRead w) (fun t => (mbPair t 1).cmd.isNone && rb t (.rspBuf 1) 13 == 0x21 && t.scan.verdicts.isEmpty) = true ∧
    ok (exec .verdictRead (v 0 (.pair 1 7))) (fun t => (mbPair t 1).cmd.isNone && rb t (.rspBuf 1) 12 == 0) = true ∧
    (mbPair l 1).cmd = none ∧ ok (exec .verdictRead l) (fun t => (mbPair t 1).log == [⟨7, 0x200, 1, 0x21, 3⟩]) = true ∧
    ((v 0x21 (.startup 6)).keeper.posted.find? (fun e => e.1 == 4)) = some (4, .startup 6, .modeRun) ∧
    ok (exec .verdictRead (v 0x21 (.startup 6))) (fun t => t.keeper.badItems == [6]) = true ∧
    kp.scan.verdicts = [] ∧ idle .verdictRead kp = true ∧
    (mbPair w 1).queued = true ∧ (mbPair w 1).ringAt + 2000000000 ≤ (at' 2000000000 w).time.now ∧
    ok (exec (.requestPendingTimeout 1) (at' 2000000000 w)) (fun t => rb t (.rspBuf 1) 12 == 2) = true ∧
    idle (.requestPendingTimeout 1) (at' 1999999999 w) = true ∧
    f.keeper.safeSeen = false ∧ f.modl.mode = .safe ∧
    ok (exec .keeperSafeSeen f) (fun t => t.keeper.safeSeen && t.keeper.toPost.isEmpty && rb t (.rspBuf 1) 13 == 0x36) = true ∧
    idle .keeperSafeSeen w = true := by decide +kernel

/-- KeeperLife: restarts, network, the expiries at their times and just before. -/
theorem test_keeperLife :
    let r := inKp (fun x => { x with restart := some 1 }) kp
    let n := inKp (fun x => { x with nonce := some ([1], 0), token := some (1, 1, 0), xfers := [(3, ⟨1, 4, [], 0⟩)] }) kp
    let e := inModl (fun x => { x with mode := .service, serviceEnd := 5 }) (inScan' (fun x => { x with tx := 5 }) kp)
    ok (exec .keeperWatchdogExpiry n) (fun t => t.keeper.restart == some 0 && t.keeper.xfers.isEmpty && rd t R.MB_STAT_KEEPER_DOWN 0 3 == 1)
      = true ∧ keeperUp r = false ∧ idle .keeperException r = true ∧
    r.keeper.restart = some 1 ∧ kp.keeper.restart = none ∧ idle .keeperRestartDone kp = true ∧
    (mbPair (cmd 1 1 [] kp) 1).cmd = some ⟨5, 7, 1, false, []⟩ ∧ rb (pairResume (cmd 1 1 [] kp) 1) (.rspBuf 1) 12 = 0xC ∧
    ok (exec (.maintEthLinkUp 7) kp) (fun t => t.keeper.eth == some 7) = true ∧ mbServing kp 1 = true ∧
    ok (exec (.arpRequestRx 3) kp) (fun t => decide (t.out = [.arp 3])) = true ∧ on.keeper.eth = none ∧ idle (.arpRequestRx 3) on = true ∧
    n.keeper.xfers.find? (fun x => x.1 == 3) = some (3, ⟨1, 4, [], 0⟩) ∧ 0 + 60000000000 ≤ (at' 60000000000 n).time.now ∧
    ok (exec (.xferTimeout 3) (at' 60000000000 n)) (fun t => t.keeper.xfers.isEmpty) = true ∧ idle (.xferTimeout 3) (at' 59999999999 n) = true ∧
    idle (.xferTimeout 3) kp = true ∧
    n.keeper.nonce = some ([1], 0) ∧ ok (exec .tokenNonceExpiry (at' 600000000000 n)) (fun t => t.keeper.nonce.isNone) = true ∧
    idle .tokenNonceExpiry (at' 599999999999 n) = true ∧ idle .tokenNonceExpiry kp = true ∧
    n.keeper.token = some (1, 1, 0) ∧ ok (exec .serviceTokenExpiry (at' 600000000000 n)) (fun t => t.keeper.token.isNone) = true ∧
    idle .serviceTokenExpiry (at' 599999999999 n) = true ∧ idle .serviceTokenExpiry kp = true ∧
    e.modl.mode = .service ∧ e.modl.serviceEnd ≤ e.scan.tx ∧ ok (exec .serviceExpiry e) (fun t => t.modl.nextMode == some .stop) = true ∧
    kp.modl.mode ≠ .service ∧ idle .serviceExpiry kp = true ∧ idle .serviceExpiry (inScan' (fun x => { x with tx := 4 }) e) = true := by
  decide +kernel

/-- KeeperLife: views at the last index: one that fits, the same commit again, a first difference, a gap, the 4th and the 64th. -/
theorem test_views :
    let w := fun n => inScan' (fun x => { x with commits := 2 }) (inKp (fun x => { x with views := [(131135, ⟨n, 1, 9⟩)] }) kp)
    viewOf kp 2 63 = none ∧ votedView kp 2 63 = some 0 ∧
    ok (exec (.managementViewCompare 2 63 0) kp) (fun t => t.keeper.views == [(131135, ⟨0, 0, 0⟩)]) = true ∧
    viewOf (w 0) 2 63 = some ⟨0, 1, 9⟩ ∧
    ok (exec (.managementViewCompare 2 63 5) (inScan' (fun x => { x with commits := 1 }) (w 7))) (fun t =>
      t.keeper.views == [(131135, ⟨7, 1, 5⟩)]) = true ∧
    ok (exec (.managementViewCompare 2 63 5) (w 0)) (fun t => t.keeper.views == [(131135, ⟨1, 2, 5⟩)]) = true ∧
    ok (exec (.managementViewCompare 2 63 5) (inScan' (fun x => { x with commits := 3 }) (w 3))) (fun t =>
      t.keeper.views == [(131135, ⟨1, 3, 5⟩)]) = true ∧
    ok (exec (.managementViewCompare 2 63 5) (w 3)) (fun t => t.keeper.views == [(131135, ⟨4, 2, 5⟩)] && t.faults.lastCode == 0x0907) = true ∧
    ok (exec (.managementViewCompare 2 63 5) (w 63)) (fun t => t.keeper.views == [(131135, ⟨0, 2, 0⟩)] && t.faults.lastCode == 0x0905)
      = true ∧
    votedView kp 9 0 = none ∧ idle (.managementViewCompare 9 0 5) kp = true ∧ keeperUp on = false := by decide +kernel

/-- JournalAndRecorder: the states in which each command acts, and the last before its time. -/
theorem test_journal :
    let a := inJrnl (fun x => { x with up := false, recUp := false }) kp
    let b := inJrnl (fun x => { x with recUp := false }) kp
    let q := inJrnl (fun x => { x with queue := [⟨1, [], false⟩] }) kp
    let c := inJrnl (fun x => { x with pos := compactAt, epoch := 3 }) kp
    let d := inJrnl (fun x => { x with compact := some (100, 0) }) c
    let f := inJrnl (fun x => { x with fresh := true }) kp
    let y := at' (1000000 * yearMs) kp
    keeperUp a = true ∧ a.jrnl.up = false ∧ currentHalf a = none ∧
    ok (exec .journalReplay a) (fun t => t.jrnl.up && t.jrnl.epoch == 1 && t.keeper.starting) = true ∧
    kp.jrnl.up = true ∧ idle .journalReplay kp = true ∧
    (let o := inFlt (fun x => { x with events := [⟨0x0901, 7, 0, 5, true⟩, ⟨0x0701, 1, 0, 5, false⟩] }) kp
     o.faults.events.filter Event.own = [⟨0x0901, 7, 0, 5, true⟩] ∧
     ok (exec .journalRecordWrite o) (fun t => t.faults.events.length == 1 && t.jrnl.rseq == kp.jrnl.rseq + 1) = true) ∧
    b.jrnl.recUp = false ∧ b.jrnl.up = true ∧ ok (exec .recorderIndexRebuild b) (fun t => t.jrnl.recUp) = true ∧ idle .recorderIndexRebuild kp = true ∧
    q.jrnl.queue = [⟨1, [], false⟩] ∧ ok (exec .journalRecordWrite q) (fun t => t.jrnl.queue.isEmpty && t.jrnl.recs == 1) = true ∧
    kp.jrnl.queue = [] ∧ idle .journalRecordWrite kp = true ∧ idle .journalRecordWrite (inJrnl (fun x => { x with recUp := false }) q) = true ∧
    c.jrnl.compact = none ∧ imported c = false ∧ imported y = false ∧ compactAt ≤ c.jrnl.pos ∧ ok (exec .compactionStart c) (fun t => t.jrnl.compact.isSome) = true ∧
    idle .compactionStart (inJrnl (fun x => { x with pos := compactAt - 1 }) c) = true ∧
    d.jrnl.compact.isSome = true ∧ ok (exec .compactionDone d) (fun t => t.jrnl.half == 1 && t.jrnl.epoch == 4) = true ∧ idle .compactionDone c = true ∧
    y.jrnl.refresh + 31536000000 ≤ optime y ∧ ok (exec .yearlyRefresh y) (fun t => t.jrnl.refresh == yearMs && t.jrnl.epoch == 1) = true ∧
    idle .yearlyRefresh (at' (1000000 * yearMs - 1) kp) = true ∧
    ok (exec .timeRecord (at' 60000000000 kp)) (fun t => t.jrnl.recs == 1) = true ∧ idle .timeRecord (at' 59999999999 kp) = true ∧
    f.jrnl.fresh = true ∧ f.jrnl.snapAt = none ∧ ok (exec .recorderSnapshotRenew f) (fun t => t.jrnl.snapGen == 1 && !t.jrnl.fresh) = true ∧
    idle .recorderSnapshotRenew (at' 100000000 (inJrnl (fun x => { x with snapAt := some 1 }) f)) = true ∧
    keeperUp on = false ∧ idle .yearlyRefresh on = true := by decide +kernel

/-- HostBridge: the last bytes of BAR2, registers read whole and in part, windows, the error log, the interrupts. -/
theorem test_bridge :
    let b := wr (wb on .bar2 0xFFFFF 0xAB) R.BR_STAT_L0 1
    let w := wb b (.rspBuf 3) 0x3FF 7
    let l := { b with bridge := { b.bridge with log := [⟨64, false, 1, 2, 4, 0⟩], pops := 65535 } }
    let u := { b with bridge := { b.bridge with pba := 2 ^ 31 } }
    runCh on 3 = none ∧ ok (exec (.pcieLinkUp 3 2 true) on) (fun t => rd t R.BR_STAT_BME == 1 && rd t R.BR_STAT_WIDTH == 2) = true ∧
    ok (exec .pcieReset u) (fun t => t.bridge.masked == 0xFFFFFFFF && t.bridge.pba == 0 && rd t R.BR_STAT_L0 == 0) = true ∧
    inBar b true 0xFFFFF 1 = true ∧ ok (exec (.pcieInboundRead true 0xFFFFF 1 true) b) (fun t => decide (t.out = [.completion 0 [0xAB]])) = true ∧
    rd b R.BR_STAT_L0 = 1 ∧ ok (exec (.pcieInboundRead false 0x10 4 true) b) (fun t => decide (t.out = [.completion 0 (leBytes 4 (ready b))])) = true ∧
    inBar w false 0x47FF 1 = true ∧ ok (exec (.pcieInboundRead false 0x47FF 1 true) w) (fun t => decide (t.out = [.completion 0 [7]])) = true ∧
    inBar b false 0x8 2 = true ∧ inMbWin 8 = false ∧ regRequestOk 8 2 true = false ∧
    ok (exec (.pcieInboundRead false 8 2 true) b) (fun t => decide (t.out = [.completion 4 []])) = true ∧
    idle (.pcieInboundRead true 0 4 true) on = true ∧ idle (.pcieInboundRead false 0xFFFD 4 true) b = true ∧
    idle (.pcieInboundRead true 0 0 true) b = true ∧
    l.bridge.log = [⟨64, false, 1, 2, 4, 0⟩] ∧ ok (exec .pelPop l) (fun t => t.bridge.log.isEmpty && t.bridge.pops == 0) = true ∧
    b.bridge.log = [] ∧ ok (exec .pelPop b) (fun t => decide (t.out = [.completion 0 [0, 0, 0, 0]])) = true ∧
    ok (exec .pcieUnsupportedRequest b) (fun t => decide (t.out = [.completion 1 []])) = true ∧ idle .pcieUnsupportedRequest on = true ∧
    ok (exec (.msixUnmask 31) (wr u R.BR_STAT_BME 1)) (fun t => t.bridge.pba == 0 && decide (t.out = [.msix 31])) = true := by decide +kernel

/-- HostBridge: writes to BAR2 with a log of 15 and of 16, to a command window, of the doorbell; a host read at 50 ms and before. -/
theorem test_bridgeWrite :
    let b := wr on R.BR_STAT_L0 1
    let g := fun n => { b with bridge := { b.bridge with log := List.replicate n ⟨64, false, 1, 2, 4, 0⟩ } }
    let d : Desc := ⟨2 ^ 63, 0, 4, 2 ^ 31, 0⟩
    let dw : Desc := ⟨0, 2 ^ 63, 4, 2 ^ 31, 0⟩
    let c := fun (x : Desc) => wr (wr { on with dma := { on.dma with chs := [(16 * 3 + 15, ⟨some x, 0, 0, false, false, false⟩)] } } R.DMA_STAT_BUSY 1 3)
      R.DMA_STAT_RUN_CH 15 3
    inBar b true 0xFF 1 = true ∧ [some (1 : Byte)].length ≤ 256 - 0xFF % 256 ∧
    ok (exec (.pcieInboundWrite true 0xFF [some 1] 2) (g 15)) (fun t => t.bridge.log.length == 16 && rd t R.PEL_STAT_OVF == 0) = true ∧
    ok (exec (.pcieInboundWrite true 0xFF [some 1] 2) (g 16)) (fun t => t.bridge.log.length == 16 && rd t R.PEL_STAT_OVF == 1) = true ∧
    rd b R.MB_STAT_OWNER 0 0 = 0 ∧
    ok (exec (.pcieInboundWrite false 0x13FE [none, some 9] 2) b) (fun t => rb t (.cmdBuf 0) 0x3FF == 9 && rb t (.cmdBuf 0) 0x3FE == 0) = true ∧
    ok (exec (.pcieInboundWrite false 0x13FE [none, some 9] 2) (wr b R.MB_STAT_OWNER 1 0 0)) (fun t => rb t (.cmdBuf 0) 0x3FF == 0
      && rd t R.MB_CNT_WR_LOST == 1 && t.bridge.log.length == 1) = true ∧
    ok (exec (.pcieInboundWrite false 0x1804 ((leBytes 4 1).map some) 0) b) (fun t => rd t R.MB_STAT_OWNER 0 0 == 1) = true ∧
    idle (.pcieInboundWrite true 0 [some 1] 2) on = true ∧ idle (.pcieInboundWrite true 0 [] 2) b = true ∧
    idle (.pcieInboundWrite false 0xFFFF [none, some 1] 2) b = true ∧
    (dmaCh on 3 15).desc = none ∧ idle (.outboundReadTimeout 15) on = true ∧ (dmaCh (c d) 3 15).desc = some d ∧ runCh (c d) 3 = some 15 ∧
    hostSrc d = true ∧ ok (exec (.outboundReadTimeout 15) (at' 50000000 (c d))) (fun t => rd t R.CH_STAT_DMA_ERR 3 15 == 0xA) = true ∧
    idle (.outboundReadTimeout 15) (at' 49999999 (c d)) = true ∧ hostSrc dw = false ∧ hostDst dw = true ∧
    ok (exec (.outboundReadTimeout 15) (at' 50000000 (c dw))) (fun t => chState t 3 15 == chError && runCh t 3 == none) = true ∧
    hostSrc ⟨0, 0, 4, 2 ^ 31, 0⟩ = false ∧ hostDst ⟨0, 0, 4, 2 ^ 31, 0⟩ = false ∧
    idle (.outboundReadTimeout 15) (at' 50000000 (c ⟨0, 0, 4, 2 ^ 31, 0⟩)) = true ∧
    ok (exec .pcieReset (c d)) (fun t => rd t R.CH_STAT_DMA_ERR 3 15 == 6 && runCh t 3 == none) = true := by decide +kernel

/-- RegisterAccess: addresses outside the map, of half a register, unlisted and in a window; the last byte of lane SRAM; the Keeper at its
own blocks; a register read; accesses held. -/
theorem test_access :
    let s := wb (wr on R.SCAN_PERIOD_PERIOD_US 500) (.inst .z) 0x7FFC 0x5A
    let h := wrL s R.TUM_STAT_STATE .z 1
    coreUp s 2 = true ∧ memPlace 2 0x70000000 4 false = none ∧ passHolds s 2 0x70000000 = none ∧ wholeRegister 2 0x70000000 4 = false ∧
    ok (exec (.rcFieldRead 2 (0x70000000, .b4)) s) (fun t => (lane t .z).busErrs == 1 && decide (t.out = [.read 2 0])) = true ∧
    wholeRegister 2 0x20062000 2 = false ∧ ok (exec (.rcFieldRead 2 (0x20062000, .b2)) s) (fun t => (lane t .z).busErrs == 1) = true ∧
    wholeRegister 2 0x200400F0 4 = true ∧ blockOf 2 0x200400F0 = some (.z, 0x200400F0) ∧ listed 0x200400F0 = false ∧
    ok (exec (.rcFieldRead 0 (0x200400F0, .b4)) s) (fun t => (lane t .x).busErrs == 1 && decide (t.out = [.read 0 0])) = true ∧
    blockOf 3 0x6203FFFC = some (.z, 0x2003FFFC) ∧ listed 0x2003FFFC = true ∧ inWindow 0x2003FFFC = true ∧
    ok (exec (.rcFieldRead 2 (0x2003FFFC, .b4)) s) (fun t => decide (t.out = [.read 2 0x5A])) = true ∧
    ok (exec (.rcFieldRead 3 (0x6203FFFC, .b4)) s) (fun t => decide (t.out = [.read 3 0x5A])) = true ∧
    listed 0x20040008 = true ∧ inWindow 0x20040008 = false ∧ wholeRegister 0 0x20040008 4 = true ∧
    ok (exec (.rcFieldRead 0 (0x20040008, .b4)) s) (fun t => t.out.length == 1 && t.mem == s.mem) = true ∧
    memPlace 2 0x7FFFFF 1 false = some (.laneSram .z, 0x7FFFFF) ∧ s.marks.flips = [] ∧
    ok (exec (.rcFieldRead 2 (0x7FFFFF, .b1)) (wb s (.laneSram .z) 0x7FFFFF 3)) (fun t => decide (t.out = [.read 2 3])) = true ∧
    passHolds h 2 0x1000FFF8 = some .z ∧ ok (exec (.rcFieldRead 2 (0x1000FFF8, .b8)) h) (fun t => (lane t .z).heldAcc.length == 1 && t.out.isEmpty) = true ∧
    ok (exec (.registerWrite 3 0x6203FFFC 1 .b4) h) (fun t => (lane t .z).heldAcc.length == 1) = true := by decide +kernel

/-- RegisterAccess: writes of the last word of lane SRAM, of half a register and of unlisted places, by fields, and by a stopped lane; the
field rules at the ends of a range. -/
theorem test_write :
    let c := { on with clk := { on.clk with sets := [(regKey R.PEL_STAT_OVF 0 0, 1)] } }
    memPlace 2 0x7FFFF8 8 true = some (.laneSram .z, 0x7FFFF8) ∧ passHolds on 2 0x7FFFF8 = none ∧
    ok (exec (.registerWrite 2 0x7FFFF8 0x0102030405060708 .b8) on) (fun t => r32 t (.laneSram .z) 0x7FFFFC == 0x01020304) = true ∧
    memPlace 0 0x20062000 2 true = none ∧ wholeRegister 0 0x20062000 2 = false ∧
    ok (exec (.registerWrite 0 0x20062000 1 .b2) on) (fun t => (lane t .x).busErrs == 1) = true ∧
    inBlocks 0x200400F0 = true ∧ listed 0x200400F0 = false ∧
    ok (exec (.registerWrite 2 0x200400F0 1 .b4) on) (fun t => (lane t .z).busErrs == 1) = true ∧
    listed 0x20050004 = true ∧ R.SCAN_PERIOD_PERIOD_US.acc = .rws ∧ stopLike (up .run) = false ∧ stopLike on = true ∧
    writeField (up .run) R.SCAN_PERIOD_PERIOD_US 0 0 500 = up .run ∧ 99 < R.SCAN_PERIOD_PERIOD_US.min ∧
    writeField on R.SCAN_PERIOD_PERIOD_US 0 0 99 = on ∧
    rd (writeField on R.SCAN_PERIOD_PERIOD_US 0 0 R.SCAN_PERIOD_PERIOD_US.min) R.SCAN_PERIOD_PERIOD_US = R.SCAN_PERIOD_PERIOD_US.min ∧
    R.PEL_STAT_OVF.acc = .w1c ∧ R.PEL_STAT_TOTAL.acc = .ro ∧ R.MB_CNT_WR_LOST.acc = .rc ∧
    rd (writeField (wr on R.PEL_STAT_OVF 1) R.PEL_STAT_OVF 0 0 (2 ^ 31)) R.PEL_STAT_OVF = 0 ∧
    rd (writeField (wr c R.PEL_STAT_OVF 1) R.PEL_STAT_OVF 0 0 (2 ^ 31)) R.PEL_STAT_OVF = 1 ∧
    (let f := setLane on .z (fun x => { x with fenced := true }); coreUp f 2 = false ∧
      idle (.registerWrite 2 0x7FFFFC 1 .b4) f = true ∧ idle (.rcFieldRead 2 (0x2003FFFC, .b4)) f = true) := by decide +kernel

/-! ## DMA and check-value units -/

/-- CheckValueUnits: a unit that is free and 64 bits wide, a claimed one whose count is full, the upper word captured and read once, a lane
under an injection run. -/
theorem test_cvu :
    let f := wr (wr (wr on R.CVU_CFG_WIDTH 64 3 3) R.INIT_HI_INIT 7 3 3) R.INIT_LO_INIT 0 3 3
    let c := wr (wr on R.CVU_STAT_CLAIMED 1 3 3) R.CVU_STAT_WR_LOST 0xFFFF 3 3
    let u := { on with dma := { on.dma with caps := [(11, some 9)] } }
    let i := setLane on .z (fun x => { x with injRun := true })
    coreUp f 3 = true ∧ rd f R.CVU_STAT_CLAIMED 3 3 = 0 ∧ cvuWidth f 3 3 = 64 ∧
    ok (exec (.cvuInit 3 3) f) (fun t => cvuValue t 3 3 == 7 * 2 ^ 32) = true ∧
    ok (exec (.dataB 3 3 0xFF) f) (fun t => rd t R.BYTES_COUNT 3 3 == 1) = true ∧
    ok (exec (.dataW 3 3 0xFF) f) (fun t => rd t R.BYTES_COUNT 3 3 == 4) = true ∧
    rd c R.CVU_STAT_CLAIMED 3 3 = 1 ∧ ok (exec (.dataB 3 3 1) c) (fun t => rd t R.CVU_STAT_WR_LOST 3 3 == 0xFFFF) = true ∧
    ok (exec (.cvuLowWordRead 3 3 false) (wr (wr f R.VALUE_HI_VALUE 9 3 3) R.VALUE_LO_VALUE 5 3 3)) (fun t =>
      decide (t.out = [.read 3 5]) && t.dma.caps == [(15, some 9)]) = true ∧
    coreUp u 2 = true ∧ Tab.get none u.dma.caps 11 = some 9 ∧
    ok (exec (.rcFieldRead 2 (0x200100DC, .b4)) u) (fun t => decide (t.out = [.read 2 9]) && t.dma.caps == []) = true ∧
    coreUp i 2 = false ∧ idle (.cvuInit 2 3) i = true := by decide +kernel

/-- Channel 15 of engine 2 in a state, enabled. -/
def chan (st : Nat) (s : State) : State := setCh (wr s R.CH_CTRL_EN 1 2 15) 2 15 st
/-- The engine runs channel 15 with a copy of 4 bytes of lane SRAM from 0x40 to 0x80, its descriptor at 0x100. -/
def copying (st : Nat) : State :=
  let s := wr (wr (wr (chan st on) R.DMA_STAT_BUSY 1 2) R.DMA_STAT_RUN_CH 15 2) R.CUR_DESC_ADDR 0x100 2 15
  let d := w32 s (.laneSram .z) 0x40 0x01020304
  { d with dma := { d.dma with chs := [(47, ⟨some ⟨0x40, 0x80, 4, 2 ^ 31, 0⟩, 0, 0, false, false, false⟩)] } }

/-- DmaChannels: a start that is lost, at once, and counted; timers that step, that fire once, and that have not come. -/
theorem test_dmaStart :
    let t := wr (wr (wr (wr (chan chWait on) R.CH_CTRL_TRIG 1 2 15) R.CH_CTRL_TB_SEL 1 2 15) R.TB_STAT_VALID 2) R.T_PERIOD_NS 100 2 15
    let z := wr t R.T_PERIOD_NS 0 2 15
    let y := wr (wr (chan chIdle on) R.DESC_HEAD_ADDR 8 2 15) R.CH_STAT_DMA_TRIG_PEND 255 2 15
    let p := wr (chan chPend on) R.CH_STAT_DMA_TRIG_PEND 255 2 15
    agentUp on 2 = true ∧ rd on R.CH_CTRL_EN 2 15 = 0 ∧ idle (.chGoStart 2 15) on = true ∧
    rd y R.CH_CTRL_EN 2 15 ≠ 0 ∧ chState y 2 15 = chIdle ∧ runCh y 2 = none ∧ rd y R.DMA_STAT_PEND 2 = 0 ∧
    ok (exec (.chGoStart 2 15) y) (fun u => chState u 2 15 == chPend && rd u R.CUR_DESC_ADDR 2 15 == 256
      && (dmaCh u 2 15).due && rd u R.CH_STAT_DMA_TRIG_PEND 2 15 == 255) = true ∧
    ok (exec (.chGoStart 2 15) (wr y R.DMA_STAT_PEND 1 2)) (fun u => chState u 2 15 == chPend && !(dmaCh u 2 15).due
      && rd u R.CH_STAT_DMA_TRIG_PEND 2 15 == 255) = true ∧
    chState p 2 15 = chPend ∧ ok (exec (.chGoStart 2 15) p) (fun u =>
      rd u R.CH_STAT_DMA_TRIG_PEND 2 15 == 255 && rd u R.CH_STAT_DMA_TRIG_OVF 2 15 == 1) = true ∧
    rd t R.CH_CTRL_TRIG 2 15 = 1 ∧ bitAt (rd t R.TB_STAT_VALID) (rd t R.CH_CTRL_TB_SEL 2 15) = 1 ∧ timerPast t 2 15 < 2 ^ 31 ∧
    (dmaCh t 2 15).fired = false ∧ 0 < rd t R.T_PERIOD_NS 2 15 ∧ chWaits t 2 15 = true ∧
    ok (exec (.dmaTimerTrigger 2 15) t) (fun u => rd u R.T_NEXT_NS 2 15 == 100 && chState u 2 15 == chPend) = true ∧
    ok (exec (.dmaTimerTrigger 2 15) (wr t R.TB_VAL_NS 250 0 1)) (fun u => rd u R.T_NEXT_NS 2 15 == 300 && rd u R.DONE_CNT_MISSED 2 15 == 2)
      = true ∧
    rd z R.T_PERIOD_NS 2 15 = 0 ∧ ok (exec (.dmaTimerTrigger 2 15) z) (fun u => (dmaCh u 2 15).fired && chState u 2 15 == chPend) = true ∧
    2 ^ 31 ≤ timerPast (wr t R.T_NEXT_NS 100 2 15) 2 15 ∧ idle (.dmaTimerTrigger 2 15) (wr t R.T_NEXT_NS 100 2 15) = true ∧
    idle (.dmaTimerTrigger 2 15) on = true ∧ idle (.dmaTimerTrigger 2 15) (wr t R.TB_STAT_VALID 0) = true ∧
    idle (.dmaTimerTrigger 2 15) (setDma t 2 15 (fun x => { x with fired := true })) = true := by decide +kernel

/-- DmaChannels: LEVEL at HI and below it; the grant of a descriptor, of one resumed, of one out of step and of one of length 0; a chain; the
engine of a lane that is fenced. -/
theorem test_dmaGrant :
    let l := wr (wr (chan chWait on) R.CH_CTRL_TRIG 3 2 15) R.LVL_CFG_HI 10 2 15
    let b := wr (chan chPend on) R.CUR_DESC_ADDR 0x100 2 15
    let g := w32 (w32 (w32 (w32 (wr b R.CH_STAT_DMA_TRIG_PEND 2 2 15) (.laneSram .z) 0x100 0x40) (.laneSram .z) 0x108 0x80) (.laneSram .z) 0x110 4)
      (.laneSram .z) 0x114 (2 ^ 31)
    let p := { g with dma := { g.dma with chs := [(47, ⟨some ⟨0x40, 0x80, 4, 2 ^ 31, 0⟩, 0, 2, false, false, true⟩)] } }
    let c := wr (wr (chan chIdle on) R.CH_CTRL_TRIG 2 2 15) R.CH_CTRL_CHAIN_SRC 3 2 15
    rd l R.CH_CTRL_TRIG 2 15 = 3 ∧ (dmaCh l 2 15).lvlOn = false ∧ rd l R.LVL_CFG_HI 2 15 = 10 ∧ rd l R.CH_CTRL_EN 2 15 = 1 ∧
    ok (exec (.lvlAdd 2 15 10) l) (fun u => chState u 2 15 == chPend && (dmaCh u 2 15).lvlOn) = true ∧
    ok (exec (.lvlAdd 2 15 9) l) (fun u => chState u 2 15 == chWait && rd u R.LVL_LEVEL 2 15 == 9) = true ∧
    ok (exec (.lvlAdd 2 15 0xFFFF) (wr on R.LVL_LEVEL 1 2 15)) (fun u => rd u R.LVL_LEVEL 2 15 == 0xFFFF) = true ∧
    runCh g 2 = none ∧ dmaWinner g 2 = some 15 ∧ (dmaCh g 2 15).desc = none ∧ rd g R.CUR_DESC_ADDR 2 15 % 32 = 0 ∧
    rd g R.CUR_DESC_ADDR 2 15 + 32 ≤ descSpan 2 ∧ fetchError g 2 15 (readDesc g 2 (rd g R.CUR_DESC_ADDR 2 15)) = 0 ∧
    ok (exec (.dmaGrant 2) g) (fun u => chState u 2 15 == chRun && (dmaCh u 2 15).desc == some ⟨0x40, 0x80, 4, 2 ^ 31, 0⟩
      && rd u R.CH_STAT_DMA_TRIG_PEND 2 15 == 1) = true ∧
    dmaWinner p 2 = some 15 ∧ (dmaCh p 2 15).desc.isSome = true ∧ (dmaCh p 2 15).due = true ∧
    ok (exec (.dmaGrant 2) p) (fun u => (dmaCh u 2 15).moved == 2 && rd u R.CH_STAT_DMA_TRIG_PEND 2 15 == 2) = true ∧
    fetchError b 2 15 (readDesc b 2 0x100) = 3 ∧ ok (exec (.dmaGrant 2) b) (fun u => chState u 2 15 == chError
      && rd u R.CH_STAT_DMA_ERR 2 15 == 3 && r32 u (.laneSram .z) 0x11C == 2 ^ 30 + 3 * 2 ^ 16) = true ∧
    ok (exec (.dmaGrant 2) (wr b R.CUR_DESC_ADDR 0x7FFFF0 2 15)) (fun u => rd u R.CH_STAT_DMA_ERR 2 15 == 1) = true ∧
    idle (.dmaGrant 2) on = true ∧ rd c R.CH_CTRL_TRIG 2 15 = 2 ∧ rd c R.CH_CTRL_CHAIN_SRC 2 15 = 3 ∧ chWaits c 2 15 = true ∧
    chState (dmaChain c 2 3) 2 15 = chPend ∧
    (let h := setLane g .z (fun x => { x with fenced := true }); agentUp h 2 = false ∧ idle (.dmaGrant 2) h = true ∧
      idle (.dmaError 2 6 0) h = true) := by decide +kernel

/-- DmaChannels: a copy, its failed read-back and check value, the host path down, errors, the Tumbler pass. -/
theorem test_dmaEnd :
    let c := copying chRun
    let d : Desc := ⟨0x40, 0x80, 4, 2 ^ 31, 0⟩
    let k : Desc := ⟨0x40, 0x80, 4, 2 ^ 31 + 2 ^ 23 + 2 * 2 ^ 19, 0⟩
    let chs := fun (x : Desc) (s : State) => { s with dma := { s.dma with chs := [(47, ⟨some x, 0, 0, false, false, false⟩)] } }
    let h : Desc := ⟨2 ^ 63, 0, 4, 2 ^ 31, 0⟩
    let i : Desc := ⟨0x10000000, 0x80, 4, 2 ^ 31, 0⟩
    runCh c 2 = some 15 ∧ (dmaCh c 2 15).desc = some d ∧ (dmaCh c 2 15).moved = 0 ∧ chState c 2 15 = chRun ∧ dmaHeld c 2 d = false ∧
    c.marks.flips = [] ∧ dmaPlace 2 d.src d.len false = some (.laneSram .z, 0x40) ∧ dmaPlace 2 d.dst d.len true = some (.laneSram .z, 0x80) ∧
    d.cvuEn = false ∧ d.blockEnd = true ∧ d.chainOut = false ∧ hostSrc d = false ∧ hostDst d = false ∧ rd c R.CH_STAT_DMA_TRIG_PEND 2 15 = 0 ∧
    rd c R.CH_CTRL_TRIG 2 15 ≠ 3 ∧ (dmaRun c 2 d 0 4).2.2 = false ∧ stripBad (dmaAppend (dmaRun c 2 d 0 4).1 2 d) 2 d = false ∧
    ok (exec (.descriptorComplete 2 true) c) (fun t => r32 t (.laneSram .z) 0x80 == 0x01020304 && r32 t (.laneSram .z) 0x11C == 2 ^ 31
      && rd t R.DONE_CNT_BLOCKS 2 15 == 1 && chState t 2 15 == chIdle) = true ∧
    d.mode ≠ 3 ∧ ok (exec (.descriptorComplete 2 false) c) (fun t => rd t R.CH_STAT_DMA_ERR 2 15 == 8) = true ∧
    (dmaCh (chs k c) 2 15).desc = some k ∧ stripBad (dmaAppend (dmaRun (chs k c) 2 k 0 4).1 2 k) 2 k = true ∧
    ok (exec (.descriptorComplete 2 true) (chs k c)) (fun t => rd t R.CH_STAT_DMA_ERR 2 15 == 9) = true ∧
    hostSrc h = true ∧ hostDst h = false ∧ outboundUp c = false ∧
    ok (exec (.descriptorComplete 2 true) (chs h c)) (fun t => rd t R.CH_STAT_DMA_ERR 2 15 == 6) = true ∧
    hostDst ⟨0, 2 ^ 63, 4, 2 ^ 31, 0⟩ = true ∧
    ok (exec (.descriptorComplete 2 true) (chs ⟨0, 2 ^ 63, 4, 2 ^ 31, 0⟩ c)) (fun t => rd t R.CH_STAT_DMA_ERR 2 15 == 7
      && t.bridge.log.length == 1) = true ∧
    dmaHeld (wrL (chs i c) R.TUM_STAT_STATE .z 1) 2 i = true ∧ idle (.descriptorComplete 2 true) (wrL (chs i c) R.TUM_STAT_STATE .z 1) = true ∧
    idle (.descriptorComplete 2 true) (copying chDrain) = true ∧
    runCh on 2 = none ∧ idle (.descriptorComplete 2 true) on = true ∧ idle (.dmaError 2 6 0) on = true ∧
    accessError d 8 = true ∧ ok (exec (.dmaError 2 8 0) c) (fun t => rd t R.CH_STAT_DMA_ERR 2 15 == 8 && bitAt (rd t R.DMA_INT_CH 2) 15 == 1) = true ∧
    accessError d 9 = false ∧ idle (.dmaError 2 9 0) c = true := by decide +kernel

/-- DmaChannels: a pause in the transfer, of another channel, and at its
end; drained; resumed; aborted. -/
theorem test_dmaPause :
    let c := copying chRun
    let d : Desc := ⟨0x40, 0x80, 4, 2 ^ 31, 0⟩
    let e : Desc := ⟨0, 0x1000, 300, 2 ^ 31, 0⟩
    let b := { c with dma := { c.dma with chs := [(47, ⟨some e, 0, 0, false, false, false⟩)] } }
    runCh c 2 ≠ some 14 ∧ ok (exec (.chPause 2 14 0) c) (fun t => rd t R.CH_CTRL_PAUSE 2 14 == 1 && runCh t 2 == some 15) = true ∧
    (dmaCh b 2 15).desc = some e ∧ burstsFrom b 2 e 1 0 = 256 ∧ burstsFrom b 2 e 2 0 = 300 ∧
    ok (exec (.chPause 2 15 1) b) (fun t => chState t 2 15 == chDrain && (dmaCh t 2 15).moved == 256) = true ∧
    ok (exec (.chPause 2 15 2) b) (fun t => chState t 2 15 == chReadback) = true ∧
    runCh (copying chDrain) 2 = some 15 ∧ chState (copying chDrain) 2 15 = chDrain ∧
    ok (exec (.chPauseDrained 2 15) (copying chDrain)) (fun t => chState t 2 15 == chPaused && runCh t 2 == none) = true ∧
    idle (.chPauseDrained 2 15) c = true ∧ idle (.chPauseDrained 2 14) (copying chDrain) = true ∧
    chState (chan chPaused on) 2 15 = chPaused ∧
    ok (exec (.chResume 2 15) (wr (chan chPaused on) R.CH_CTRL_PAUSE 1 2 15)) (fun t => chState t 2 15 == chPend
      && rd t R.CH_CTRL_PAUSE 2 15 == 0 && (dmaCh t 2 15).due) = true ∧
    ok (exec (.chResume 2 15) (wr c R.CH_CTRL_PAUSE 1 2 15)) (fun t => chState t 2 15 == chRun && rd t R.CH_CTRL_PAUSE 2 15 == 0) = true ∧
    (dmaCh c 2 15).desc = some d ∧ c.marks.flips = [] ∧
    ok (exec (.chAbort 2 15 0) c) (fun t => rd t R.CH_STAT_DMA_ERR 2 15 == 11 && (dmaCh t 2 15).desc.isNone) = true ∧
    (dmaCh on 2 15).desc = none ∧ ok (exec (.chAbort 2 15 0) (chan chWait on)) (fun t => chState t 2 15 == chIdle) = true := by decide +kernel

/-! ## The Hinge window -/

/-- The window on, a code captured, armed at 0. -/
def hb (code : Nat) : State :=
  inHinge (fun x => { x with code := code, armedAt := some 0 }) (inKp (fun x => { x with hinge := true }) kp)

/-- HingeWindow: the copy, arming, each strike in time and too late, unknown codes, the response. -/
theorem test_hinge :
    let r := inScan' (fun x => { x with committed := true, gen := 5 }) (hb 0)
    let f := inHinge (fun x => { x with filled := some [] }) r
    let late := fun (n : Nat) => at' 100001 (hb n)
    hbOn (hb 1) = true ∧ r.keeper.hinge = true ∧ keeperUp r = true ∧ r.scan.committed = true ∧ r.hinge.filled = none ∧
    ok (exec .hingeRefresh r) (fun t => t.hinge.filled.isSome && t.hinge.shown.isNone) = true ∧
    f.hinge.filled = some [] ∧ lagged (some []) 0x11 * 2 ^ 16 + lagged (some []) 0x12 ≠ f.scan.gen ∧
    ok (exec .hingeRefresh f) (fun t => t.hinge.shown == some []) = true ∧ idle .hingeRefresh (inScan' (fun x => { x with gen := 0 }) f) = true ∧
    on.keeper.hinge = false ∧ idle .hingeRefresh on = true ∧ idle (.hingeAccess false true 2 1) on = true ∧ idle .hingeStop on = true ∧
    ok (exec .hingeStrikeArm (at' 7 (hb 0))) (fun t => t.hinge.armedAt == some 7 && rd t R.HB_LIVE_ARMED == 1) = true ∧
    ok (exec .hingeStrikeTimeout (late 0)) (fun t => t.hinge.armedAt.isNone) = true ∧
    idle .hingeStrikeTimeout (at' 100000 (hb 0)) = true ∧ rd (hb 1) R.CMD_STAT_BUSY = 0 ∧ keeperUp (hb 1) = true ∧
    (∀ e ∈ [(Instr.hingeStop, 1), (.hingeRun, 2), (.hingeFaultAck, 3), (.hingeForcePoint, 0x10), (.hingeForceWord, 0x11),
        (.hingeForceClear, 0x12), (.hingeForceClearAll, 0x13), (.hingeForceAck, 0x14), (.hingeTimeSet, 0x20)],
      ok (exec e.1 (at' 100000 (hb e.2))) (fun t => rd t R.CMD_STAT_BUSY == 1 && (mbPair t 3).cmd.isSome) = true ∧
      ok (exec e.1 (inHinge (fun x => { x with armedAt := none }) (hb e.2))) (fun t => rd t R.CMD_STAT_BUSY == 0) = true ∧
      ok (exec e.1 (late e.2)) (fun t => rd t R.CMD_STAT_BUSY == 0 && t.hinge.armedAt.isNone) = true ∧
      ok (exec e.1 (wr (hb e.2) R.CMD_STAT_BUSY 1)) (fun t => Tab.get 0 t.hinge.cnt 0x22 == 1) = true ∧ idle e.1 (hb 0) = true) ∧
    ok (exec .hingeTunnelSend (at' 100000 (hb 0x7F))) (fun t => rd t R.MB_STAT_RSP_VALID 0 3 == 1) = true ∧
    ok (exec .hingeUnknownCode (hb 0x21)) (fun t => rd t R.CMD_STAT_STATUS == 5 && rd t R.CMD_STAT_DONE == 1) = true ∧
    ok (exec .hingeUnknownCode (wr (hb 0x21) R.CMD_STAT_BUSY 1)) (fun t => Tab.get 0 t.hinge.cnt 0x22 == 1) = true ∧
    idle .hingeUnknownCode (hb 1) = true ∧
    ok (exec .hingeResponse (inHinge (fun x => { x with answer := some (3, 4, 5) }) (hb 0))) (fun t => rd t R.CMD_STAT_STATUS == 3
      && rd t R.CMD_STAT_REASON == 4 && t.hinge.rsp == 5) = true ∧ idle .hingeResponse (hb 0) = true := by decide +kernel

/-- HingeWindow: accesses 999 ns and 1 µs after the previous one, reads and writes, both strobes, split values, FCS, the tunnel. -/
theorem test_hingeAccess :
    let w := wr (hb 0) R.TUN_PTR_PTR 0xFFE
    let b := wr (hb 0) R.CMD_STAT_BUSY 1
    let c := inHinge (fun x => { x with cnt := [(0x26, 0x30004)] }) (hb 0)
    let n := { c with clk := { c.clk with rc := [(hingeKey 0x26, some (0x20003, 1))] } }
    let l := inHinge (fun x => { x with lastAt := some 0 }) (hb 0)
    Tab.get 0 (hbAccess (at' 999 l)).hinge.cnt 0x24 = 1 ∧ (hbAccess (at' 1000 l)).hinge.cnt.isEmpty = true ∧ (hb 0).hinge.lastAt = none ∧
    ok (exec (.hingeAccess true false 0 0) (hb 0)) (fun t => decide (t.out = [.hinge 0x1C40])) = true ∧
    ok (exec (.hingeAccess true false 0xFF 0) (hb 0)) (fun t => decide (t.out = [.hinge 0])) = true ∧
    idle (.hingeAccess true true 0 0) (hb 0) = true ∧ idle (.hingeAccess false false 2 1) (hb 0) = true ∧
    ok (exec (.hingeAccess false true 2 3) (hb 0)) (fun t => rd t R.HB_CTRL_IMG_SEL == 1 && t.hinge.armedAt.isNone) = true ∧
    ok (exec (.hingeAccess false true 6 0xFFFF) (hb 0)) (fun t => rd t R.TUN_PTR_PTR == 0xFFE) = true ∧
    ok (exec (.hingeAccess false true 0x40 9) (hb 0)) (fun t => t.hinge.code == 9) = true ∧
    ok (exec (.hingeAccess false true 0x47 9) (hb 0)) (fun t => hbArg t 6 == 9 && hbArg t 5 == 0) = true ∧
    ok (exec (.hingeAccess false true 0x40 9) b) (fun t => t.hinge.code == 0 && Tab.get 0 t.hinge.cnt 0x23 == 1) = true ∧
    ok (exec (.hingeAccess false true 0 3) (hb 0)) (fun t => Tab.get 0 t.hinge.cnt 0x23 == 1) = true ∧
    ok (exec (.hingeAccess false true 5 0x55) (at' 8 (hb 0))) (fun t => t.hinge.armedAt == some 8) = true ∧
    ok (exec (.hingeAccess false true 5 0x56) (hb 0)) (fun t => t.hinge.armedAt.isNone) = true ∧
    1 ≤ splitTail 0x26 ∧ ok (exec (.hingeSplitHighRead 0x26) c) (fun t => decide (t.out = [.hinge 3])) = true ∧
    splitTail 0 = 0 ∧ idle (.hingeSplitHighRead 0) c = true ∧
    ok (exec .fcsHiRead c) (fun t => decide (t.out = [.hinge 3]) && Tab.get 0 t.hinge.shadow 0x27 == 4 && t.hinge.cnt.isEmpty) = true ∧
    Tab.get none n.clk.rc (hingeKey 0x26) = some (0x20003, 1) ∧
    ok (exec .fcsHiRead n) (fun t => decide (t.out = [.hinge 2]) && Tab.get 0 t.hinge.cnt 0x26 == 1) = true ∧
    rd w R.CMD_STAT_BUSY = 0 ∧ ok (exec (.tunDataWrite 0x1234) w) (fun t => rb t (.cmdBuf 3) 0xFFE == 0x12 && rb t (.cmdBuf 3) 0xFFF == 0x34)
      = true ∧
    rd b R.CMD_STAT_BUSY = 1 ∧ ok (exec (.tunDataWrite 1) b) (fun t => Tab.get 0 t.hinge.cnt 0x23 == 1) = true ∧
    ok (exec .tunDataRead (wb (hb 0) (.rspBuf 3) 1 7)) (fun t => rd t R.TUN_PTR_PTR == 2 && decide (t.out = [.hinge 7])) = true := by decide +kernel

/-! ## The mailbox commands -/

/-- Every function that a command needs is ready. -/
def all : State :=
  let s := wrAll (wrAll kp R.PRISM_STAT_TEST_PASS 1) R.TUM_STAT_PROG_VALID 1
  setCxLink (wrAll (wrAll (wrAll (wr (wr s R.LU_STAT_STATE 5) R.LU_STAT_LINE_A 1) R.CX_CTRL_EN 1) R.CX_STAT_SYNC_OK 1) R.CX_CTRL_N_MEMB 1) true true
/-- A command with a payload in execution on pair 1, and the status byte of its answer. -/
def c1 (op : Nat) (l : List Byte) : State := cmd 1 op l all
def st (i : Instr) (s : State) : Option Nat :=
  match exec i s with
  | .next t => if (mbPair t 1).cmd = none then some (rb t (.rspBuf 1) 12).toNat else none
  | _ => none
/-- The request that a command has put at the end of what the Keeper posts. -/
def posted (i : Instr) (s : State) : Option (Origin × Request) :=
  match exec i s with
  | .next t => t.keeper.toPost.getLast?
  | _ => none

/-- MailboxAnswer: an answer with a payload. -/
theorem test_answer : let t := mbAnswer (c1 0x100 []) 1 ⟨5, 7, 0x100, false, []⟩ (rspOk [0xAA, 0xBB])
    ([0xAA, 0xBB] : List Byte).length ≤ 4064 ∧ rd t R.MB_STAT_OWNER 0 1 = 0 ∧ rd t R.MB_STAT_LAST_SEQ 0 1 = 7 ∧ rb t (.rspBuf 1) 33 = 0xBB ∧
    r16 t (.rspBuf 1) 0 = 0x4B52 ∧ r16 t (.rspBuf 1) 6 = 0x100 := by decide +kernel

/-- MailboxReads: the READY bits that the commands need are there, or not; each payload that fits, and one that does not. -/
theorem test_reads :
    let n := inModl (fun x => { x with rst := false }) (inKp (fun x => { x with up := true }) on)
    needsMet all nKeeper = true ∧ needsMet all nTumbler = true ∧ needsMet all nJournal = true ∧ needsMet all nRecorder = true ∧
    inExec (c1 0x1 [9]) 1 0x1 = some ⟨5, 7, 1, false, [9]⟩ ∧ inExec all 1 0x1 = none ∧ idle (.nop 1) all = true ∧
    needsMet (cmd 1 0x700 [] n) nJournal = false ∧ st (.jrnlInfo 1) (cmd 1 0x700 [] n) = some 7 ∧ st (.forceList 1) (cmd 1 0x312 [0, 0] n) = some 7 ∧
    st (.nop 1) (c1 0x1 [9]) = some 0 ∧ outcome (c1 0x2 [1, 0]) 1 1 = none ∧ st (.reqStatus 1) (c1 0x2 [1, 0]) = some 0xF ∧
    st (.reqStatus 1) (setMb (c1 0x2 [1, 0]) 1 (fun x => { x with log := [⟨1, 0x200, 1, 0x21, 3⟩] })) = some 0 ∧
    (outcome (setMb (c1 0x2 [1, 0]) 1 (fun x => { x with log := [⟨1, 0x200, 1, 0x21, 3⟩] })) 1 1).isSome = true ∧
    st (.statusGet 1) (c1 0x101 []) = some 0 ∧ 16 ≤ leAt [0, 63, 0] 1 2 ∧ leAt [0, 63, 0] 1 2 ≤ 63 ∧
    st (.unitGet (1, 0)) (c1 0x102 [0, 63, 0]) = some 0 ∧ st (.unitGet (1, 0)) (c1 0x102 [0]) = some 6 ∧ st (.unitGet (1, 0)) (c1 0x102 [0, 64, 0]) = some 6 ∧ st (.progInfo 1) (c1 0x301 []) = some 0 ∧
    st (.cfgGet 1) (c1 0x401 [7]) = some 0 ∧ st (.cfgGet 1) (c1 0x401 []) = some 6 ∧ st (.safeInfo 1) (c1 0x602 []) = some 0 ∧
    st (.timeGet 1) (c1 0x800 []) = some 0 ∧ st (.certGet 1) (c1 0xB01 [2]) = some 6 ∧
    st (.attest 1) (c1 0xB00 [1]) = some 6 ∧ (List.replicate 32 (0 : Byte)).length = 32 ∧ st (.forceList 1) (c1 0x312 [0, 0]) = some 0 ∧
    st (.jrnlInfo 1) (c1 0x700 []) = some 0 ∧ (inScan' (fun x => { x with retained := [(0, 4, 8)] }) all).scan.retained[0]? = some (0, 4, 8) ∧
    st (.jrnlRead 1) (c1 0x701 []) = some 6 ∧ st (.jrnlRead 1) (c1 0x701 (List.replicate 7 0)) = some 6 ∧
    st (.jrnlRead 1) (inScan' (fun x => { x with retained := [(0, 4, 8)] }) (c1 0x701 (List.replicate 7 0))) = some 0 ∧
    st (.jrnlExport 1) (c1 0x704 []) = some 6 ∧ leAt [0, 0, 0, 0, 1, 0] 0 4 = 0 ∧ st (.jrnlExport 1) (c1 0x704 (leBytes 4 64 ++ [1, 0])) = some 0 ∧
    st (.reqStatus 1) (c1 0x2 []) = some 6 ∧ st (.luStat 1) (c1 0x502 []) = some 0 ∧ st (.certGet 1) (c1 0xB01 []) = some 6 ∧
    st (.recInfo 1) (c1 0x702 []) = some 0 ∧ leAt (leBytes 4 262143 ++ [63, 0]) 0 4 < 262144 ∧
    st (.recRead 1) (c1 0x703 (leBytes 4 262143 ++ [63, 0])) = some 0 ∧ st (.recRead 1) (c1 0x703 []) = some 6 := by decide +kernel

/-- UNIT_GET: the view agrees, also at a commit compared before, differs in 4 commits, after an F4 fault, and differs in 3 only: no answer
yet. -/
theorem test_unitGet :
    let v := fun (x : ViewSt) => inScan' (fun k => { k with commits := 2 }) (inKp (fun k => { k with views := [(63, x)] }) (c1 0x102 [0, 63, 0]))
    let fl := fun (s : State) (view : Word) => match exec (.unitGet (1, view)) s with
      | .next t => (rb t (.rspBuf 1) 3).toNat
      | _ => 99
    votedView (v ⟨3, 1, 9⟩) (leAt [0, 63, 0] 0 1) (leAt [0, 63, 0] 1 2) = some 0 ∧ viewOf (v ⟨3, 1, 9⟩) 0 63 = some ⟨3, 1, 9⟩ ∧
    st (.unitGet (1, 0)) (v ⟨0, 1, 0⟩) = some 0 ∧ fl (v ⟨0, 1, 0⟩) 0 = 0 ∧ fl (v ⟨0, 2, 0⟩) 0 = 2 ∧
    (viewTake (v ⟨3, 1, 9⟩) (some ⟨3, 1, 9⟩) 9 0).n = 4 ∧ st (.unitGet (1, 9)) (v ⟨3, 1, 9⟩) = some 0 ∧ fl (v ⟨3, 1, 9⟩) 9 = 4 ∧
    st (.unitGet (1, 9)) (inModl (fun x => { x with prismStop := true }) (v ⟨2, 1, 9⟩)) = some 0 ∧
    ok (exec (.unitGet (1, 9)) (v ⟨2, 1, 9⟩)) (fun t => (mbPair t 1).cmd.isSome && t.keeper.views == [(63, ⟨3, 2, 9⟩)]) = true := by decide +kernel

/-- MailboxRequests: what each command posts; a pair that MB_POLICY does not permit, the safe state, a function not ready. -/
theorem test_requests :
    let may (op : Nat) (need : List Nat) (s : State) : Bool :=
      (inExec s 1 op).isSome && permitted s 1 && !s.keeper.safeSeen && needsMet s need
    let tok := inKp (fun x => { x with token := some (1, 60, 0) })
    let obj (k : Nat) := inKp (fun x => { x with objs := [(9, ⟨k, 512 + 8, true⟩)] })
    let f : List Byte := List.replicate 24 0
    (∀ e ∈ [(Instr.modeSetStop 1, c1 0x200 [1], Request.modeStop), (.modeSetRun 1, c1 0x200 [2], .modeRun),
        (.modeSetService 1, tok (c1 0x200 [3]), .modeService 1 60), (.modeSetLeaveService 1, c1 0x200 [4], .leaveService),
        (.faultAck 1, c1 0x201 [], .faultAck), (.park 1, c1 0x202 [], .park),
        (.progLoad 1, obj 3 (c1 0x300 (9 :: List.replicate 11 0)), .progLoad (slotAddr 3 true) 8 0),
        (.forceSet 1, c1 0x310 f, .forceSet 0 ((pieces 16 1 (f.drop 8)).map forceOfBytes)),
        (.forceClear 1, c1 0x311 (List.replicate 12 0), .forceClear 0 [0]), (.forceAck 1, c1 0x313 (List.replicate 12 0), .forceAck 0 0),
        (.cfgSetScan 1, c1 0x400 [1], .cfg 1 []), (.cfgSetFieldIo 1, c1 0x400 [2], .cfg 2 []), (.cfgSetPair 1, c1 0x400 [3], .cfg 3 []),
        (.cfgSetCascade 1, c1 0x400 [4], .cfg 4 []), (.cfgSetTime 1, c1 0x400 [5], .cfg 5 []),
        (.luHandover 1, c1 0x501 [5, 0, 0, 0, 2, 0], .luHandover 5 2), (.pslAck 1, c1 0x601 [255, 0], .pslAck (some 255)), (.pslAck 1, c1 0x601 [0, 1], .pslAck (some 256)),
        (.pslAck 1, c1 0x601 [255, 255], .pslAck none), (.quiesce 1, c1 0x900 [2], .quiesce .z),
        (.reload 1, c1 0x901 (2 :: List.replicate 8 0), .reload .z 0), (.selftest 1, c1 0x902 [2], .selftest .z), (.copy 1, c1 0x903 [2], .copy .z)],
      posted e.1 e.2.1 = some (.pair 1 7, e.2.2)) ∧
    (∀ e ∈ [(0x200, nPrism), (0x201, nPrism), (0x202, nPrism), (0x300, nPrism), (0x310, nTumbler), (0x311, nTumbler), (0x313, nTumbler),
        (0x400, nPrism), (0x500, nPrism), (0x501, [7, 8]), (0x600, nPrism), (0x601, nPrism), (0x900, nPrism), (0x901, nPrism),
        (0x902, nPrism), (0x903, nPrism)], may e.1 e.2 (c1 e.1 []) = true) ∧
    st (.modeSetService 1) (c1 0x200 [3]) = some 0xD ∧ st (.progLoad 1) (c1 0x300 []) = some 6 ∧ st (.forceSet 1) (c1 0x310 []) = some 6 ∧
    (∀ e ∈ [(Instr.forceSet 1, c1 0x310 (List.replicate 25 0)), (.forceSet 1, c1 0x310 (List.replicate (8 + 16 * 33) 0)), (.forceClear 1, c1 0x311 []),
        (.forceClear 1, c1 0x311 (List.replicate (8 + 4 * 33) 0)), (.forceAck 1, c1 0x313 []), (.cfgSetScan 1, c1 0x400 [1, 0]),
        (.cfgSetFieldIo 1, c1 0x400 [2, 0]), (.cfgSetPair 1, c1 0x400 [3, 0]), (.cfgSetCascade 1, c1 0x400 [4, 0]), (.cfgSetTime 1, c1 0x400 [5, 0]),
        (.luSched 1, c1 0x500 []), (.luHandover 1, c1 0x501 []), (.safeCfg 1, c1 0x600 []), (.pslAck 1, c1 0x601 [0]), (.quiesce 1, c1 0x900 [3]),
        (.reload 1, c1 0x901 []), (.selftest 1, c1 0x902 [3]), (.copy 1, c1 0x903 [3])], st e.1 e.2 = some 6) ∧ laneOf 3 = none ∧
    idle (.modeSetRun 1) (c1 0x200 [1]) = true ∧ st (.modeSetService 1) (inKp (fun x => { x with token := some (0, 60, 0) }) (c1 0x200 [3])) = some 0xD ∧
    posted (.modeSetRun 1) all = none ∧ laneOf 2 = some .z ∧
    permitted (inKp (fun x => { x with policy := 0 }) (c1 0x201 [])) 1 = false ∧
    st (.faultAck 1) (inKp (fun x => { x with policy := 0 }) (c1 0x201 [])) = some 9 ∧
    (inKp (fun x => { x with safeSeen := true }) (c1 0x201 [])).keeper.safeSeen = true ∧
    needsMet (wrAll (c1 0x201 []) R.PRISM_STAT_TEST_PASS 0) nPrism = false ∧
    st (.faultAck 1) (wrAll (c1 0x201 []) R.PRISM_STAT_TEST_PASS 0) = some 7 := by decide +kernel

/-- LU_SCHED and SAFE_CFG: an object of the kind in flash, a safety object with its three sections. -/
theorem test_objects :
    let o4 : List Byte := leBytes 4 1 ++ leBytes 4 48 ++ leBytes 8 1 ++ leBytes 4 2 ++ leBytes 4 49 ++ leBytes 8 1 ++ leBytes 4 3
      ++ leBytes 4 50 ++ leBytes 8 1 ++ [0xA, 0xB, 0xC]
    object (inKp (fun x => { x with objs := [(9, ⟨6, 4, false⟩)] }) (c1 0x500 (leBytes 4 9 ++ leBytes 4 1))) 9 6 = some ⟨6, 4, false⟩ ∧
    posted (.luSched 1) (inKp (fun x => { x with objs := [(9, ⟨6, 4, false⟩)] }) (c1 0x500 (leBytes 4 9 ++ leBytes 4 1))) =
      some (.pair 1 7, .luSched [0, 0, 0, 0] 1) ∧
    safeSection o4 1 = some [0xA] ∧ safeSection o4 2 = some [0xB] ∧ safeSection o4 3 = some [0xC] ∧
    (let s := wbs (inKp (fun x => { x with objs := [(9, ⟨4, 512 + 51, false⟩)] }) (c1 0x600 (leBytes 4 9))) .flash (slotAddr 4 false) o4
     posted (.safeCfg 1) s = some (.pair 1 7, .safeCfg [0xA] [0xB] [0xC])) := by decide +kernel

/-- MailboxActions: the commands that the Keeper carries out itself, at the ends of their operands' ranges. -/
theorem test_actions :
    let x := inKp (fun x => { x with xfers := [(6, ⟨3, 4, [(0, 4)], 0⟩)], objs := [(9, ⟨1, 4, true⟩)] })
    let svc := inModl (fun x => { x with mode := .service, grants := 16 })
    let md := 6 :: (leBytes 4 2 ++ leBytes 4 15 ++ leBytes 4 1000 ++ leBytes 4 145 ++ leBytes 4 7)
    permitted all 1 = true ∧ needsMet all [28] = true ∧ needsMet all nPrism = true ∧
    ok (exec (.relay 1) (c1 0x3 (1 :: List.replicate 16 0))) (fun t => t.out.length == 1 && (mbPair t 1).queued) = true ∧
    st (.relay 1) (c1 0x3 (0 :: List.replicate 16 0)) = some 6 ∧
    ok (exec (.xferBegin 1) (c1 0x10 (7 :: leBytes 4 (slotSize 7)))) (fun t => t.keeper.handle == 1) = true ∧ 0 < slotSize 7 ∧
    st (.xferBegin 1) (x (c1 0x10 (6 :: leBytes 4 4))) = some 8 ∧
    xferOf (x all) 3 = some (6, ⟨3, 4, [(0, 4)], 0⟩) ∧ covered ⟨3, 4, [(0, 4)], 0⟩ = true ∧ covered ⟨3, 4, [(0, 3)], 0⟩ = false ∧
    ok (exec (.xferData 1) (x (c1 0x11 (leBytes 4 3 ++ leBytes 4 3 ++ [0xEE])))) (fun t => rb t .keeperSram (stageAt 6 + 3) == 0xEE) = true ∧
    xferOf all 3 = none ∧ st (.xferData 1) (c1 0x11 (leBytes 4 3 ++ leBytes 4 3 ++ [0xEE])) = some 6 ∧
    ok (exec (.xferEnd 1) (x (c1 0x12 (leBytes 4 3 ++ leBytes 4 (crc32c [0, 0, 0, 0]))))) (fun t => (t.keeper.objs.find? fun e => e.1 == 3)
      == some (3, ⟨6, 4, objBank all 6⟩)) = true ∧
    st (.xferAbort 1) (x (c1 0x13 (leBytes 4 3))) = some 0 ∧
    ok (exec (.keeperRestart 1) (c1 0x203 [])) (fun t => t.keeper.restart == some 2 && rd t R.MB_STAT_RSP_VALID 0 1 == 1) = true ∧
    moduleOk (md.drop 1) = true ∧ leAt (md.drop 1) 4 4 = all.keeper.policy ∧ st (.cfgSetModule 1) (c1 0x400 md) = some 0 ∧
    all.modl.mode ≠ .service ∧ st (.cfgSetModule 1) (inKp (fun x => { x with policy := 3 }) (c1 0x400 md)) = some 9 ∧
    st (.cfgSetMaintIpv4 1) (c1 0x400 (7 :: List.replicate 13 0)) = some 0 ∧
    all.keeper.token = none ∧ st (.jrnlImport 1) (inKp (fun x => { x with objs := [(9, ⟨7, 64, false⟩)] }) (c1 0x705 (leBytes 4 9))) = some 9 ∧
    ok (exec (.timeSet 1) (c1 0x801 (leBytes 8 (2 ^ 64 - 1) ++ [37]))) (fun t => t.time.tb2 == 2 ^ 64 - 4 && rd t R.TB2_CTRL_UTC_OFS == 37) = true ∧
    rd (wr all R.TB2_CTRL_SRC 1) R.TB2_CTRL_SRC = 1 ∧ st (.timeSet 1) (wr (c1 0x801 (leBytes 9 0)) R.TB2_CTRL_SRC 1) = some 0xE ∧
    (let t := wr (inTime (fun x => { x with tb2 := 8 }) (c1 0x802 (leBytes 8 (2 ^ 64 - 4)))) R.TB_STAT_VALID 4
     needsMet t [22] = true ∧ ok (exec (.timeAdj 1) t) (fun u => u.time.tb2 == 4) = true ∧ st (.timeAdj 1) (wr t R.TB2_CTRL_SRC 1) = some 0xE) ∧
    ok (exec (.timeSrc 1) (c1 0x803 [1, 127])) (fun t => rd t R.TB2_CTRL_SRC == 1 && t.time.domain == 127) = true ∧
    ok (exec (.alarmSet 1) (c1 0x804 (leBytes 6 (2 ^ 48 - 1) ++ [1]))) (fun t => rd t R.AON_ALARM_HI_TICK == 65535 && rd t R.WAKE_CFG_ALARM_EN == 1)
      = true ∧
    object (x all) 9 1 = some ⟨1, 4, true⟩ ∧ all.keeper.activated = false ∧ st (.fwWrite 1) (x (c1 0xA00 (leBytes 4 9))) = some 0 ∧
    st (.fwWrite 1) (inKp (fun x => { x with activated := true }) (x (c1 0xA00 (leBytes 4 9)))) = some 8 ∧
    verifySlot all 1 (leAt [1] 0 1 == 1) ≠ 1 ∧ st (.fwActivate 1) (c1 0xA01 [1]) = some 0xA ∧
    otpMay (svc all) = true ∧ otpMay all = false ∧ leAt (5 :: leBytes 4 0) 1 4 ≤ svnInUse (svc all) 5 ∧
    st (.otpSvn 1) (svc (c1 0xA10 (5 :: leBytes 4 0))) = some 0 ∧ st (.otpSvn 1) (c1 0xA10 (5 :: leBytes 4 0)) = some 9 ∧
    st (.otpRevoke 1) (c1 0xA11 [3]) = some 9 := by decide +kernel

/-- MailboxActions: a pair that MB_POLICY does not permit, where RELAY and a token's transfer still run; payloads that do not fit; a READY bit
that is missing; firmware of the second kind. -/
theorem test_actionsRefused :
    let x := inKp (fun x => { x with xfers := [(6, ⟨3, 4, [(0, 4)], 0⟩)], objs := [(9, ⟨1, 4, true⟩)] })
    (let r := { all with keeper := { all.keeper with policy := 0 } }
     permitted r 1 = false ∧ ok (exec (.relay 1) (cmd 1 0x3 (1 :: List.replicate 16 0) r)) (fun t => (mbPair t 1).queued) = true ∧
     st (.xferBegin 1) (cmd 1 0x10 (6 :: leBytes 4 4) r) = some 9 ∧ st (.xferBegin 1) (cmd 1 0x10 (5 :: leBytes 4 0x1000) r) = some 0 ∧
     st (.xferAbort 1) (cmd 1 0x13 (leBytes 4 3) r) = some 9 ∧ st (.alarmSet 1) (cmd 1 0x804 [] r) = some 9) ∧
    (∀ e ∈ [(Instr.relay 1, c1 0x3 []), (.xferBegin 1, c1 0x10 (8 :: leBytes 4 1)), (.xferEnd 1, c1 0x12 []), (.xferAbort 1, c1 0x13 []),
        (.cfgSetModule 1, c1 0x400 [6]), (.cfgSetMaintIpv4 1, c1 0x400 [7]), (.jrnlImport 1, c1 0x705 []), (.timeSet 1, c1 0x801 []),
        (.timeSrc 1, c1 0x803 [2, 0]), (.alarmSet 1, c1 0x804 []), (.fwWrite 1, c1 0xA00 []), (.fwActivate 1, c1 0xA01 [2]),
        (.otpSvn 1, c1 0xA10 [6, 0, 0, 0, 0]), (.otpRevoke 1, c1 0xA11 [4]), (.tokenLoad 1, c1 0xB11 [])], st e.1 e.2 = some 6) ∧
    st (.timeAdj 1) (c1 0x802 []) = some 7 ∧
    (let f := fun (n : Nat) => inKp (fun x => { x with objs := [(9, ⟨n, 600, true⟩)] })
     object (f 5 all) 9 5 = some ⟨5, 600, true⟩ ∧ object (f 2 all) 9 2 = some ⟨2, 600, true⟩ ∧ object (f 2 all) 9 1 = none ∧
     st (.fwWrite 1) (f 2 (c1 0xA00 (leBytes 4 9))) = some 0) ∧
    st (.xferData 1) (x (c1 0x11 (leBytes 4 3 ++ leBytes 4 4 ++ [0xEE]))) = some 6 ∧ st (.xferEnd 1) (x (c1 0x12 (leBytes 4 3 ++ leBytes 4 1))) = some 6 ∧
    xferOf (inKp (fun y => { y with xfers := [(1, ⟨3, 4, [(0, 4)], 0⟩)] }) all) 3 = some (1, ⟨3, 4, [(0, 4)], 0⟩) := by decide +kernel

/-- JRNL_IMPORT in STOP with a token that grants it, of an export with no record. -/
theorem test_import :
    let s := inKp (fun x => { x with token := some (1, 60, 0), objs := [(9, ⟨7, 64, false⟩)] }) (c1 0x705 (leBytes 4 9))
    s.modl.mode = .stop ∧ bitAt 1 0 = 1 ∧ object s 9 7 = some ⟨7, 64, false⟩ ∧ needsMet s nJournal = true ∧
    ((parseRecs 100000 ((rbs s .mram exportBase 64).drop 64)).1.all fun e => e.1 != 0x21 && e.1 != 0x22) = true ∧
    ok (exec (.jrnlImport 1) s) (fun t => t.keeper.token.isNone && rb t (.rspBuf 1) 12 == 0) = true := by decide +kernel

/-! ## The scan -/

/-- The grid runs, three lanes admitted, in mode RUN; and the same with the scan open, lanes in a phase, at the commit deadline. -/
def grid : State := inScan' (fun x => { x with gridOn := true }) (up .run)
def opened (phase : Nat) : State :=
  wrAll (wrAll (wr (inScan' (fun x => { x with gridOn := true, isOpen := true, tx := 5, gridPer := 1000, due := true }) (up .run))
    R.TB_VAL_NS 800000 0 1) R.SCAN_STAT_PHASE phase) R.PRISM_STAT_TEST_PASS 1
/-- TB[1] at a number of ns. -/
def tb1At (ns : Nat) (s : State) : State := wr s R.TB_VAL_NS ns 0 1
/-- Luosh is the source; master, in the cycle that is the first and last of its group, network time at its upstream close. -/
def luGrid (s : State) : State :=
  let t := wr (wrAll s R.SCAN_CTRL_SRC 0) R.LU_STAT_STATE 5
  inScan' (fun x => { x with interim := false }) (inLu (fun x => { x with net := s0 t + tUC t }) t)
/-- Lanes whose pass and core are done. -/
def doneBy (ls : List Lane) (s : State) : State :=
  ls.foldl (fun t l => setLane t l (fun x => { x with tumEnded := true, doneHeld := true, done := true })) s
/-- What a command leaves. -/
def after' (c : Instr) (s : State) : State := match exec c s with | .next t => t | _ => s
/-- No lane of a set. -/
def noLane : LaneSet := .all false

/-- ScanFreeze: a grid point taken, of either source, waited at, and each state in which none is. -/
theorem test_freeze :
    let m := wrAll (wrAll (wrAll (wrAll grid R.CX_CTRL_EN 1) R.CX_CTRL_N_MEMB 1) R.CX_STAT_PRESENT 3) R.CX_CTRL_CX_WAIT 1
    let u := freezeBegin (broadcastErrors (gridPoint m) noLane noLane)
    grid.scan.gridOn = true ∧ grid.scan.isOpen = false ∧ rd grid R.PWR_STAT_PARK_ARM ≠ 1 ∧ grid.cx.waiting = none ∧ pointDue grid = true ∧
    standalone grid = true ∧ pointDue (luGrid grid) = true ∧ standalone (luGrid grid) = false ∧
    cxIncomplete u (cxNumber u) = true ∧ rdL u R.CX_CTRL_CX_WAIT .x ≠ 0 ∧
    ok (exec (.inputFreeze noLane noLane) m) (fun t => t.cx.waiting == some 0 && !t.scan.isOpen) = true ∧
    idle (.inputFreeze noLane noLane) on = true ∧ idle (.inputFreeze noLane noLane) (opened 1) = true ∧
    idle (.inputFreeze noLane noLane) (wr grid R.PWR_STAT_PARK_ARM 1) = true ∧
    idle (.inputFreeze noLane noLane) { grid with cx := { grid.cx with waiting := some 0 } } = true ∧
    pointDue (tb1At 8 grid) = true ∧ pointDue (tb1At 9 grid) = false ∧ pointDue (inScan' (fun x => { x with gridPer := 1000 }) (tb1At 1000008 grid)) = true ∧
    idle (.inputFreeze noLane noLane) (inScan' (fun x => { x with gridPer := 1000 }) (tb1At 1000009 grid)) = true ∧
    idle (.inputFreeze noLane noLane) (inScan' (fun x => { x with gridPer := 1000 }) (tb1At 999999 grid)) = true := by decide +kernel

/-- ScanFreeze: the freeze opens scan 1, and takes the ring. -/
theorem test_freezeTakes :
    ok (exec (.inputFreeze noLane noLane) (inScan' (fun x => { x with ring := [(3, .modeStop)] }) grid)) (fun t => t.scan.isOpen && scanNo t == 1
      && t.scan.ring.isEmpty && t.scan.sampled == [(3, .modeStop)]) = true := by decide +kernel

/-- ScanFreeze: points passed over, CX_WAIT reached and not reached. -/
theorem test_freezePoints :
    let w (ns : Nat) : State := tb1At ns (wrAll { grid with cx := { grid.cx with waiting := some 0 } } R.CX_CTRL_CX_WAIT 1)
    let o := inScan' (fun x => { x with tFreeze := 800000 }) (opened 1)
    pointDue (tb1At 1800000 o) = true ∧
    ok (exec .freezePointPassedOver (tb1At 1800000 o)) (fun t => t.scan.tx == 1000005 && t.scan.tFreeze == 1800000 && t.scan.due
      && rdL t R.CYCLE_COUNT_CYCLE .y == 1) = true ∧
    standalone (luGrid o) = false ∧ pointDue (luGrid o) = true ∧
    ok (exec .freezePointPassedOver (luGrid o)) (fun t => t.scan.tx == 5 && t.scan.tFreeze == 800000 && t.scan.due) = true ∧
    idle .freezePointPassedOver grid = true ∧ idle .freezePointPassedOver o = true ∧ idle .freezePointPassedOver on = true ∧
    ok (exec .cxWaitExpiry (w 1000)) (fun t => t.scan.isOpen && t.cx.waiting == none) = true ∧ idle .cxWaitExpiry (w 999) = true ∧
    idle .cxWaitExpiry grid = true := by decide +kernel

/-- ScanFreeze: a DATA frame taken, wrong, last of a freeze that waits, and not for this module; a challenge. -/
theorem test_freezeCx :
    let fr : CxFrame := cxSealed ⟨1, 2, 1, 0, 0, 1, 7, 1, 0, 0x12, 0, [0xAB], 0⟩
    let c := setCxLink (wrAll (wrAll (wrAll on R.CX_CTRL_EN 1) R.CX_CTRL_N_MEMB 1) R.CX_MEMB0_IN_DLEN 1) true true
    let w := wrAll { c with cx := { c.cx with waiting := some 0, syncNum := 8 } } R.CX_STAT_PRESENT 3
    let d := setLane grid .z (fun x => { x with dozing := true })
    cxOn c = true ∧ cxLink c true = true ∧ cxLink c false = false ∧ fr.kind = 2 ∧ fr.src ≠ cxPos c ∧ cxGood fr 2 = true ∧
    (cxMembers c).contains fr.src = true ∧ fr.frag < fr.frags ∧ fr.frags ≤ 64 ∧ c.cx.waiting = none ∧
    ok (exec (.cascadeDataRx true fr) c) (fun t => (cxBlk t 1).num == 7 && rb t .shared 0 == 0xAB) = true ∧
    cxGood { fr with crc := 0 } 2 = false ∧ idle (.cascadeDataRx true { fr with crc := 0 }) c = true ∧
    idle (.cascadeDataRx true fr) on = true ∧ idle (.cascadeDataRx false fr) c = true ∧ idle (.cascadeDataRx true { fr with kind := 3 }) c = true ∧
    idle (.cascadeDataRx true { fr with src := 0 }) c = true ∧
    cxIncomplete w (cxNumber w) = true ∧ cxIncomplete (cxStore w { fr with crc := 0 }) 8 = true ∧
    ok (exec (.cascadeDataRx true fr) (wr (wr (wr w R.CX_MEMB0_IN_DLEN 1 0 1) R.CX_MEMB0_IN_DLEN 1 1 1) R.CX_MEMB0_IN_DLEN 1 2 1))
      (fun t => t.scan.isOpen && t.cx.waiting == none) = true ∧
    challengeCome d = true ∧ (lane d .z).dozing = true ∧ (lane d .z).injRun = false ∧ laneClocked d .z = true ∧
    ok (exec .dbChallengeIrq d) (fun t => !(lane t .z).dozing && rdL t R.SCAN_STAT_PHASE .z == 1 && decide (lane t .x = lane d .x)) = true ∧
    ok (exec .dbChallengeIrq (setLane d .z (fun x => { x with injRun := true }))) (fun t => (lane t .z).irqHeld && (lane t .z).dozing) = true ∧
    idle .dbChallengeIrq on = true := by decide +kernel

/-- ScanVote: the pass on sound memories, its end, CORE_DONE before and after it, and the states in which they do nothing. -/
theorem test_vote :
    let e := setLane (opened 4) .z (fun x => { x with tumEnded := true })
    inScan (opened 3) .z = true ∧ programRuns (opened 3) = true ∧ rdL (opened 3) R.SCAN_STAT_PHASE .z = 3 ∧ (lane (opened 3) .z).tumEnded = false ∧
    ok (exec (.tumblerPass .z [] []) (opened 3)) (fun t => rdL t R.SCAN_STAT_PHASE .z == 4 && rdL t R.TUM_STAT_STATE .z == 1) = true ∧
    inScan grid .z = false ∧ idle (.tumblerPass .z [] []) grid = true ∧ idle (.tumblerPass .z [] []) (opened 4) = true ∧
    idle (.tumblerPass .z [] []) (inModl (fun x => { x with mode := .stop }) (opened 3)) = true ∧
    idle (.tumblerPass .z [] []) (setLane (opened 3) .z (fun x => { x with tumEnded := true })) = true ∧
    inScan (opened 4) .z = true ∧ (lane (opened 4) .z).doneHeld = false ∧
    ok (exec (.tumblerPassEnd .z) (opened 4)) (fun t => rdL t R.SCAN_STAT_PHASE .z == 5 && (lane t .z).tumEnded) = true ∧
    idle (.tumblerPassEnd .z) (opened 3) = true ∧ idle (.tumblerPassEnd .z) grid = true ∧
    coreUp (opened 4) 2 = true ∧ wakes (opened 4) .z = true ∧
    ok (exec (.coreDone .z [] []) (opened 4)) (fun t => (lane t .z).doneHeld && !(lane t .z).done) = true ∧
    inScan e .z = true ∧ (lane e .z).tumEnded = true ∧
    ok (exec (.coreDone .z [] []) e) (fun t => (lane t .z).done && rdL t R.SCAN_STAT_DONE_Z .x == 1) = true ∧
    ok (exec (.tumblerPassEnd .z) (setLane (opened 4) .z (fun x => { x with doneHeld := true }))) (fun t => (lane t .z).done
      && rdL t R.SCAN_STAT_PHASE .z == 6) = true ∧
    (let n := inFlt (fun x => { x with cstop := some 0, dlStop := true }) e
     unserved e = false ∧ unserved n = true ∧
     ok (exec (.coreDone .z [(0x1004F000, 7)] []) n) (fun t => (lane t .z).done && rb t (.image .z) 0xF000 == 0) = true ∧
     ok (exec (.coreDone .z [(0x1004F000, 7)] []) e) (fun t => rb t (.image .z) 0x4F000 == 7) = true) ∧
    idle (.coreDone .z [] []) grid = true ∧ idle (.coreDone .z [] []) (setLane e .z (fun x => { x with doneHeld := true })) = true ∧
    inScan (setLane e .z (fun x => { x with injRun := true })) .z = true ∧ coreUp (setLane e .z (fun x => { x with injRun := true })) 2 = false ∧
    idle (.coreDone .z [] []) (setLane e .z (fun x => { x with injRun := true })) = true := by decide +kernel

/-- ScanVote: the budget at its limit and 1 ns beyond, the first and a second overrun of a scan. -/
theorem test_budget :
    let e (ns : Nat) : State := tb1At ns (setLane (wrAll (opened 5) R.CT_BUDGET_BUDGET_US 1) .z (fun x => { x with tumEnded := true }))
    inScan (e 1001) .z = true ∧ overBudget (e 1001) .z = true ∧ overBudget (e 1000) .z = false ∧ (lane (e 1001) .z).exceeded = false ∧
    (∀ m ∈ Lane.all, (lane (e 1001) m).exceeded = false) ∧
    ok (exec (.coreBudgetExceeded .z) (e 1001)) (fun t => t.faults.lastCode == 0x0101 && rdL t R.SCAN_STAT_BUDGET_EXC .z == 1
      && rdL t R.BUDGET_EXC_CNT_COUNT .z == 1) = true ∧
    ok (exec (.coreBudgetExceeded .z) (setLane (e 1001) .x (fun x => { x with exceeded := true }))) (fun t => decide (t.faults = (e 1001).faults)
      && (lane t .z).exceeded) = true ∧
    idle (.coreBudgetExceeded .z) (e 1000) = true ∧ idle (.coreBudgetExceeded .z) grid = true ∧
    idle (.coreBudgetExceeded .z) (setLane (e 1001) .z (fun x => { x with exceeded := true })) = true := by decide +kernel

/-- ScanVote: the vote among two of three lanes that are done, with one of three, with one of two, with one lane; the vote point before
and at its time. -/
theorem test_voteStart :
    let v := doneBy [.x, .y] (opened 5)
    let w := doneBy [.y] (opened 5)
    let d := setLane (doneBy [.x] (opened 5)) .z (fun x => { x with admitted := false })
    startLanes v = [] ∧ v.modl.prismStop = false ∧ ((admittedLanes v).filter (finished v)).length = 2 ∧ (lane v .z).admitted = true ∧
    finished v .z = false ∧ (voteStart v).scan.voted.isSome = true ∧ (lane (voteStart v) .z).fenced = true ∧
    (admittedLanes w).length = 3 ∧ ((admittedLanes w).filter (finished w)).length = 1 ∧ (∀ m ∈ Lane.all, (lane w m).invalid = none) ∧
    (voteStart w).scan.missed = true ∧
    (admittedLanes d).length = 2 ∧ ((admittedLanes d).filter (finished d)).length = 1 ∧ (voteStart d).scan.voted = some Voted.none ∧
    (voteStart d).faults.lastCode = 0x0319 ∧ (lane d .y).admitted = true ∧ finished d .y = false ∧
    (let b := setLane (setLane (opened 5) .z (fun x => { x with admitted := false })) .y (fun x => { x with invalid := some 7 })
     startLanes b = [] ∧ (admittedLanes b).length = 2 ∧ ((admittedLanes b).filter (finished b)).length = 0 ∧ (lane b .y).admitted = true ∧
     (voteStart b).scan.voted = some Voted.none ∧ (lane (voteStart b) .y).fenced = true) ∧
    (let c := tb1At 799000 (inScan' (fun x => { x with voted := some Voted.none }) (setLane (setLane (opened 5) .z (fun x =>
        { x with admitted := false, candidate := true, candOk := true })) .y (fun x => { x with candOk := true, compared := true })))
     votePointCome c = true ∧ c.scan.isOpen = true ∧ c.scan.voted.isSome = true ∧
     ok (exec .votePoint c) (fun t => !(lane t .z).candOk && (lane t .y).candOk) = true) ∧
    startLanes (adm [.x] on) = [] ∧ (admittedLanes (adm [.x] on)).length = 1 ∧ (voteStart (adm [.x] on)).scan.voted = some Voted.none ∧
    votePointCome (tb1At 799000 v) = true ∧ v.scan.isOpen = true ∧ v.scan.voted = none ∧ v.scan.missed = false ∧
    votePointCome (tb1At 798999 v) = false ∧ idle .votePoint (tb1At 798999 v) = true ∧
    ok (exec .votePoint (tb1At 799000 w)) (fun t => t.scan.missed) = true := by decide +kernel

/-- ScanVote: DOZE, and each state in which a lane stays awake. -/
theorem test_doze :
    let z (f : LaneSt → LaneSt) : State := setLane grid .z f
    let q : LoadReq := ⟨0, 0, 0, 1, false⟩
    laneClocked grid .z = true ∧ ok (exec (.laneDoze .z) grid) (fun t => (lane t .z).dozing && rdL t R.SCAN_STAT_PHASE .z == 0) = true ∧
    injWindow grid .z = false ∧ ok (exec (.laneDoze .z) (z fun x => { x with injDue := true })) (fun t => (lane t .z).dozing) = true ∧
    ok (exec (.laneDoze .z) (inScan' (fun x => { x with voted := some Voted.none }) (opened 7))) (fun t => (lane t .z).dozing) = true ∧
    idle (.laneDoze .z) (opened 5) = true ∧ idle (.laneDoze .z) (z fun x => { x with injRun := true }) = true ∧
    idle (.laneDoze .z) (z fun x => { x with dbgAct := true }) = true ∧ idle (.laneDoze .z) (z fun x => { x with dozing := true }) = true ∧
    idle (.laneDoze .z) (z fun x => { x with stopped := true }) = true ∧ idle (.laneDoze .z) (z fun x => { x with load := some q }) = true := by
  decide +kernel

/-- ScanCommit: before the deadline, nothing to commit, Prism stopped, one lane, the start-up test not passed. -/
theorem test_commit :
    let v := inScan' (fun x => { x with voted := some Voted.none }) (opened 5)
    let p := inModl (fun x => { x with prismStop := true })
    let o := tb1At 800000 (inScan' (fun x => { x with isOpen := true, gridOn := true, due := true, gridPer := 1000 }) (adm [.x] on))
    deadlineCome v = true ∧ deadlineCome (tb1At 799999 v) = false ∧ idle .commit (tb1At 799999 v) = true ∧ idle .commit grid = true ∧
    rd (opened 5) R.PWR_STAT_PARK_ARM ≠ 1 ∧ (opened 5).scan.voted = none ∧
    ok (exec .commit (wr v R.PWR_STAT_PARK_ARM 1)) (fun t => t.scan.isOpen && !t.scan.due) = true ∧
    ok (exec .commit (p (opened 5))) (fun t => t.scan.isOpen && !t.scan.due) = true ∧ ok (exec .commit (p v)) (fun t => !t.scan.isOpen) = true ∧
    deadlineCome o = true ∧ (admittedLanes o).length < 2 ∧ o.scan.isOpen = true ∧ o.modl.prismStop = false ∧
    ok (exec .commit o) (fun t => !t.scan.isOpen && !t.scan.committed) = true ∧
    rdL (wrAll v R.PRISM_STAT_TEST_PASS 0) R.PRISM_STAT_TEST_PASS .x = 0 ∧ v.scan.committed = false ∧
    ok (exec .commit (wrAll v R.PRISM_STAT_TEST_PASS 0)) (fun t => !t.scan.isOpen && !t.scan.committed) = true := by decide +kernel

/-- ScanCommit: a voted scan is committed, a scan that is not is held, and discarded at SKIP_MAX. -/
theorem test_commitRuns :
    let v := inScan' (fun x => { x with voted := some Voted.none }) (opened 5)
    (admittedLanes v).length = 3 ∧ rdL v R.PRISM_STAT_TEST_PASS .x ≠ 0 ∧ v.scan.missed = false ∧ (∀ e ∈ Voted.none.image, e.1 < 0x50000) ∧
    ok (exec .commit v) (fun t => !t.scan.isOpen && t.scan.committed) = true ∧ rdL v R.SCAN_CTRL_SKIP_MAX .x = 3 ∧
    ok (exec .commit (wrAll (opened 5) R.SCAN_STAT_SKIP_CONSEC 1)) (fun t => t.scan.isOpen && rdL t R.SCAN_STAT_SKIP_CONSEC .x == 2
      && t.faults.lastCode == 0x0102) = true ∧
    ok (exec .commit (wrAll (opened 5) R.SCAN_STAT_SKIP_CONSEC 2)) (fun t => !t.scan.isOpen && t.scan.lastSkips == 3 && t.faults.deadline
      && t.faults.lastCode == 0x0103) = true := by decide +kernel

/-! ## Tumbler and the module -/

/-- TumblerOps: DIV and REM in the first slot of a bundle, their corners; a bundle of NOPs. -/
def pass0 : Pass :=
  let s := [0, 4, 8, 12].foldl (fun t o => w32 t (.progStore .x) o 0x80000000) on
  { s := s, rf := ⟨0, [(1, 0x80000000), (2, 0xFFFFFFFF)], 1⟩, due := [], store := none, seen := [] }
theorem test_tumbler : bits 0x00C00000 26 21 = 0x06 ∧ bits 0x00E00000 26 21 = 0x07 ∧ pass0.rf.word 1 = 0x80000000 ∧
    pass0.rf.word 2 = 0xFFFFFFFF ∧ pass0.rf.word 3 = 0 ∧ (∀ k ∈ [0, 1, 2, 3], r32 pass0.s (.progStore .x) (16 * 0 + 4 * k) = 0x80000000) ∧
    (ariExec .x 0 0 0x00C00880 0 pass0).due = [(12, .word 0 0x7FFFFFFF)] ∧ (ariExec .x 0 0 0x00C008C0 0 pass0).due = [(12, .word 0 0x80000000)] ∧
    (ariExec .x 0 0 0x00E00880 0 pass0).due = [(12, .word 0 0)] := by decide +kernel

/-- StepRunsFront: a command at the front of the queue, and none: running, in PARK, and with a capture latch that waits. -/
theorem test_step : ok (step { on with pending := [.dioTerminalChange 3 true, .tbSnap] }) (fun t => decide (t.pending = [.tbSnap])) = true ∧
    on.pending = [] ∧ ok (step on) (fun t => t.time.now == 4 && decide (t.mem = on.mem)) = true ∧
    ok (step (inModl (fun x => { x with power := .park }) on)) (fun t => t.time.now == 0) = true ∧
    (let s := inTime (fun x => { x with pll := true, latches := [⟨5, 0x77, 1, true, 0⟩] }) (inModl (fun x => { x with power := .run }) on)
     live s = true ∧ s.time.pll = true ∧ ok (step s) (fun t => t.time.latches.isEmpty && rb t .capData 0 == 0x77) = true) := by decide +kernel

/-- StepKeepsForm and SafeStays: a state in form, the module in SAFE with Prism stopped. -/
theorem test_safe : (up .run).wf = true ∧ (let s := safeState (up .run); s.modl.mode = .safe ∧ s.modl.prismStop = true ∧
    s.modl.nextMode = none ∧ s.modl.rst = false ∧ idle .commit s = true) := by decide +kernel

/-! ## What the well-formedness checks refuse, one term for each -/

theorem test_illFormed_frame :
    let f := frame 3 false []
    f.wellFormed = true ∧ ({ f with dst := 2 ^ 48 }).wellFormed = false ∧ ({ f with src := 2 ^ 48 }).wellFormed = false ∧
    ({ f with etype := 2 ^ 16 }).wellFormed = false ∧ ({ f with ver := 16 }).wellFormed = false ∧ ({ f with kind := 16 }).wellFormed = false ∧
    ({ f with node := 1024 }).wellFormed = false ∧ ({ f with slot := 4096 }).wellFormed = false ∧ ({ f with cycle := 2 ^ 32 }).wellFormed = false ∧
    ({ f with plen := 2048 }).wellFormed = false ∧ ({ f with hchk := 2 ^ 16 }).wellFormed = false ∧ ({ f with hop := 1024 }).wellFormed = false ∧
    ({ f with resv := 2 ^ 26 }).wellFormed = false ∧ ({ f with fcs := 2 ^ 32 }).wellFormed = false := by decide +kernel

theorem test_illFormed_cxFrame :
    let f : CxFrame := ⟨1, 2, 3, 0, 0, 1, 9, 0, 0, 0, 0, [], 0⟩
    f.wellFormed = true ∧ ({ f with ver := 16 }).wellFormed = false ∧ ({ f with kind := 16 }).wellFormed = false ∧
    ({ f with src := 4 }).wellFormed = false ∧ ({ f with dst := 4 }).wellFormed = false ∧ ({ f with frag := 256 }).wellFormed = false ∧
    ({ f with frags := 256 }).wellFormed = false ∧ ({ f with num := 2 ^ 32 }).wellFormed = false ∧ ({ f with dlen := 65536 }).wellFormed = false ∧
    ({ f with wlen := 65536 }).wellFormed = false ∧ ({ f with state := 256 }).wellFormed = false ∧ ({ f with resv := 4096 }).wellFormed = false ∧
    ({ f with data := List.replicate 257 0 }).wellFormed = false ∧ ({ f with crc := 2 ^ 32 }).wellFormed = false := by decide +kernel

theorem test_illFormed_commands :
    let bad := { frame 3 false [] with node := 1024 }
    let up : Upset := ⟨.inst, 4096, 0, 0⟩
    up.wellFormed = false ∧ ({ up with word := 4095 }).wellFormed = true ∧ (Instr.tumblerPass .x [up] []).wellFormed = false ∧ (Instr.tumblerPass .x [] [up]).wellFormed = false ∧
    (Instr.scrubSweep .x [up] [] [] []).wellFormed = false ∧ (Instr.scrubSweep .x [] [up] [] []).wellFormed = false ∧
    (Instr.scrubSweep .x [] [] [up] []).wellFormed = false ∧ (Instr.scrubSweep .x [] [] [] [up]).wellFormed = false ∧
    (Instr.csFrameTx (2 ^ 32)).wellFormed = false ∧ (Instr.dataSlotTx 0 0 (2 ^ 32)).wellFormed = false ∧
    (Instr.coreDone .x [(2 ^ 32, 0)] []).wellFormed = false ∧ (Instr.coreDone .x [] [up]).wellFormed = false ∧
    (Instr.linkFrameRx 0 bad 0 0).wellFormed = false ∧ (Instr.linkFrameRx 0 (frame 0 false []) 0 (2 ^ 32)).wellFormed = false ∧
    (Instr.frameForward 0 1 bad 0 320).wellFormed = false ∧ (Instr.frameForward 0 1 (frame 3 false []) 0 311).wellFormed = false ∧
    (Instr.frameForward 0 1 (frame 3 false []) 0 329).wellFormed = false ∧ (Instr.frameForward 0 1 (frame 3 false []) 0 328).wellFormed = true ∧ (Instr.csFrameRx 0 bad 0).wellFormed = false ∧
    (Instr.startupFrameRx 0 bad 0).wellFormed = false ∧ (Instr.dataFrameRx 0 bad 0 noLane noLane).wellFormed = false ∧
    (Instr.claimFrameRx 0 bad 0).wellFormed = false ∧ (Instr.wakeFrameRx 0 bad).wellFormed = false ∧
    (Instr.pslEthDatagramRx (2 ^ 32) []).wellFormed = false ∧ (Instr.maintEthLinkUp (2 ^ 32)).wellFormed = false ∧
    (Instr.arpRequestRx (2 ^ 32)).wellFormed = false ∧ (Instr.icmpEchoRx (2 ^ 32) []).wellFormed = false := by decide +kernel

theorem test_illFormed_more :
    let cx : CxFrame := ⟨1, 2, 4, 0, 0, 1, 9, 0, 0, 0, 0, [], 0⟩
    (Instr.cascadeSyncRx false cx 0 400).wellFormed = false ∧ (Instr.cascadeSyncRx false { cx with src := 0 } 0 409).wellFormed = false ∧ (Instr.cascadeSyncRx false { cx with src := 0 } 0 391).wellFormed = false ∧ (Instr.cascadeDataRx true cx).wellFormed = false ∧ (Instr.cascadeMboxRx true 0 1 cx).wellFormed = false ∧
    (Instr.aiConversion 0 65536 0 false).wellFormed = false ∧ (Instr.capRdIdxWrite 0 1024).wellFormed = false ∧
    (Instr.ptpSyncRx 256 0).wellFormed = false ∧ (Instr.ptpAnnounceRx 256 0).wellFormed = false ∧ (Instr.ptpAnnounceRx 0 65536).wellFormed = false ∧
    (Instr.ptpDelayRespRx 256 0).wellFormed = false ∧ (Instr.ptpSyncRx 0 (2 ^ 64)).wellFormed = false ∧ (Instr.ptpDelayRespRx 0 (2 ^ 64)).wellFormed = false ∧ (Instr.psWinWrite .x 4096 0).wellFormed = false ∧
    (Instr.psWinWrite .x 2 0).wellFormed = false ∧ (Instr.pcieInboundWrite true 0 [] 0).wellFormed = false ∧
    (Instr.pcieInboundRead true 0 0 true).wellFormed = false ∧ (Instr.lvlAdd 0 0 (2 ^ 32)).wellFormed = false ∧
    (Instr.rcFieldRead 0 (2 ^ 32, .b4)).wellFormed = false ∧ (Instr.registerWrite 0 (2 ^ 32) 0 .b4).wellFormed = false ∧
    (Instr.xferTimeout 256).wellFormed = false := by decide +kernel
end Sys2Proof.Tests
end

section
/-!
PROOFS. What one bundle of Tumbler does where none of its ops executes (03 R92, R94), and what DIV and REM leave at their
exceptions (03 R97).
-/

namespace Sys2Proof.Machine

/-! ## Flags and counts of a lane's block that hardware changes -/

variable (s : State)

/-- Raising a count of a lane's block touches no register but that count. -/
theorem keepsRegs_rcAddL (r : Row) (l : Lane) (n i : Nat) : KeepsRegs [r] s (rcAddL s r l n i) := fun q hq b j =>
  ((onlyRegs_rcOne (rcOne s r (satAdd r n) i l.idx) r (satAdd r n) i (4 + l.idx)).2 q hq b j).trans
    ((onlyRegs_rcOne s r (satAdd r n) i l.idx).2 q hq b j)

/-- The lane reads its count raised, saturated at the field's width; the Keeper's copy is another bank. -/
theorem rdL_rcAddL_self (r : Row) (l : Lane) (n i : Nat) :
    rdL (rcAddL s r l n i) r l i = satAdd r n (rdL s r l i) := by
  have hbank : l.idx ≠ 4 + l.idx := by omega
  have hfit : satAdd r n (rd s r l.idx i) < 2 ^ r.width := by
    have := Nat.two_pow_pos r.width
    unfold satAdd; omega
  calc rd (rcOne (rcOne s r (satAdd r n) i l.idx) r (satAdd r n) i (4 + l.idx)) r l.idx i
      = rd (rcOne s r (satAdd r n) i l.idx) r l.idx i := rd_wr_of_ne _ r r _ _ i _ i (.inr (.inl hbank)) fun _ => rfl
    _ = satAdd r n (rd s r l.idx i) % 2 ^ r.width := rd_rcOne_self s r _ i l.idx
    _ = satAdd r n (rd s r l.idx i) := Nat.mod_eq_of_lt hfit

/-- A flag of one bit that hardware has set reads 1. -/
theorem rdL_setFlagL_self (r : Row) (l : Lane) (hr : r.width = 1) : rdL (setFlagL s r l) r l = 1 := by
  have hbit : rd s r l.idx < 2 := by simpa [hr] using rd_lt s r l.idx 0
  have hset : rdL (setFlagL s r l) r l = Nat.lor (rd s r l.idx) 1 % 2 ^ r.width := rd_setFlag_self s r 1 l.idx 0
  rw [hset, hr]
  rcases (by omega : rd s r l.idx = 0 ∨ rd s r l.idx = 1) with h | h <;> rw [h] <;> rfl

/-- Setting a flag of a lane's block touches no register but that flag. -/
theorem keepsRegs_setFlagL (r : Row) (l : Lane) : KeepsRegs [r] s (setFlagL s r l) := (onlyRegs_setFlag s r 1 l.idx 0).2

/-! ## The exceptions of DIV and REM (R97) -/

/-- What an exception of DIV or REM leaves in the registers of its lane: DIV0 set, DIV0_CNT one more. -/
def noteDivExc (l : Lane) : State := rcAddL (setFlagL s R.TUM_STAT_DIV0 l) R.DIV0_CNT_COUNT l

theorem noteDivExc_mem (l : Lane) : (noteDivExc s l).mem = s.mem := by simp [noteDivExc, rcAddL, rcMap, setFlagL]

theorem rdL_noteDivExc_div0 (l : Lane) : rdL (noteDivExc s l) R.TUM_STAT_DIV0 l = 1 :=
  (keepsRegs_rcAddL _ _ l 1 0 R.TUM_STAT_DIV0 (by decide) l.idx 0).trans (rdL_setFlagL_self s _ l rfl)

theorem rdL_noteDivExc_count (l : Lane) :
    rdL (noteDivExc s l) R.DIV0_CNT_COUNT l = min (rdL s R.DIV0_CNT_COUNT l + 1) 0xFFFFFFFF :=
  (rdL_rcAddL_self _ _ l 1 0).trans
    (congrArg (satAdd R.DIV0_CNT_COUNT 1) (keepsRegs_setFlagL s R.TUM_STAT_DIV0 l R.DIV0_CNT_COUNT (by decide) l.idx 0))

theorem keepsRegs_noteDivExc (l : Lane) : KeepsRegs [R.TUM_STAT_DIV0, R.DIV0_CNT_COUNT] s (noteDivExc s l) :=
  fun q hq b i =>
    (keepsRegs_rcAddL _ R.DIV0_CNT_COUNT l 1 0 q (fun r hr => hq r (List.mem_cons_of_mem _ hr)) b i).trans
      (keepsRegs_setFlagL s R.TUM_STAT_DIV0 l q (fun r hr => hq r (List.mem_cons.mpr (.inl (List.mem_singleton.mp hr)))) b i)

/-- The two exceptions: a divisor 0, and the one quotient that overflows. -/
theorem divExc_iff (a b : Word) : divExc a b = true ↔ b = 0 ∨ (a = 0x80000000 ∧ b = 0xFFFFFFFF) := by simp [divExc]

/-- DIV at an exception: only a negative dividend by 0 gives the lower bound. -/
theorem ariWord_div_of_divExc {a b : Word} (h : divExc a b = true) :
    ariWord 0x06 a b = some (if b = 0 ∧ a.toInt < 0 then 0x80000000 else 0x7FFFFFFF) := by
  by_cases hb : b = 0
  · by_cases ha : a.toInt < 0
    · simp [ariWord, hb, ha]
    · simp [ariWord, hb, ha, Int.not_lt.mp ha]
  · simp only [ariWord, beq_iff_eq, hb, h, if_true, if_false, false_and]

/-- REM at an exception is 0. -/
theorem ariWord_rem_of_divExc {a b : Word} (h : divExc a b = true) : ariWord 0x07 a b = some 0 := by simp [ariWord, h]

/-- DIV or REM at an exception: its result is due 12 bundles on, the exception is noted, and nothing else of the pass changes. -/
theorem ariExec_of_divExc (l : Lane) (tx i w s2 : Nat) (p : Pass) (v : Word)
    (hop : bits w 26 21 = 0x06 ∨ bits w 26 21 = 0x07)
    (hexc : divExc (p.rf.word (bits w 15 11)) (p.rf.word (bits w 10 6)) = true)
    (hv : ariWord (bits w 26 21) (p.rf.word (bits w 15 11)) (p.rf.word (bits w 10 6)) = some v) :
    ariExec l tx i w s2 p = { p with s := noteDivExc p.s l, due := p.due ++ [(i + 12, .word (bits w 20 16) v)] } := by
  have hlat : ariLatency (bits w 26 21) = 12 := by rcases hop with h | h <;> rw [h] <;> rfl
  simp only [ariExec, noteDivExc, hv, hexc, hop, hlat, and_self, if_true]

/-! ## A bundle of NOPs (R94) -/

/-- P0 reads 1 and PN is 1, so the guard of a NOP is never met. -/
theorem opRuns_nop (r : TumRegs) : opRuns r 0x80000000 = false := by
  have hps : bits 0x80000000 30 27 = 0 := by decide
  have hpn : bitAt 0x80000000 31 = 1 := by decide
  simp [opRuns, TumRegs.pred, hps, hpn]

/-- An S0 that does not execute only lets the store of the bundle before complete. -/
theorem imgExec_of_not_runs (l : Lane) (i w : Nat) (r : TumRegs) (p : Pass) :
    imgExec l i w false r p = { p with s := storeExec l p.s p.store, store := none } := by
  simp [imgExec]

/-- While every result is due later, a bundle of NOPs only lets the store of the bundle before complete, and reads its own words. -/
theorem bundleStep_nop (l : Lane) (tx i : Nat) (p : Pass) (hdue : ∀ e ∈ p.due, i < e.1)
    (hnop : ∀ k, k < 4 → r32 p.s (.progStore l) (16 * i + 4 * k) = 0x80000000) :
    bundleStep l tx i p = { p with s := storeExec l p.s p.store, store := none,
                                   seen := p.seen ++ [(.prog, 2 * i), (.prog, 2 * i + 1)] } := by
  have hnone : p.due.filter (fun e => decide (e.1 ≤ i)) = [] := List.filter_eq_nil_iff.mpr fun e he => by simpa using hdue e he
  have hall : p.due.filter (fun e => !decide (e.1 ≤ i)) = p.due := List.filter_eq_self.mpr fun e he => by simpa using hdue e he
  have h0 := hnop 0 (by decide)
  have h1 := hnop 1 (by decide)
  have h2 := hnop 2 (by decide)
  have h3 := hnop 3 (by decide)
  have hlogs : bits 0x80000000 26 21 = 0 := by decide
  simp only [Nat.mul_zero, Nat.add_zero, Nat.mul_one, Nat.reduceMul] at h0 h1 h2 h3
  simp [bundleStep, hnone, hall, h0, h1, h2, h3, hlogs, opRuns_nop, imgExec_of_not_runs]

/-! ## The statement -/

/-- Settles O56: the NOP by its guard, DIV and REM by what an exception notes. -/
theorem tumblerOps : Obligations.TumblerOps := by
  unfold Obligations.TumblerOps
  refine fun l tx i p => ⟨⟨by decide, by decide, opRuns_nop⟩, bundleStep_nop l tx i p, ?_⟩
  intro w s2 hop a b q hab
  have hexc : divExc a b = true := (divExc_iff a b).mpr hab
  have hdiv : bits w 26 21 = 0x06 → ariWord (bits w 26 21) a b = some (if b = 0 ∧ a.toInt < 0 then 0x80000000 else 0x7FFFFFFF) :=
    fun h => h ▸ ariWord_div_of_divExc hexc
  have hrem : bits w 26 21 = 0x07 → ariWord (bits w 26 21) a b = some 0 := fun h => h ▸ ariWord_rem_of_divExc hexc
  obtain ⟨v, hv⟩ : ∃ v, ariWord (bits w 26 21) a b = some v := hop.elim (fun h => ⟨_, hdiv h⟩) (fun h => ⟨_, hrem h⟩)
  have hq : q = { p with s := noteDivExc p.s l, due := p.due ++ [(i + 12, .word (bits w 20 16) v)] } :=
    ariExec_of_divExc l tx i w s2 p v hop hexc hv
  rw [hq]
  refine ⟨fun h => ?_, fun h => ?_, rdL_noteDivExc_div0 p.s l, rdL_noteDivExc_count p.s l, ?_, rfl, noteDivExc_mem p.s l⟩
  · rw [Option.some.inj (hv.symm.trans (hdiv h))]
  · rw [Option.some.inj (hv.symm.trans (hrem h))]
  · exact keepsRegs_noteDivExc p.s l R.TUM_CLOCKS_CLOCKS (by decide) l.idx 0

end Sys2Proof.Machine
end

section
/-!
PROOFS. The reads of the time bases by a lane and by the Keeper, and their captures by TB_SNAP (09 R367).
-/

namespace Sys2Proof.Machine

variable (s : State)

/-! ## A read-only word of the time registers, read by a lane or by the Keeper (00 R15, 01 R46, 09 Table 9.5) -/

/-- At address `a` of reader `who`, in the blocks that lane `l` sees at `b`, the one field of a time register of Table 9.5 stands:
`r` at index `i`, read-only and from bit 0 on, of the bank that all readers share. -/
structure ShowsTimeWord (who a : Nat) (l : Lane) (b : Nat) (r : Row) (i : Nat) : Prop where
  pastMemories : 0x20000000 ≤ a
  aligned : a % 4 = 0
  noMemory : memPlace who a 4 false = none
  block : blockOf who a = some (l, b)
  timeBlock : 0x20020000 ≤ b ∧ b < 0x20022000
  listed : listed b = true
  rows : (regPlace who a).rows = [(r, i)]
  bank : (regPlace who a).bank = 0
  readOnly : r.acc = .ro
  fromBit0 : r.lo = 0

/-- A register of one read-only field from bit 0 on shows that field. -/
theorem readWord_singleton_ro {r : Row} (hacc : r.acc = .ro) (hlo : r.lo = 0) (i b rc : Nat) :
    readWord s [(r, i)] b rc = rd s r b i := by
  simp [readWord, hacc, hlo]

/-- Reading a register of one read-only field clears nothing. -/
theorem clearRc_singleton_ro {r : Row} (hacc : r.acc = .ro) (i rc : Nat) : clearRc s [(r, i)] rc = s := by
  simp [clearRc, hacc]

/-- Outside the spare status registers no value is computed at the read. -/
theorem spareWord_of_lt {b : Nat} (hb : b < 0x20064000) : spareWord s b = 0 :=
  if_neg fun h => absurd h.1 (Nat.not_le.mpr hb)

namespace ShowsTimeWord

variable {s} {who a b i : Nat} {l : Lane} {r : Row} (h : ShowsTimeWord who a l b r i)
include h

/-- The time registers are no window onto a memory. -/
theorem inWindow_eq : inWindow b = false := by
  obtain ⟨hlo, hhi⟩ := h.timeBlock
  simp only [inWindow, decide_eq_false_iff_not]
  omega

/-- The register read returns the field and changes nothing else. -/
theorem registerRead_eq : registerRead s who a = emit s (.read who (rd s r 0 i)) := by
  obtain ⟨hlo, hhi⟩ := h.timeBlock
  have hcvu : ¬ (0x20010000 ≤ b ∧ b < 0x20010100) := by omega
  have hspare : spareWord s b = 0 := spareWord_of_lt s (by omega)
  simp [registerRead, h.block, h.listed, h.inWindow_eq, fieldsRead, hcvu, hspare, h.rows, h.bank,
    readWord_singleton_ro s h.readOnly h.fromBit0, clearRc_singleton_ro _ h.readOnly]

/-- A read of four bytes there is a read of the whole register. -/
theorem accRead_eq : accRead s who a 4 = emit s (.read who (rd s r 0 i)) := by
  have hwhole : wholeRegister who a 4 = true := by simp [wholeRegister, h.aligned, h.block]
  simp [accRead, h.noMemory, hwhole, h.registerRead_eq]

/-- No Tumbler pass holds the access: the memories a pass guards lie elsewhere (03 R110). -/
theorem passHolds_eq : passHolds s who a = none := by
  have himg : ¬ (0x10000000 ≤ a ∧ a < 0x10050000) := by have := h.pastMemories; omega
  have hinst : ¬ (0x20038000 ≤ b ∧ b < 0x20040000) := by have := h.timeBlock; omega
  simp [passHolds, h.block, himg, hinst]

end ShowsTimeWord

/-- RC_FIELD_READ of a time register by a running core returns the field and changes nothing else. -/
theorem exec_rcFieldRead_of_showsTimeWord {reader : Fin 4} {a b i : Nat} {l : Lane} {r : Row}
    (h : ShowsTimeWord reader.val a l b r i) (hlive : live s = true) (hcore : coreUp s reader.val = true) :
    exec (.rcFieldRead reader (a, .b4)) s = .next (emit s (.read reader.val (rd s r 0 i))) := by
  have hrun : (live s && coreUp s reader.val) = true := by rw [hlive, hcore]; rfl
  calc exec (.rcFieldRead reader (a, .b4)) s
      = .next (holdOr s ⟨reader.val, false, a, 4, 0⟩ (accRead s reader.val a 4)) := if_pos hrun
    _ = .next (accRead s reader.val a 4) := by simp only [holdOr, h.passHolds_eq]
    _ = .next (emit s (.read reader.val (rd s r 0 i))) := by rw [h.accRead_eq]

/-! ## Where TB_VAL stands -/

/-- TB_VAL[n] is the one field at its address among the blocks that all lanes share. -/
theorem rowsAt_common_tbVal : ∀ n : Fin 4, rowsAt .common (0x20020010 + 4 * n.val) = [(R.TB_VAL_NS, n.val)] := by decide +kernel

/-- No field of the lanes' own blocks stands there. -/
theorem rowsAt_lane_tbVal : ∀ n : Fin 4, rowsAt .lane (0x20020010 + 4 * n.val) = [] := by decide +kernel

theorem listed_tbVal (n : Fin 4) : listed (0x20020010 + 4 * n.val) = true := by simp [listed, rowsAt_common_tbVal]

/-- In a lane's map the address of TB_VAL[n] shows the field alone, of the bank that all readers share. -/
theorem lanePlace_tbVal (n : Fin 4) (bank rcLane rcCommon : Nat) :
    lanePlace (0x20020010 + 4 * n.val) bank rcLane rcCommon = ⟨[(R.TB_VAL_NS, n.val)], 0, rcCommon⟩ := by
  have hidx : 0x20020010 + 4 * n.val ≠ 0x20020108 := by omega
  simp [lanePlace, rowsAt_lane_tbVal, rowsAt_common_tbVal, hidx]

/-- The reader of a number below 3 is a lane. -/
theorem exists_laneOf_of_lt {who : Nat} (h : who < 3) : ∃ l, laneOf who = some l := by
  match who with
  | 0 => exact ⟨.x, rfl⟩
  | 1 => exact ⟨.y, rfl⟩
  | 2 => exact ⟨.z, rfl⟩

/-- Above its image a lane reads no memory (01 Table 1.6). -/
theorem memPlace_lane_eq_none {who a n : Nat} {l : Lane} (hl : laneOf who = some l) (ha : 0x10050000 ≤ a) (hn : 0 < n) :
    memPlace who a n false = none := by
  have hsram : ¬ a + n ≤ 0x800000 := by omega
  have hshared : ¬ a + n ≤ 0x1100000 := by omega
  have himage : ¬ a + n ≤ 0x10050000 := by omega
  simp [memPlace, hl, hsram, hshared, himage]

/-- Above its flash window the Keeper reads no memory (14 Table 14.1). -/
theorem memPlace_keeper_eq_none {a n : Nat} (ha : 0x60000000 ≤ a) (hn : 0 < n) : memPlace 3 a n false = none := by
  have hsram : ¬ a + n ≤ 0x100000 := by omega
  have hshared : ¬ a + n ≤ 0x1100000 := by omega
  have hmram : ¬ a + n ≤ 0x44000000 := by omega
  have hflash : ¬ a + n ≤ 0x60000000 := by omega
  simp [memPlace, laneOf, hsram, hshared, hmram, hflash]

theorem inBlocks_tbVal (n : Fin 4) : inBlocks (0x20020010 + 4 * n.val) = true := by
  simp only [inBlocks, decide_eq_true_eq]
  omega

theorem regPlace_tbVal_lane {who : Nat} (hwho : who < 3) (n : Fin 4) :
    regPlace who (0x20020010 + 4 * n.val) = ⟨[(R.TB_VAL_NS, n.val)], 0, who⟩ := by
  simp [regPlace, Nat.ne_of_lt hwho, inBlocks_tbVal, lanePlace_tbVal]

/-- The Keeper's address of TB_VAL[n] lies in its window onto the blocks of lane X. -/
theorem keeperWindow_tbVal (n : Fin 4) : 0x60000000 ≤ 0x60020010 + 4 * n.val ∧ 0x60020010 + 4 * n.val < 0x63000000 ∧
    (0x60020010 + 4 * n.val) % 0x1000000 < 0x100000 := by omega

/-- That window shows the lane's own address. -/
theorem laneAddr_tbVal (n : Fin 4) : 0x20000000 + (0x60020010 + 4 * n.val) % 0x1000000 = 0x20020010 + 4 * n.val := by omega

theorem regPlace_tbVal_keeper (n : Fin 4) :
    regPlace 3 (0x60020010 + 4 * n.val) = ⟨[(R.TB_VAL_NS, n.val)], 0, 3⟩ := by
  calc regPlace 3 (0x60020010 + 4 * n.val)
      = lanePlace (0x20000000 + (0x60020010 + 4 * n.val) % 0x1000000) _ _ 3 := if_pos (keeperWindow_tbVal n)
    _ = ⟨[(R.TB_VAL_NS, n.val)], 0, 3⟩ := by rw [laneAddr_tbVal, lanePlace_tbVal]

theorem blockOf_tbVal_keeper (n : Fin 4) : blockOf 3 (0x60020010 + 4 * n.val) = some (.x, 0x20020010 + 4 * n.val) := by
  have hlane : (0x60020010 + 4 * n.val) / 0x1000000 - 0x60 = 0 := by omega
  calc blockOf 3 (0x60020010 + 4 * n.val)
      = (laneOf ((0x60020010 + 4 * n.val) / 0x1000000 - 0x60)).map
          (fun l => (l, 0x20000000 + (0x60020010 + 4 * n.val) % 0x1000000)) := if_pos (keeperWindow_tbVal n)
    _ = some (.x, 0x20020010 + 4 * n.val) := by rw [hlane, laneAddr_tbVal]; rfl

/-- TB_VAL[n] in the map of a lane (01 Table 1.6). -/
theorem showsTimeWord_tbVal_lane {who : Nat} {l : Lane} (hl : laneOf who = some l) (hwho : who < 3) (n : Fin 4) :
    ShowsTimeWord who (0x20020010 + 4 * n.val) l (0x20020010 + 4 * n.val) R.TB_VAL_NS n.val where
  pastMemories := by omega
  aligned := by omega
  noMemory := memPlace_lane_eq_none hl (by omega) (by decide)
  block := by simp [blockOf, hl, inBlocks_tbVal]
  timeBlock := by omega
  listed := listed_tbVal n
  rows := by rw [regPlace_tbVal_lane hwho]
  bank := by rw [regPlace_tbVal_lane hwho]
  readOnly := rfl
  fromBit0 := rfl

/-- TB_VAL[n] in the Keeper's window onto the blocks of lane X (14 Table 14.1). -/
theorem showsTimeWord_tbVal_keeper (n : Fin 4) :
    ShowsTimeWord 3 (0x60020010 + 4 * n.val) .x (0x20020010 + 4 * n.val) R.TB_VAL_NS n.val where
  pastMemories := by omega
  aligned := by omega
  noMemory := memPlace_keeper_eq_none (by omega) (by decide)
  block := blockOf_tbVal_keeper n
  timeBlock := by omega
  listed := listed_tbVal n
  rows := by rw [regPlace_tbVal_keeper]
  bank := by rw [regPlace_tbVal_keeper]
  readOnly := rfl
  fromBit0 := rfl

/-! ## The captures of TB_SNAP -/

/-- The first `k` values of a field copied to another one, in the order of their indices. -/
def copyFields (r q : Row) (k : Nat) : State :=
  (List.range k).foldl (fun t n => wr t q (rd t r 0 n) 0 n) s

theorem copyFields_succ (r q : Row) (k : Nat) :
    copyFields s r q (k + 1) = wr (copyFields s r q k) q (rd (copyFields s r q k) r 0 k) 0 k := by
  simp [copyFields, List.range_succ]

theorem snapshot_eq : snapshot s = wr (copyFields s R.TB_VAL_NS R.SNAP_NS 4) R.SNAP2_HI_NS (s.time.tb2 / 2 ^ 32) := rfl

/-- Copying changes the destination alone. -/
theorem onlyRegs_copyFields (r q : Row) (k : Nat) : OnlyRegs [q] s (copyFields s r q k) := by
  induction k with
  | zero => exact OnlyRegs.refl s [q]
  | succ k ih =>
    rw [copyFields_succ]
    exact ih.trans (onlyRegs_wr _ q _ 0 k) fun _ h => h

/-- The copy holds what the source held before the copy, where both are as wide and the source is another field. -/
theorem rd_copyFields (r q : Row) (hid : r.id ≠ q.id) (hwidth : r.width = q.width) (k : Nat) :
    ∀ n < k, rd (copyFields s r q k) q 0 n = rd s r 0 n := by
  induction k with
  | zero => exact fun n hn => absurd hn (Nat.not_lt_zero n)
  | succ k ih =>
    intro n hn
    have hsource : rd (copyFields s r q k) r 0 k = rd s r 0 k :=
      (onlyRegs_copyFields s r q k).2 r (by simpa using hid) 0 k
    rw [copyFields_succ, rd_wr_same, hsource]
    rcases Nat.lt_succ_iff_lt_or_eq.mp hn with hlt | rfl
    · simpa [Nat.ne_of_lt hlt] using ih n hlt
    · simpa using Nat.mod_eq_of_lt (hwidth ▸ rd_lt s r 0 n)

/-- SNAP[n] holds TB_VAL[n] as it stood. -/
theorem rd_snapshot_snap {n : Nat} (hn : n < 4) : rd (snapshot s) R.SNAP_NS 0 n = rd s R.TB_VAL_NS 0 n := by
  rw [snapshot_eq, rd_wr_other _ _ _ _ _ _ _ _ (by decide)]
  exact rd_copyFields s R.TB_VAL_NS R.SNAP_NS (by decide) rfl 4 n hn

/-- SNAP2_HI holds the upper half of TB[2]. -/
theorem rd_snapshot_snap2Hi : rd (snapshot s) R.SNAP2_HI_NS = s.time.tb2 / 2 ^ 32 % 2 ^ 32 :=
  rd_wr_self _ R.SNAP2_HI_NS _ 0 0

/-- The captures change SNAP and SNAP2_HI alone. -/
theorem onlyRegs_snapshot : OnlyRegs [R.SNAP_NS, R.SNAP2_HI_NS] s (snapshot s) :=
  ((onlyRegs_copyFields s R.TB_VAL_NS R.SNAP_NS 4).trans (OnlyRegs.refl _ _) (by simp)).trans
    ((onlyRegs_wr _ R.SNAP2_HI_NS _ 0 0).trans (OnlyRegs.refl _ _) (by simp)) fun _ h => h

/-! ## The statement -/

/-- Settles O33: TB_VAL is read through either map as the one field of its register; the captures by their writes in turn. -/
theorem timeSnapshot : Obligations.TimeSnapshot := by
  unfold Obligations.TimeSnapshot
  intro s hlive
  refine ⟨fun reader n hlt hcore => ?_, fun n => ?_, snapshot s, if_pos hlive, fun n hn => rd_snapshot_snap s hn,
    rd_snapshot_snap2Hi s, onlyRegs_snapshot s⟩
  · obtain ⟨l, hl⟩ := exists_laneOf_of_lt hlt
    exact exec_rcFieldRead_of_showsTimeWord s (showsTimeWord_tbVal_lane hl hlt n) hlive hcore
  · exact exec_rcFieldRead_of_showsTimeWord s (showsTimeWord_tbVal_keeper n) hlive rfl

end Sys2Proof.Machine
end
